-- ==== Sys2Proof/Word.lean ====
section
/-! DEFINITION. The words of the AP48: bytes of the ports and lanes, cells of pattern memory, and the 16-bit
sets and checks. Positions, counts, angles, times and addresses are plain numbers. -/

namespace Sys2Proof

/-- A byte of a port transaction or of a drive lane frame (10, R156, R164). -/
abbrev Byte := BitVec 8

/-- One cell of pattern memory, 16 bits (02, R19). -/
abbrev Cell := BitVec 16

/-- A set of 16 event flags, or the mask that names some of them (10, R161, R162). -/
abbrev EventSet := BitVec 16

/-- A 16-bit segment check (09, R150). -/
abbrev Check := BitVec 16

end Sys2Proof
end

