-- ==== Sys2Proof/Machine/Bytes.lean ====
section
/-! DEFINITION. Byte order: every multi-byte field is sent most significant byte first (section 10.8), a cell as p2 and
then p1. -/

namespace Sys2Proof.Machine

/-- `n` as a field of one byte. -/
def field1 (n : Nat) : List Byte := [BitVec.ofNat 8 n]

/-- `n` as a field of two bytes. -/
def field2 (n : Nat) : List Byte := [BitVec.ofNat 8 (n / 256), BitVec.ofNat 8 n]

/-- `n` as a field of three bytes. -/
def field3 (n : Nat) : List Byte := BitVec.ofNat 8 (n / 65536) :: field2 n

/-- `n` as a field of four bytes. -/
def field4 (n : Nat) : List Byte := BitVec.ofNat 8 (n / 16777216) :: field3 n

/-- A flag as a field of one byte, 0 when clear and 1 when set. -/
def fieldFlag (b : Bool) : List Byte := field1 b.toNat

/-- The value of a field, most significant byte first. -/
def fieldValue (bytes : List Byte) : Nat := bytes.foldl (fun acc b => acc * 256 + b.toNat) 0

/-- A byte built from flags, the first in bit 0. -/
def packFlags : List Bool → Nat
  | [] => 0
  | b :: rest => b.toNat + 2 * packFlags rest

/-- Cells as bytes, each p2 first. -/
def cellBytes (cells : List Cell) : List Byte := cells.flatMap fun c => field2 c.toNat

/-- The cells that a run of bytes carries. -/
def cellsOfBytes : List Byte → List Cell
  | hi :: lo :: rest => BitVec.ofNat 16 (fieldValue [hi, lo]) :: cellsOfBytes rest
  | _ => []

end Sys2Proof.Machine
end

