-- ==== Sys2Proof/Syntax.lean ====
section
/-! DEFINITION. The commands and events the part takes: one constructor for each row of spec/opcode_table.json, with the
row's operands. A port command carries the port it is taken from and the argument fields of section 10.8; a row whose
rule reads the 1 MHz timebase carries that reading, in µs, as its last operand (log entry 2). -/

namespace Sys2Proof

/-- The two processor ports (10). -/
inductive Port where
  | m
  | d
  deriving DecidableEq, Repr

/-- What an edge of encoder A or B shows (R1): a count in one direction, or, where A and B are seen to change together,
no direction. -/
inductive Edge where
  | forward
  | reverse
  | together
  deriving DecidableEq, Repr

/-- The machine constants (01, section 1.7), as held and as the arguments of SET_CONSTANTS. -/
structure MachineConstants where
  /-- C, shaft counts per revolution -/
  counts : Nat
  /-- O_s, overlap window start -/
  overlapStart : Nat
  /-- O_e, overlap window end and deadline -/
  overlapEnd : Nat
  /-- U_s, underlap window start -/
  underlapStart : Nat
  /-- U_e, underlap window end and deadline -/
  underlapEnd : Nat
  /-- S, stagger step between groups -/
  stagger : Nat
  maxRpm : Nat
  crawlRpm : Nat
  /-- L, look-ahead of the governing ceiling -/
  lookAhead : Nat
  /-- drive slack, µs -/
  slack : Nat
  deriving DecidableEq, Repr

/-- A reply frame as it stands on a drive lane (R164, section 10.8): its three bytes, and whether it was cut off. -/
structure ReplyFrame where
  head : Byte
  value : Byte
  check : Byte
  cutOff : Bool
  deriving DecidableEq, Repr

/-- One constructor per row of spec/opcode_table.json. -/
inductive Instr where
  | powerUp
  | resetInput
  | encoderCount (edge : Edge) (time : Nat)
  | encoderIndex
  | simulatedCount (time : Nat)
  | stillTimerExpiry (time : Nat)
  | buildBegin
  | builderFetch
  | append
  | orderFrameSent (lane time : Nat)
  | taken (lane address time : Nat)
  | inPosition (lane address position : Nat)
  | fault (lane address code : Nat)
  | replyFrameIgnored (lane : Nat) (frame : ReplyFrame) (time : Nat)
  | takeLimitExpiry (bar time : Nat)
  | moveLimitExpiry (bar time : Nat)
  | chunk
  | readCellsGrant (port : Port)
  | writeCellsGrant (port : Port)
  | transactionBegin (port : Port)
  | transactionEnd (port : Port) (bits : Nat)
  | replyRead (port : Port)
  | unknownCommand (port : Port) (code : Byte)
  | status (port : Port)
  | eventsRead (port : Port)
  | eventsClear (port : Port) (mask : EventSet)
  | eventsEnable (port : Port) (mask : EventSet)
  | shaftLatch (port : Port)
  | shaftRead (port : Port)
  | getConstants (port : Port)
  | setConstants (port : Port) (constants : MachineConstants) (time : Nat)
  | setSource (port : Port) (source time : Nat)
  | simSpeed (port : Port) (rate time : Nat)
  | simGate (port : Port) (gate time : Nat)
  | readCells (port : Port) (address count : Nat)
  | writeCells (port : Port) (address count : Nat) (cells : List Cell)
  | regionSet (port : Port) (region base size : Nat)
  | regionClear (port : Port) (region : Nat)
  | regionGet (port : Port) (region : Nat)
  | lock (port : Port) (region : Nat)
  | unlock (port : Port) (region : Nat)
  | lockDown (port : Port) (region : Nat)
  | map (port : Port) (segment base courses bars : Nat) (expected : Check)
  | mapCancel (port : Port) (segment : Nat)
  | mapClear (port : Port) (segment : Nat)
  | mapGet (port : Port) (segment : Nat)
  | seqWrite (port : Port) (entry segment repeats flags : Nat)
  | seqForm (port : Port) (length mode : Nat)
  | seqRepeat (port : Port) (entry repeats : Nat)
  | seqGet (port : Port) (entry : Nat)
  | setClass (port : Port) (cls base perSpace : Nat)
  | setBar (port : Port) (bar enabled lane address cls limit : Nat)
  | home (port : Port) (bar : Nat)
  | placeBar (port : Port) (bar position : Nat)
  | getBar (port : Port) (bar : Nat)
  | queueRead (port : Port) (list index : Nat)
  | arm (port : Port) (entry iteration course : Nat)
  | disarm (port : Port)
  | resume (port : Port)
  | restart (port : Port)
  | clearStop (port : Port)
  | continueRun (port : Port)
  | opFill (port : Port) (region : Nat) (value : Cell)
  | opCopy (port : Port) (source destination count : Nat)
  | opCheck (port : Port) (segment mapping : Nat)
  | opSuspend (port : Port)
  | opResume (port : Port)
  | opAbort (port : Port)
  | opStatus (port : Port)
  | resetRelease
  deriving DecidableEq, Repr

end Sys2Proof
end

