-- ==== Sys2Proof/WellFormed.lean ====
section
/-! DEFINITION. Which commands and events can occur: every argument fits its field of section 10.8, lanes, addresses and
bars exist, a decoded drive reply carries a value its frame may carry (R164), and WRITE_CELLS carries as many cells as
R156 makes the port read. -/

namespace Sys2Proof

/-- `n` fits a field of `bytes` bytes. -/
def fits (bytes n : Nat) : Bool := n < 256 ^ bytes

/-- The command codes of section 10.8, and 00H, the reply read. Every other code is unknown (R156). -/
def knownCodes : List Nat :=
  [0x00, 0x01, 0x02, 0x03, 0x04, 0x08, 0x09, 0x0A, 0x0B, 0x0C, 0x0D, 0x0E, 0x10, 0x11, 0x14, 0x15, 0x16, 0x17, 0x18,
   0x19, 0x20, 0x21, 0x22, 0x23, 0x28, 0x29, 0x2A, 0x2B, 0x30, 0x31, 0x32, 0x33, 0x34, 0x38] ++
  [0x40, 0x41, 0x42, 0x43, 0x44, 0x45, 0x48, 0x49, 0x4A, 0x4B, 0x4C, 0x4D, 0x4E]

/-- The fields of SET_CONSTANTS (section 10.8). -/
def MachineConstants.fitsFields (k : MachineConstants) : Bool :=
  fits 2 k.counts && fits 2 k.overlapStart && fits 2 k.overlapEnd && fits 2 k.underlapStart && fits 2 k.underlapEnd &&
  fits 1 k.stagger && fits 2 k.maxRpm && fits 2 k.crawlRpm && fits 1 k.lookAhead && fits 2 k.slack

/-- How many cells WRITE_CELLS carries for the count byte `n`: none are read when it is 0 or above 128 (R156). -/
def cellsCarried (n : Nat) : Nat := if n ≤ 128 then n else 0

/-- The commands and events that can occur. -/
def Instr.wellFormed : Instr → Bool
  | .powerUp => true
  | .resetInput => true
  | .encoderCount _ _ => true
  | .encoderIndex => true
  | .simulatedCount _ => true
  | .stillTimerExpiry _ => true
  | .buildBegin => true
  | .builderFetch => true
  | .append => true
  | .orderFrameSent l _ => l < 4
  | .taken l a _ => l < 4 && a < 16
  | .inPosition l a pos => l < 4 && a < 16 && pos ≤ 127
  | .fault l a c => l < 4 && a < 16 && 1 ≤ c && c ≤ 255
  | .replyFrameIgnored l _ _ => l < 4
  | .takeLimitExpiry b _ => b < 48
  | .moveLimitExpiry b _ => b < 48
  | .chunk => true
  | .readCellsGrant _ => true
  | .writeCellsGrant _ => true
  | .transactionBegin _ => true
  | .transactionEnd _ _ => true
  | .replyRead _ => true
  | .unknownCommand _ c => !knownCodes.contains c.toNat
  | .status _ => true
  | .eventsRead _ => true
  | .eventsClear _ _ => true
  | .eventsEnable _ _ => true
  | .shaftLatch _ => true
  | .shaftRead _ => true
  | .getConstants _ => true
  | .setConstants _ k _ => k.fitsFields
  | .setSource _ x _ => fits 1 x
  | .simSpeed _ r _ => fits 2 r
  | .simGate _ g _ => fits 1 g
  | .readCells _ a n => fits 3 a && fits 1 n
  | .writeCells _ a n cs => fits 3 a && fits 1 n && cs.length == cellsCarried n
  | .regionSet _ r b z => fits 1 r && fits 3 b && fits 3 z
  | .regionClear _ r => fits 1 r
  | .regionGet _ r => fits 1 r
  | .lock _ r => fits 1 r
  | .unlock _ r => fits 1 r
  | .lockDown _ r => fits 1 r
  | .map _ g b c n _ => fits 1 g && fits 3 b && fits 2 c && fits 1 n
  | .mapCancel _ g => fits 1 g
  | .mapClear _ g => fits 1 g
  | .mapGet _ g => fits 1 g
  | .seqWrite _ e g n f => fits 1 e && fits 1 g && fits 2 n && fits 1 f
  | .seqForm _ l m => fits 1 l && fits 1 m
  | .seqRepeat _ e n => fits 1 e && fits 2 n
  | .seqGet _ e => fits 1 e
  | .setClass _ c tb ts => fits 1 c && fits 2 tb && fits 2 ts
  | .setBar _ b en l a c t => fits 1 b && fits 1 en && fits 1 l && fits 1 a && fits 1 c && fits 1 t
  | .home _ b => fits 1 b
  | .placeBar _ b x => fits 1 b && fits 1 x
  | .getBar _ b => fits 1 b
  | .queueRead _ l i => fits 1 l && fits 1 i
  | .arm _ e r c => fits 1 e && fits 2 r && fits 2 c
  | .disarm _ => true
  | .resume _ => true
  | .restart _ => true
  | .clearStop _ => true
  | .continueRun _ => true
  | .opFill _ r _ => fits 1 r
  | .opCopy _ a b n => fits 3 a && fits 3 b && fits 3 n
  | .opCheck _ g w => fits 1 g && fits 1 w
  | .opSuspend _ => true
  | .opResume _ => true
  | .opAbort _ => true
  | .opStatus _ => true
  | .resetRelease => true

end Sys2Proof
end

