-- ==== Sys2Proof/Decode.lean ====
section
/-! DEFINITION. Command frames. spec/opcode_table.json gives no row any bits, so a table word spells no command. The port
command frames of section 10.8 are read and written here: the transaction in progress holds their bytes (R156). -/

namespace Sys2Proof

open Sys2Proof.Machine

/-- No row of the table gives bits: no word spells a command. -/
def decodeTableWord (_nbits _w : Nat) : Option Instr := none

/-- SET_CONSTANTS's eighteen argument bytes. -/
def constantsFields (k : MachineConstants) : List Byte :=
  field2 k.counts ++ field2 k.overlapStart ++ field2 k.overlapEnd ++ field2 k.underlapStart ++ field2 k.underlapEnd ++
  field1 k.stagger ++ field2 k.maxRpm ++ field2 k.crawlRpm ++ field1 k.lookAhead ++ field2 k.slack

/-- The bytes of a port command's frame, code first (section 10.8). An event has none. -/
def commandFrame : Instr → List Byte
  | .powerUp => []
  | .resetInput => []
  | .encoderCount _ _ => []
  | .encoderIndex => []
  | .simulatedCount _ => []
  | .stillTimerExpiry _ => []
  | .buildBegin => []
  | .builderFetch => []
  | .append => []
  | .orderFrameSent _ _ => []
  | .taken _ _ _ => []
  | .inPosition _ _ _ => []
  | .fault _ _ _ => []
  | .replyFrameIgnored _ _ _ => []
  | .takeLimitExpiry _ _ => []
  | .moveLimitExpiry _ _ => []
  | .chunk => []
  | .readCellsGrant _ => []
  | .writeCellsGrant _ => []
  | .transactionBegin _ => []
  | .transactionEnd _ _ => []
  | .replyRead _ => [0x00#8]
  | .unknownCommand _ c => [c]
  | .status _ => [0x01#8]
  | .eventsRead _ => [0x02#8]
  | .eventsClear _ mask => 0x03#8 :: field2 mask.toNat
  | .eventsEnable _ mask => 0x04#8 :: field2 mask.toNat
  | .shaftLatch _ => [0x08#8]
  | .shaftRead _ => [0x09#8]
  | .getConstants _ => [0x0A#8]
  | .setConstants _ k _ => 0x0B#8 :: constantsFields k
  | .setSource _ source _ => 0x0C#8 :: field1 source
  | .simSpeed _ rate _ => 0x0D#8 :: field2 rate
  | .simGate _ gate _ => 0x0E#8 :: field1 gate
  | .readCells _ a n => 0x10#8 :: (field3 a ++ field1 n)
  | .writeCells _ a n cells => 0x11#8 :: (field3 a ++ field1 n ++ cellBytes cells)
  | .regionSet _ r base size => 0x14#8 :: (field1 r ++ field3 base ++ field3 size)
  | .regionClear _ r => 0x15#8 :: field1 r
  | .regionGet _ r => 0x16#8 :: field1 r
  | .lock _ r => 0x17#8 :: field1 r
  | .unlock _ r => 0x18#8 :: field1 r
  | .lockDown _ r => 0x19#8 :: field1 r
  | .map _ g base courses bars check =>
      0x20#8 :: (field1 g ++ field3 base ++ field2 courses ++ field1 bars ++ field2 check.toNat)
  | .mapCancel _ g => 0x21#8 :: field1 g
  | .mapClear _ g => 0x22#8 :: field1 g
  | .mapGet _ g => 0x23#8 :: field1 g
  | .seqWrite _ e g n f => 0x28#8 :: (field1 e ++ field1 g ++ field2 n ++ field1 f)
  | .seqForm _ l mode => 0x29#8 :: (field1 l ++ field1 mode)
  | .seqRepeat _ e n => 0x2A#8 :: (field1 e ++ field2 n)
  | .seqGet _ e => 0x2B#8 :: field1 e
  | .setClass _ c tb ts => 0x30#8 :: (field1 c ++ field2 tb ++ field2 ts)
  | .setBar _ b en l a c t => 0x31#8 :: (field1 b ++ field1 en ++ field1 l ++ field1 a ++ field1 c ++ field1 t)
  | .home _ b => 0x32#8 :: field1 b
  | .placeBar _ b x => 0x33#8 :: (field1 b ++ field1 x)
  | .getBar _ b => 0x34#8 :: field1 b
  | .queueRead _ l i => 0x38#8 :: (field1 l ++ field1 i)
  | .arm _ e r c => 0x40#8 :: (field1 e ++ field2 r ++ field2 c)
  | .disarm _ => [0x41#8]
  | .resume _ => [0x42#8]
  | .restart _ => [0x43#8]
  | .clearStop _ => [0x44#8]
  | .continueRun _ => [0x45#8]
  | .opFill _ r v => 0x48#8 :: (field1 r ++ field2 v.toNat)
  | .opCopy _ a b n => 0x49#8 :: (field3 a ++ field3 b ++ field3 n)
  | .opCheck _ g w => 0x4A#8 :: (field1 g ++ field1 w)
  | .opSuspend _ => [0x4B#8]
  | .opResume _ => [0x4C#8]
  | .opAbort _ => [0x4D#8]
  | .opStatus _ => [0x4E#8]
  | .resetRelease => []

/-- Reads a frame of WRITE_CELLS after its count byte: 2 × n bytes of cells, or none where n is 0 or above 128 (R156). -/
def readCellArguments (p : Port) (address n : Nat) (bytes : List Byte) : Option Instr :=
  if bytes.length = 2 * cellsCarried n then some (.writeCells p address n (cellsOfBytes bytes)) else none

/-- The command that a whole frame received on port `p` gives (R156, section 10.8); `time` is the timebase reading at its
last byte. A frame with fewer or more argument bytes than its code's gives none. -/
def readFrame (p : Port) (time : Nat) : List Byte → Option Instr
  | [] => none
  | code :: args =>
    match code.toNat, args with
    | 0x00, [] => some (.replyRead p)
    | 0x01, [] => some (.status p)
    | 0x02, [] => some (.eventsRead p)
    | 0x03, [a, b] => some (.eventsClear p (BitVec.ofNat 16 (fieldValue [a, b])))
    | 0x04, [a, b] => some (.eventsEnable p (BitVec.ofNat 16 (fieldValue [a, b])))
    | 0x08, [] => some (.shaftLatch p)
    | 0x09, [] => some (.shaftRead p)
    | 0x0A, [] => some (.getConstants p)
    | 0x0B, [c1, c0, s1, s0, e1, e0, u1, u0, v1, v0, g, m1, m0, w1, w0, l, k1, k0] =>
        some (.setConstants p
          { counts := fieldValue [c1, c0], overlapStart := fieldValue [s1, s0], overlapEnd := fieldValue [e1, e0],
            underlapStart := fieldValue [u1, u0], underlapEnd := fieldValue [v1, v0], stagger := fieldValue [g],
            maxRpm := fieldValue [m1, m0], crawlRpm := fieldValue [w1, w0], lookAhead := fieldValue [l],
            slack := fieldValue [k1, k0] } time)
    | 0x0C, [a] => some (.setSource p (fieldValue [a]) time)
    | 0x0D, [a, b] => some (.simSpeed p (fieldValue [a, b]) time)
    | 0x0E, [a] => some (.simGate p (fieldValue [a]) time)
    | 0x10, [a, b, c, n] => some (.readCells p (fieldValue [a, b, c]) (fieldValue [n]))
    | 0x11, a :: b :: c :: n :: cells => readCellArguments p (fieldValue [a, b, c]) (fieldValue [n]) cells
    | 0x14, [r, a, b, c, x, y, z] =>
        some (.regionSet p (fieldValue [r]) (fieldValue [a, b, c]) (fieldValue [x, y, z]))
    | 0x15, [r] => some (.regionClear p (fieldValue [r]))
    | 0x16, [r] => some (.regionGet p (fieldValue [r]))
    | 0x17, [r] => some (.lock p (fieldValue [r]))
    | 0x18, [r] => some (.unlock p (fieldValue [r]))
    | 0x19, [r] => some (.lockDown p (fieldValue [r]))
    | 0x20, [g, a, b, c, k1, k0, n, x1, x0] =>
        some (.map p (fieldValue [g]) (fieldValue [a, b, c]) (fieldValue [k1, k0]) (fieldValue [n])
          (BitVec.ofNat 16 (fieldValue [x1, x0])))
    | 0x21, [g] => some (.mapCancel p (fieldValue [g]))
    | 0x22, [g] => some (.mapClear p (fieldValue [g]))
    | 0x23, [g] => some (.mapGet p (fieldValue [g]))
    | 0x28, [e, g, n1, n0, f] =>
        some (.seqWrite p (fieldValue [e]) (fieldValue [g]) (fieldValue [n1, n0]) (fieldValue [f]))
    | 0x29, [l, mode] => some (.seqForm p (fieldValue [l]) (fieldValue [mode]))
    | 0x2A, [e, n1, n0] => some (.seqRepeat p (fieldValue [e]) (fieldValue [n1, n0]))
    | 0x2B, [e] => some (.seqGet p (fieldValue [e]))
    | 0x30, [c, b1, b0, s1, s0] =>
        some (.setClass p (fieldValue [c]) (fieldValue [b1, b0]) (fieldValue [s1, s0]))
    | 0x31, [b, en, l, a, c, t] =>
        some (.setBar p (fieldValue [b]) (fieldValue [en]) (fieldValue [l]) (fieldValue [a]) (fieldValue [c])
          (fieldValue [t]))
    | 0x32, [b] => some (.home p (fieldValue [b]))
    | 0x33, [b, x] => some (.placeBar p (fieldValue [b]) (fieldValue [x]))
    | 0x34, [b] => some (.getBar p (fieldValue [b]))
    | 0x38, [l, i] => some (.queueRead p (fieldValue [l]) (fieldValue [i]))
    | 0x40, [e, r1, r0, c1, c0] => some (.arm p (fieldValue [e]) (fieldValue [r1, r0]) (fieldValue [c1, c0]))
    | 0x41, [] => some (.disarm p)
    | 0x42, [] => some (.resume p)
    | 0x43, [] => some (.restart p)
    | 0x44, [] => some (.clearStop p)
    | 0x45, [] => some (.continueRun p)
    | 0x48, [r, v1, v0] => some (.opFill p (fieldValue [r]) (BitVec.ofNat 16 (fieldValue [v1, v0])))
    | 0x49, [a, b, c, x, y, z, n2, n1, n0] =>
        some (.opCopy p (fieldValue [a, b, c]) (fieldValue [x, y, z]) (fieldValue [n2, n1, n0]))
    | 0x4A, [g, w] => some (.opCheck p (fieldValue [g]) (fieldValue [w]))
    | 0x4B, [] => some (.opSuspend p)
    | 0x4C, [] => some (.opResume p)
    | 0x4D, [] => some (.opAbort p)
    | 0x4E, [] => some (.opStatus p)
    | c, [] => if knownCodes.contains c then none else some (.unknownCommand p code)
    | _, _ => none

end Sys2Proof
end

