-- ==== Sys2Proof/Config.lean ====
section
/-! DEFINITION. What an implementation fixes, and the free values: values the spec leaves open. They have no body, so
nothing can be proved of them. -/

namespace Sys2Proof.Config

/-- FREE VALUE. The measured speed reported for a last measured period of 0 µs, where R10's division has no quotient
(log entry 24). -/
opaque speedOfZeroPeriod : BitVec 16

/-- FREE VALUE. What the two-byte speed field of STATUS holds for a measured speed above 65,535 rpm, which it cannot
carry (section 10.8; log entry 24). -/
opaque speedFieldAbove16Bits : Nat → BitVec 16

/-- FREE VALUE. The byte by which OP_STATUS reports "no kind" (R154 names the case, section 10.8 gives it no code; log
entry 23). -/
opaque noKindCode : BitVec 8

/-- FREE VALUE. The fault course number field of STATUS while the fault record holds no course number: its presence bit
reads 0, and section 10.8 states no value for the field (log entry 25). -/
opaque absentFaultCourse : BitVec 32

end Sys2Proof.Config
end

