-- ==== Sys2Proof/Machine/State.lean ====
section
/-! DEFINITION. The state of the AP48, block by block, as plain data; why a step can stop; and the state after power-up. -/

namespace Sys2Proof.Machine

/-! ### Shaft tracker (01) -/

/-- R8. -/
inductive Motion where
  | still
  | forward
  | reverse
  deriving DecidableEq, Repr

/-- The shaft source (R11). -/
inductive Source where
  | encoder
  | simulated
  deriving DecidableEq, Repr

/-- The simulated shaft's count schedule while it runs (R12): its start and the counts it has given since. -/
structure Schedule where
  start : Nat
  given : Nat
  deriving DecidableEq, Repr

/-- A port's latched copy of the shaft (R14). -/
structure Snapshot where
  counter : Nat
  /-- absent when the angle was invalid -/
  angle : Option Nat
  motion : Motion
  period : Option Nat
  /-- absent when the queue was empty -/
  headCourse : Option Nat
  deriving DecidableEq, Repr

/-- The shaft tracker (R18). -/
structure Tracker where
  counter : Nat
  angleValid : Bool
  motion : Motion
  /-- the time of the last count while the still timer runs (R8) -/
  stillTimer : Option Nat
  /-- start time of the period measurement (R9) -/
  startTime : Option Nat
  /-- last measured period, µs (R9) -/
  period : Option Nat
  source : Source
  simRate : Nat
  simGate : Bool
  schedule : Option Schedule
  snapshotM : Option Snapshot
  snapshotD : Option Snapshot
  deriving DecidableEq, Repr

/-! ### Pattern memory, arbiter and region table (02) -/

/-- An accessor of pattern memory (02, section 2.3). -/
inductive Accessor where
  | builder
  | port (p : Port)
  | engine
  deriving DecidableEq, Repr

/-- A port's cell access that waits for its grant or is in it (R21, R22). -/
inductive Access where
  | read (address count : Nat)
  | write (address : Nat) (cells : List Cell)
  deriving DecidableEq, Repr

/-- The memory arbiter (R24). A port's access waits while the grant in progress is not that port's. -/
structure Arbiter where
  grant : Option Accessor
  fetchWaiting : Bool
  accessM : Option Access
  accessD : Option Access
  chunkWaiting : Bool
  lastPort : Port
  deriving DecidableEq, Repr

/-- A range of cells: an extent, a busy extent, a region's range. -/
structure Extent where
  first : Nat
  count : Nat
  deriving DecidableEq, Repr

/-- A region descriptor (02, section 2.4). -/
structure Region where
  valid : Bool
  base : Nat
  size : Nat
  holder : Option Port
  lockDown : Bool
  deriving DecidableEq, Repr

/-! ### Segment map and sequence table (03, 04) -/

/-- A mapping of a segment (03). -/
structure Mapping where
  base : Nat
  courses : Nat
  bars : Nat
  expected : Check
  verified : Bool
  deriving DecidableEq, Repr

/-- A segment map entry (R39): an EMPTY entry holds no mapping, a MAPPED one a current and perhaps a pending one. -/
inductive MapEntry where
  | empty
  | mapped (current : Mapping) (pending : Option Mapping)
  deriving DecidableEq, Repr

/-- A sequence entry (R55). -/
structure SeqEntry where
  segment : Nat
  repeats : Nat
  markEach : Bool
  markEnd : Bool
  deriving DecidableEq, Repr

/-- What follows the last entry of the table (R61). -/
inductive EndMode where
  | stop
  | wrap
  deriving DecidableEq, Repr

/-- The sequence table (R55). -/
structure SequenceTable where
  entries : List SeqEntry
  length : Nat
  endMode : EndMode
  deriving DecidableEq, Repr

/-! ### Course builder and course queue (05, 06) -/

/-- A place in the article (R59, R60). -/
structure Position where
  entry : Nat
  iteration : Nat
  course : Nat
  deriving DecidableEq, Repr

/-- The build in progress (05): where its fetch reads, whether a switch was made for it (R50), and whether the fetch has
been read, so that it waits to be appended. -/
structure Build where
  base : Nat
  bars : Nat
  remapped : Bool
  fetched : Bool
  deriving DecidableEq, Repr

/-- The course builder (R59, R68). -/
structure Builder where
  position : Position
  /-- the END flag -/
  ended : Bool
  build : Option Build
  /-- the fetch buffer -/
  buffer : List Cell
  deriving DecidableEq, Repr

/-- A bar's two positions in a course: p1 and p2. -/
structure Pair where
  p1 : Nat
  p2 : Nat
  deriving DecidableEq, Repr

/-- A course record (06, section 6.1). -/
structure Record where
  number : Nat
  origin : Position
  segment : Nat
  /-- one pair for each of the 48 bars -/
  pairs : List Pair
  /-- P_o -/
  overlapPeriod : Nat
  /-- P_u -/
  underlapPeriod : Option Nat
  ceiling : Nat
  isOpen : Bool
  segmentStart : Bool
  stopMark : Bool
  articleEnd : Bool
  remapped : Bool
  clamped : Bool
  longShog : Bool
  deriving DecidableEq, Repr

/-- The course queue block (06): the queue head first, the history newest first. -/
structure CourseQueue where
  records : List Record
  history : List Record
  backlog : Nat
  overrun : Nat
  deriving DecidableEq, Repr

/-! ### Bars and lanes (07) -/

inductive OrderKind where
  | move
  | home
  deriving DecidableEq, Repr

/-- A deadline angle, O_e or U_e (R113, R114). -/
inductive Deadline where
  | overlapEnd
  | underlapEnd
  deriving DecidableEq, Repr

/-- A current order (R107). -/
structure Order where
  kind : OrderKind
  target : Nat
  deadline : Option Deadline
  deriving DecidableEq, Repr

/-- A running move timer: the time of the TAKEN that started it and its limit (R120). -/
structure MoveTimer where
  start : Nat
  limit : Nat
  deriving DecidableEq, Repr

/-- What a bar record holds while an order is outstanding (R107). -/
structure Chain where
  order : Order
  /-- the held order flag -/
  held : Bool
  /-- the known position when the chain began, absent when UNKNOWN -/
  origin : Option Nat
  lastTaken : Option Nat
  /-- the time the take timer started, while it runs -/
  takeTimer : Option Nat
  moveTimer : Option MoveTimer
  deriving DecidableEq, Repr

/-- The handshake state, with the order fields present exactly while an order is outstanding (R107). -/
inductive Handshake where
  | off
  | idle
  | posted (chain : Chain)
  | moving (chain : Chain)
  | lost
  deriving DecidableEq, Repr

/-- A bar record (R107). -/
structure Bar where
  enabled : Bool
  lane : Nat
  address : Nat
  cls : Nat
  limit : Nat
  /-- the known position, absent when UNKNOWN -/
  known : Option Nat
  driveCode : Nat
  handshake : Handshake
  deriving DecidableEq, Repr

/-- A drive class record (R108). -/
structure DriveClass where
  base : Nat
  perSpace : Nat
  deriving DecidableEq, Repr

/-- An entry of a lane queue (R116). -/
structure LaneEntry where
  bar : Nat
  kind : OrderKind
  target : Nat
  deriving DecidableEq, Repr

/-- A drive lane (R116): its queue head first, whether it awaits the drive's TAKEN for the head, and the order frame it
is still transmitting on the line (R127, R164). -/
structure Lane where
  queue : List LaneEntry
  awaiting : Bool
  frame : Option (List Byte)
  deriving DecidableEq, Repr

/-! ### Run control (08) -/

inductive SeqState where
  | halted
  | placing
  | running
  | ended
  | faulted
  deriving DecidableEq, Repr

/-- A zone of a stagger group (R6). -/
inductive Zone where
  | z0
  | z1
  | z2
  deriving DecidableEq, Repr

/-- The placement record (R133): the zone of each group when the placement was begun, and each bar's target once every
group with an enabled bar has its targets. -/
structure Placement where
  zones : List Zone
  targets : Option (List (Option Nat))
  deriving DecidableEq, Repr

/-- The stop cause set (R142). -/
structure StopCauses where
  late : Bool
  mark : Bool
  overrun : Bool
  backoff : Bool
  deriving DecidableEq, Repr

/-- The hard faults (R136). -/
inductive FaultKind where
  | driveSilent
  | driveTimeout
  | mismatch
  | driveFault
  | queueDry
  | backlogFull
  | slip
  | disturbed
  deriving DecidableEq, Repr

/-- The fault record when it is not empty (R136, R137). -/
structure FaultRecord where
  kind : FaultKind
  bar : Option Nat
  course : Option Nat
  angle : Option Nat
  more : Bool
  deriving DecidableEq, Repr

/-- Run control (08). -/
structure RunControl where
  state : SeqState
  placement : Option Placement
  causes : StopCauses
  fault : Option FaultRecord
  deriving DecidableEq, Repr

/-! ### Long-operation engine (09) -/

/-- Which mapping of a segment OP_CHECK names (R150). -/
inductive MappingSlot where
  | current
  | pending
  deriving DecidableEq, Repr

/-- The kind of a long operation with its arguments (R146). -/
inductive OpKind where
  | fill (region : Nat) (value : Cell)
  | copy (source destination : Nat)
  | check (segment : Nat) (named : MappingSlot) (mapping : Mapping)
  | startUp
  deriving DecidableEq, Repr

inductive EngineState where
  | idle
  | active
  | suspended
  deriving DecidableEq, Repr

inductive OpResult where
  | none
  | ok
  | mismatch
  | aborted
  deriving DecidableEq, Repr

/-- What the operation record keeps of an operation (R146). The owner is absent for the start-up fill. -/
structure Operation where
  kind : OpKind
  owner : Option Port
  total : Nat
  progress : Nat
  deriving DecidableEq, Repr

/-- The long-operation engine (R146). -/
structure Engine where
  state : EngineState
  /-- the operation in hand or the last one; absent for "no kind" -/
  op : Option Operation
  /-- the busy extents -/
  extents : List Extent
  abortRequested : Bool
  /-- the abort was requested by the reset input, so that the operation ends under R155 and not R153 -/
  resetStop : Bool
  result : OpResult
  /-- the computed check -/
  computed : Option Check
  /-- the check register -/
  register : Check
  /-- where the mapping a CHECK is bound to now stands; absent when a switch has dropped it (R49) -/
  bound : Option MappingSlot
  deriving DecidableEq, Repr

/-! ### Ports (10) -/

/-- The status codes, in the order of section 10.8. -/
inductive Status where
  | ok
  | unknownCommand
  | rights
  | starting
  | state
  | busy
  | badValue
  | noRegion
  | span
  | overlap
  | locked
  | lockedDown
  | notHolder
  | live
  | busyRegion
  | inUse
  | passed
  | unverified
  | notHomed
  | moving
  | angle
  | notOwner
  | notLatched
  | duplicate
  deriving DecidableEq, Repr

/-- A command's status with its data. -/
structure Reply where
  status : Status
  data : List Byte
  deriving DecidableEq, Repr

/-- The reply slot (R158). -/
inductive Slot where
  | empty
  | pending
  | ready (reply : Reply)
  deriving DecidableEq, Repr

/-- A transaction in progress (R156): the whole bytes received since the chip select fell and the count of bits; whether
its command has been taken; for a reply read that found the slot READY, how many bytes make it complete; and the bytes
that the port shifts out, FFH following them for as long as the transaction is clocked. -/
structure Transaction where
  received : List Byte
  bits : Nat
  taken : Bool
  reading : Option Nat
  shifted : List Byte
  deriving DecidableEq, Repr

/-- A port (10). -/
structure PortState where
  transaction : Option Transaction
  slot : Slot
  /-- the DISCARD flag -/
  discard : Bool
  events : EventSet
  mask : EventSet
  /-- the chip select is low with no transaction that the port reads: its bytes are not read until it next falls (R163) -/
  deaf : Bool
  /-- the model's record of the port's data output: the whole bytes that the last transaction to end shifted out -/
  shiftedOut : List Byte
  deriving DecidableEq, Repr

/-! ### The whole part -/

/-- The state of the AP48. `pending` is the queue of commands that wait and `now` the reading of the 1 MHz timebase; both
are the model's. `resetHeld` says that the reset input is held low (R145). -/
structure State where
  pending : List Instr
  now : Nat
  resetHeld : Bool
  tracker : Tracker
  constants : MachineConstants
  /-- pattern memory in canonical form: rising addresses, no cell that reads 0 -/
  memory : List (Nat × Cell)
  arbiter : Arbiter
  regions : List Region
  segments : List MapEntry
  sequence : SequenceTable
  builder : Builder
  queue : CourseQueue
  bars : List Bar
  classes : List DriveClass
  lanes : List Lane
  run : RunControl
  engine : Engine
  portM : PortState
  portD : PortState
  deriving DecidableEq, Repr

/-- Why the model stops with a fault. -/
inductive Fault where
  /-- A grant would reach a cell outside 0..1,048,575, which R19 says does not exist. Raised by BUILDER_FETCH, CHUNK and
  the two cell grants, in states no run reaches, since every command tests its range. Safe. -/
  | noSuchCell (address : Nat)
  deriving DecidableEq, Repr

/-- Why the model refuses. -/
inductive Refusal where
  /-- An arm of exec that has no meaning yet. Raised by no arm of this model. Safe. -/
  | notModelled (mnemonic : String)
  deriving DecidableEq, Repr

/-! ### Values after power-up -/

/-- The defaults of section 1.7. -/
def defaultConstants : MachineConstants :=
  { counts := 4096, overlapStart := 1024, overlapEnd := 1536, underlapStart := 2048, underlapEnd := 3072, stagger := 32,
    maxRpm := 750, crawlRpm := 30, lookAhead := 8, slack := 5000 }

/-- R18. The simulated rate is 60 rpm, or max rpm when that is lower (R13). -/
def Tracker.initial (maxRpm : Nat) : Tracker :=
  { counter := 0, angleValid := false, motion := .still, stillTimer := none, startTime := none, period := none,
    source := .encoder, simRate := min 60 maxRpm, simGate := false, schedule := none, snapshotM := none,
    snapshotD := none }

/-- R27. -/
def Region.initial : Region := { valid := false, base := 0, size := 4096, holder := none, lockDown := false }

/-- R55. -/
def SeqEntry.initial : SeqEntry := { segment := 0, repeats := 1, markEach := false, markEnd := false }

/-- The builder's HALTED reading with no build in progress (R59, R68). -/
def Builder.initial : Builder :=
  { position := { entry := 0, iteration := 0, course := 0 }, ended := false, build := none, buffer := [] }

/-- R92. -/
def CourseQueue.initial : CourseQueue := { records := [], history := [], backlog := 0, overrun := 0 }

/-- Bar `n` after power-up (R107). -/
def Bar.initial (n : Nat) : Bar :=
  { enabled := false, lane := n / 12, address := n % 12, cls := 0, limit := 127, known := none, driveCode := 0,
    handshake := .off }

/-- R108. -/
def DriveClass.initial : DriveClass := { base := 1000, perSpace := 1000 }

/-- R116. -/
def Lane.initial : Lane := { queue := [], awaiting := false, frame := none }

def StopCauses.empty : StopCauses := { late := false, mark := false, overrun := false, backoff := false }

/-- R145. -/
def RunControl.initial : RunControl := { state := .halted, placement := none, causes := .empty, fault := none }

/-- The engine with an empty record: IDLE with no kind and last result none (R155). The check register's value is a
DESIGN CHOICE (log entry 26). -/
def Engine.initial : Engine :=
  { state := .idle, op := none, extents := [], abortRequested := false, resetStop := false, result := .none,
    computed := none, register := 0xFFFF#16, bound := none }

/-- The engine at power-up: the start-up fill over the whole memory (R38, R155). -/
def Engine.startUp : Engine :=
  { Engine.initial with
    state := .active
    op := some { kind := .startUp, owner := none, total := 1048576, progress := 0 }
    extents := [{ first := 0, count := 1048576 }] }

/-- R163. -/
def PortState.initial : PortState :=
  { transaction := none, slot := .empty, discard := false, events := 0#16, mask := 0#16, deaf := false, shiftedOut := [] }

/-- The machine right after power-up, with the reset input released: R18, R26, R27, R38, R39, R55, R59, R92, R107, R108,
R116, R145, R155, R163. The start-up fill's first chunk is in its grant (R24, R155). -/
def State.reset : State :=
  { pending := []
    now := 0
    resetHeld := false
    tracker := Tracker.initial defaultConstants.maxRpm
    constants := defaultConstants
    memory := []
    arbiter :=
      { grant := some .engine, fetchWaiting := false, accessM := none, accessD := none, chunkWaiting := false,
        lastPort := .d }
    regions := List.replicate 16 Region.initial
    segments := List.replicate 64 MapEntry.empty
    sequence := { entries := List.replicate 64 SeqEntry.initial, length := 0, endMode := .stop }
    builder := Builder.initial
    queue := CourseQueue.initial
    bars := (List.range 48).map Bar.initial
    classes := List.replicate 4 DriveClass.initial
    lanes := List.replicate 4 Lane.initial
    run := RunControl.initial
    engine := Engine.startUp
    portM := PortState.initial
    portD := PortState.initial }

end Sys2Proof.Machine
end

