-- ==== Sys2Proof/Machine/Flags.lean ====
section
/-! DEFINITION. The part's flags and codes: event flags, status codes, and the bytes that carry sets of flags
(section 10.8). -/

namespace Sys2Proof.Machine

/-- The 16 events (R161). -/
inductive Event where
  | placed
  | ceilingDrop
  | stopRequest
  | fault
  | ended
  | remapped
  | remapHeld
  | clamped
  | longShog
  | risk
  | late
  | backoff
  | overrun
  | barLost
  | slip
  | opDone
  deriving DecidableEq, Repr

/-- The bit of an event in the event flags and the enable mask (section 10.8). -/
def Event.bit : Event → Nat
  | .placed => 0
  | .ceilingDrop => 1
  | .stopRequest => 2
  | .fault => 3
  | .ended => 4
  | .remapped => 5
  | .remapHeld => 6
  | .clamped => 7
  | .longShog => 8
  | .risk => 9
  | .late => 10
  | .backoff => 11
  | .overrun => 12
  | .barLost => 13
  | .slip => 14
  | .opDone => 15

/-- The event set that holds one event. -/
def Event.flag (e : Event) : EventSet := 1#16 <<< e.bit

/-- Whether an event's flag is set in an event set. -/
def Event.isIn (e : Event) (set : EventSet) : Bool := set.getLsbD e.bit

/-- The code of a status (section 10.8). -/
def Status.code : Status → Nat
  | .ok => 0x00
  | .unknownCommand => 0x01
  | .rights => 0x02
  | .starting => 0x03
  | .state => 0x04
  | .busy => 0x05
  | .badValue => 0x06
  | .noRegion => 0x07
  | .span => 0x08
  | .overlap => 0x09
  | .locked => 0x0A
  | .lockedDown => 0x0B
  | .notHolder => 0x0C
  | .live => 0x0D
  | .busyRegion => 0x0E
  | .inUse => 0x0F
  | .passed => 0x10
  | .unverified => 0x11
  | .notHomed => 0x12
  | .moving => 0x13
  | .angle => 0x14
  | .notOwner => 0x15
  | .notLatched => 0x16
  | .duplicate => 0x17

/-- The attention output of a port: active exactly while a flag named in its mask is set (R162). -/
def PortState.attention (port : PortState) : Bool := port.events &&& port.mask != 0#16

/-- The stop cause set's emptiness (R142). -/
def StopCauses.any (c : StopCauses) : Bool := c.late || c.mark || c.overrun || c.backoff

/-- The stop-request output: asserted exactly while FAULTED or the stop cause set is not empty (R143). -/
def State.stopRequested (s : State) : Bool := s.run.state == .faulted || s.run.causes.any

/-- Whether the start-up fill runs (R38, R155). -/
def Engine.filling (e : Engine) : Bool :=
  e.state != .idle && match e.op with
    | some op => op.kind == .startUp
    | none => false

/-- Whether the start-up fill runs (R38). -/
def State.filling (s : State) : Bool := s.engine.filling

/-- The stop causes byte of STATUS (section 10.8). -/
def StopCauses.byte (c : StopCauses) : Nat := packFlags [c.late, c.mark, c.overrun, c.backoff]

/-- The record flags byte of QUEUE_READ (section 10.8). -/
def Record.flagsByte (r : Record) : Nat :=
  packFlags [r.isOpen, r.segmentStart, r.stopMark, r.articleEnd, r.remapped, r.clamped, r.longShog]

/-- The timers-running byte of GET_BAR (section 10.8). -/
def Chain.timersByte (c : Chain) : Nat := packFlags [c.takeTimer.isSome, c.moveTimer.isSome]

/-- The reply slot's code in the port-state byte. -/
def Slot.code : Slot → Nat
  | .empty => 0
  | .pending => 1
  | .ready _ => 2

/-- The port-state byte (section 10.8): bits 7..6 reply slot, 5 DISCARD, 4 attention, 3 stop request, 2 start-up fill. -/
def portStateByte (port : PortState) (stop filling : Bool) : Byte :=
  BitVec.ofNat 8 (64 * port.slot.code + 4 * packFlags [filling, stop, port.attention, port.discard])

end Sys2Proof.Machine
end

