-- ==== Sys2Proof/Machine/Operands.lean ====
section
/-! DEFINITION. What the state shows without changing it: the angle and zones, extents, regions and live extents, the
shog arithmetic, the advance of the builder position, zone targets and the governing ceiling, and the frames of the
drive lanes. -/

namespace Sys2Proof.Machine

/-! ### Angle and zones (01) -/

/-- R2: floor(count × 4096 / C). -/
def angleOf (counter counts : Nat) : Nat := counter * 4096 / counts

/-- The angle, absent while it is invalid (R2). -/
def State.angle (s : State) : Option Nat :=
  if s.tracker.angleValid then some (angleOf s.tracker.counter s.constants.counts) else none

/-- B1(g), the start of group g's Z1 (R5). -/
def groupStart1 (k : MachineConstants) (g : Nat) : Nat := k.overlapStart + g * k.stagger

/-- B2(g), the start of group g's Z2 (R5). -/
def groupStart2 (k : MachineConstants) (g : Nat) : Nat := k.underlapStart + g * k.stagger

/-- R6. -/
def zoneAt (k : MachineConstants) (angle g : Nat) : Zone :=
  if angle < groupStart1 k g then .z0 else if angle < groupStart2 k g then .z1 else .z2

/-- The angle of a deadline (R7). -/
def deadlineAngle (k : MachineConstants) : Deadline → Nat
  | .overlapEnd => k.overlapEnd
  | .underlapEnd => k.underlapEnd

/-- R10. -/
def Tracker.speedField (t : Tracker) : BitVec 16 :=
  match t.period with
  | none => 0#16
  | some 0 => Config.speedOfZeroPeriod
  | some p => if 60000000 / p ≤ 65535 then BitVec.ofNat 16 (60000000 / p) else Config.speedFieldAbove16Bits (60000000 / p)

/-- The time of the next count of the simulated shaft, while its schedule runs (R12). -/
def Schedule.due (sch : Schedule) (rate counts : Nat) : Nat :=
  sch.start + (sch.given + 1) * 60000000 / (rate * counts)

/-- R17's conditions on a set of machine constants. -/
def validConstants (k : MachineConstants) : Bool :=
  (400 ≤ k.counts && k.counts ≤ 16384) &&
  (1 ≤ k.overlapStart && k.overlapStart < k.overlapEnd && k.overlapEnd ≤ k.underlapStart &&
    k.underlapStart < k.underlapEnd && k.underlapEnd ≤ 4095) &&
  k.stagger ≤ 255 &&
  (k.overlapStart + 3 * k.stagger + 64 ≤ k.overlapEnd && k.underlapStart + 3 * k.stagger + 64 ≤ k.underlapEnd) &&
  k.underlapStart + 3 * k.stagger < 4096 &&
  (1 ≤ k.maxRpm && k.maxRpm ≤ 1500 && 1 ≤ k.crawlRpm && k.crawlRpm ≤ k.maxRpm) &&
  (1 ≤ k.lookAhead && k.lookAhead ≤ 12) &&
  (500 ≤ k.slack && k.slack ≤ 50000)

/-! ### Cells and extents (02) -/

/-- R19: 1,048,576 cells. -/
def memorySize : Nat := 1048576

/-- The value of a cell. An unlisted cell reads 0 (log entry 4). -/
def readCell : List (Nat × Cell) → Nat → Cell
  | [], _ => 0#16
  | (b, v) :: rest, a => if a = b then v else readCell rest a

/-- The canonical form of pattern memory: rising addresses inside the memory, no cell that reads 0. -/
abbrev MemoryWf (mem : List (Nat × Cell)) : Prop :=
  mem.Pairwise (fun x y => x.1 < y.1) ∧ ∀ c ∈ mem, c.1 < memorySize ∧ c.2 ≠ 0#16

/-- A cell lies in an extent. -/
def Extent.holds (e : Extent) (a : Nat) : Bool := e.first ≤ a && a < e.first + e.count

/-- Two extents share a cell. -/
def Extent.meets (e f : Extent) : Bool :=
  0 < e.count && 0 < f.count && e.first < f.first + f.count && f.first < e.first + e.count

/-- Every cell of `e` lies in `f`. -/
def Extent.within (e f : Extent) : Bool := f.first ≤ e.first && e.first + e.count ≤ f.first + f.count

def Extent.meetsAny (e : Extent) (l : List Extent) : Bool := l.any e.meets

/-- The region's range (02, section 2.4). -/
def Region.range (r : Region) : Extent := { first := r.base, count := r.size }

/-- R31. -/
def Region.lockedAgainst (r : Region) (p : Port) : Bool :=
  r.lockDown || match r.holder with
    | some h => h != p
    | none => false

/-- R40: the cells base..base + courses × bars − 1. -/
def Mapping.extent (m : Mapping) : Extent := { first := m.base, count := m.courses * m.bars }

def MapEntry.current : MapEntry → Option Mapping
  | .empty => none
  | .mapped c _ => some c

def MapEntry.pending : MapEntry → Option Mapping
  | .empty => none
  | .mapped _ p => p

def MapEntry.mappings (e : MapEntry) : List Mapping := e.current.toList ++ e.pending.toList

/-- The mapping in a slot of an entry. -/
def MapEntry.slot (e : MapEntry) : MappingSlot → Option Mapping
  | .current => e.current
  | .pending => e.pending

def State.region (s : State) (n : Nat) : Region := s.regions.getD n Region.initial

def State.segment (s : State) (n : Nat) : MapEntry := s.segments.getD n .empty

def State.seqEntry (s : State) (n : Nat) : SeqEntry := s.sequence.entries.getD n SeqEntry.initial

def State.bar (s : State) (n : Nat) : Bar := s.bars.getD n (Bar.initial n)

def State.driveClass (s : State) (n : Nat) : DriveClass := s.classes.getD n DriveClass.initial

def State.lane (s : State) (n : Nat) : Lane := s.lanes.getD n Lane.initial

/-- The region that holds an address (R27). -/
def State.regionHolding (s : State) (a : Nat) : Option Region :=
  s.regions.find? fun r => r.valid && r.range.holds a

/-- The extents of all mappings, current and pending, of all segments. -/
def State.extents (s : State) : List Extent := s.segments.flatMap fun e => e.mappings.map Mapping.extent

/-- The segments named by entries 0..length−1. -/
def SequenceTable.segments (t : SequenceTable) : List Nat := (t.entries.take t.length).map SeqEntry.segment

/-- The current and pending extents of the segments named by entries 0..length−1. -/
def State.articleExtents (s : State) : List Extent :=
  s.sequence.segments.flatMap fun g => (s.segment g).mappings.map Mapping.extent

/-- R35: a segment is live. -/
def State.segmentLive (s : State) (g : Nat) : Bool := s.run.state != .halted && s.sequence.segments.contains g

/-- R35: the live extents. -/
def State.liveExtents (s : State) : List Extent := if s.run.state = .halted then [] else s.articleExtents

/-- The busy extents of an operation that is ACTIVE or SUSPENDED (R37). -/
def State.busyExtents (s : State) : List Extent := if s.engine.state = .idle then [] else s.engine.extents

/-- A CHECK of either mapping of the segment is ACTIVE or SUSPENDED, and of which (R41, R46, R49). -/
def State.checking (s : State) (g : Nat) : Option MappingSlot :=
  if s.engine.state = .idle then none
  else match s.engine.op with
    | some { kind := .check g' _ _, .. } => if g = g' then s.engine.bound else none
    | _ => none

/-! ### The check (09) -/

/-- R150: one shift of the check register. -/
def checkShift (reg : Check) : Check := if reg.msb then (reg <<< 1) ^^^ 0x1021#16 else reg <<< 1

/-- R150: one byte is fed into the check register. -/
def checkByte (reg : Check) (b : Byte) : Check :=
  Nat.repeat checkShift 8 (reg ^^^ (b.zeroExtend 16 <<< 8))

/-- R150: one cell is fed, high byte first. -/
def checkCell (reg : Check) (c : Cell) : Check :=
  checkByte (checkByte reg (c.extractLsb' 8 8)) (c.extractLsb' 0 8)

/-! ### Shog arithmetic (05) -/

/-- Distance in needle spaces (R76). -/
def distance (a b : Nat) : Nat := (a - b) + (b - a)

/-- R77. -/
def moveTime (c : DriveClass) (d : Nat) : Nat := if d = 0 then 0 else c.base + c.perSpace * d

/-- R78. -/
def overlapWindow (k : MachineConstants) (g : Nat) : Nat := (k.overlapEnd - k.overlapStart) - g * k.stagger

/-- R78. -/
def underlapWindow (k : MachineConstants) (g : Nat) : Nat := (k.underlapEnd - k.underlapStart) - g * k.stagger

/-- R79: ceil(t × 4096 / W). -/
def requiredPeriod (t w : Nat) : Nat := (t * 4096 + (w - 1)) / w

/-- The required period of an overlap shog of `d` spaces of a bar. -/
def State.overlapNeed (s : State) (bar : Bar) (d : Nat) : Nat :=
  requiredPeriod (moveTime (s.driveClass bar.cls) d) (overlapWindow s.constants bar.lane)

/-- The required period of an underlap shog of `d` spaces of a bar. -/
def State.underlapNeed (s : State) (bar : Bar) (d : Nat) : Nat :=
  requiredPeriod (moveTime (s.driveClass bar.cls) d) (underlapWindow s.constants bar.lane)

def Record.pair (r : Record) (b : Nat) : Pair := r.pairs.getD b { p1 := 0, p2 := 0 }

/-- The largest of a list of periods, 0 when it is empty. -/
def largest (l : List Nat) : Nat := l.foldl max 0

/-- R80: P_o of a course's pairs, over the enabled bars. -/
def State.overlapPeriod (s : State) (pairs : List Pair) : Nat :=
  largest ((s.bars.zip pairs).map fun (bar, x) => if bar.enabled then s.overlapNeed bar (distance x.p1 x.p2) else 0)

/-- R80: P_u between a course's pairs and its successor's, over the enabled bars. -/
def State.underlapPeriod (s : State) (pairs next : List Pair) : Nat :=
  largest ((s.bars.zip (pairs.zip next)).map fun (bar, x, y) =>
    if bar.enabled then s.underlapNeed bar (distance x.p2 y.p1) else 0)

/-- R81: the ceiling for P*, and whether step 4 raised it to crawl rpm (R82). -/
def ceilingFor (k : MachineConstants) (period : Nat) : Nat × Bool :=
  if period = 0 then (k.maxRpm, false)
  else
    let speed := min (60000000 / period) k.maxRpm
    if speed < k.crawlRpm then (k.crawlRpm, true) else (speed, false)

/-! ### The advance of the builder position (04) -/

/-- What an advance gives (R61): the new position, END, and the flags for the record. -/
structure Advance where
  position : Position
  ended : Bool
  stopMark : Bool
  articleEnd : Bool
  deriving DecidableEq, Repr

/-- R61 from its step 2 on: the iteration at `p` ends. -/
def SequenceTable.endIteration (t : SequenceTable) (p : Position) : Advance :=
  let e := t.entries.getD p.entry SeqEntry.initial
  if p.iteration + 1 < e.repeats then
    { position := { entry := p.entry, iteration := p.iteration + 1, course := 0 }, ended := false,
      stopMark := e.markEach, articleEnd := false }
  else if p.entry + 1 < t.length then
    { position := { entry := p.entry + 1, iteration := 0, course := 0 }, ended := false,
      stopMark := e.markEach || e.markEnd, articleEnd := false }
  else match t.endMode with
    | .wrap =>
      { position := { entry := 0, iteration := 0, course := 0 }, ended := false, stopMark := e.markEach || e.markEnd,
        articleEnd := false }
    | .stop =>
      { position := { entry := t.length, iteration := 0, course := 0 }, ended := true,
        stopMark := e.markEach || e.markEnd, articleEnd := true }

/-- R61: the advance after the course at `p`, of a segment of `courses` courses, has been built. -/
def SequenceTable.advance (t : SequenceTable) (courses : Nat) (p : Position) : Advance :=
  if p.course + 1 < courses then
    { position := { p with course := p.course + 1 }, ended := false, stopMark := false, articleEnd := false }
  else t.endIteration p

/-! ### Zone targets and the governing ceiling (06) -/

/-- R98. -/
def CourseQueue.zoneTarget (q : CourseQueue) (zone : Zone) (b : Nat) : Option Nat :=
  match zone, q.records with
  | _, [] => none
  | .z0, r :: _ => some (r.pair b).p1
  | .z1, r :: _ => some (r.pair b).p2
  | .z2, _ :: next :: _ => some (next.pair b).p1
  | .z2, [r] => if r.articleEnd then some (r.pair b).p2 else none

/-- The queue is past the end: empty with END set (06, section 6.5). -/
def State.pastEnd (s : State) : Bool := s.queue.records.isEmpty && s.builder.ended

/-- The course number of the head, when there is one. -/
def State.headCourse (s : State) : Option Nat := s.queue.records.head?.map Record.number

/-- R103: what position j contributes to the governing ceiling, absent for nothing. -/
def contribution (ended : Bool) (records : List Record) (j : Nat) : Option Nat :=
  if (records.take j).any (fun r => r.stopMark || r.articleEnd) then some 0
  else match records[j]? with
    | some r => some r.ceiling
    | none => if ended then some 0 else none

/-- R103: the governing ceiling G. -/
def State.governingCeiling (s : State) : Nat :=
  if s.run.state = .running && !s.queue.records.isEmpty then
    (((List.range s.constants.lookAhead).filterMap (contribution s.builder.ended s.queue.records)).min?).getD 0
  else 0

/-! ### Bars (07) -/

/-- The details of the outstanding order, when there is one (R107). -/
def Handshake.chain? : Handshake → Option Chain
  | .posted c => some c
  | .moving c => some c
  | _ => none

def Bar.outstanding (bar : Bar) : Bool := bar.handshake.chain?.isSome

/-- R112: the standing target. -/
def Bar.standing (bar : Bar) : Option Nat :=
  match bar.handshake with
  | .idle => bar.known
  | .posted c => some c.order.target
  | .moving c => some c.order.target
  | .off => none
  | .lost => none

/-- R112: homed. -/
def Bar.homed (bar : Bar) : Bool := bar.known.isSome && bar.handshake != .lost

/-- R123: the enabled bar configured on a lane with an address. -/
def State.barAt (s : State) (lane address : Nat) : Option Nat :=
  (List.range 48).find? fun b =>
    (s.bar b).enabled && (s.bar b).lane == lane && (s.bar b).address == address

/-- The entry of a bar is the sent head of its lane's queue (R116; log entry 14). -/
def Lane.sentIs (lane : Lane) (b : Nat) : Bool :=
  lane.awaiting && match lane.queue with
    | e :: _ => e.bar == b
    | [] => false

/-- R120: the move time limit of an order. -/
def moveLimit (c : DriveClass) (slack : Nat) (order : Order) (origin previous : Option Nat) : Nat :=
  match order.kind with
  | .home => 10000000
  | .move =>
    let fromOrigin := match origin with
      | some o => distance order.target o
      | none => 0
    let d := match previous with
      | some t => max fromOrigin (distance order.target t)
      | none => fromOrigin
    moveTime c d + slack

def OrderKind.code : OrderKind → Nat
  | .move => 1
  | .home => 2

/-- The order frame of R164. -/
def orderFrame (address : Nat) (kind : OrderKind) (target : Nat) : List Byte :=
  let b0 : Byte := BitVec.ofNat 8 (16 * address + kind.code)
  let b1 : Byte := BitVec.ofNat 8 target
  [b0, b1, b0 ^^^ b1 ^^^ 0x5A#8]

/-- A decoded reply (R164). -/
inductive DriveReply where
  | taken
  | inPosition (position : Nat)
  | fault (code : Nat)
  deriving DecidableEq, Repr

/-- R164: the address and reply of a reply frame, none when the frame is ignored. -/
def decodeReply (f : ReplyFrame) : Option (Nat × DriveReply) :=
  if f.cutOff || f.check != f.head ^^^ f.value ^^^ 0x5A#8 then none
  else
    let address := f.head.toNat / 16
    let v := f.value.toNat
    match f.head.toNat % 16 with
    | 1 => some (address, .taken)
    | 2 => if v ≤ 127 then some (address, .inPosition v) else none
    | 3 => if v = 0 then none else some (address, .fault v)
    | _ => none

end Sys2Proof.Machine
end

