-- ==== Sys2Proof/Machine/Ops.lean ====
section
/-! DEFINITION. The shared operations that change the state: memory, the arbiter, events and stop requests, hard faults
and purges, orders on the lanes, placement, and how a port takes a command and answers it. -/

namespace Sys2Proof.Machine

/-- What one step answers. -/
abbrev Result := Host.Outcome State Fault Refusal

/-- While the reset input is held low the part takes nothing (R145, section 10.7). -/
def State.unlessHeld (f : State → State) (s : State) : State := if s.resetHeld then s else f s

/-! ### Timebase -/

/-- The timebase reaches the reading `t`; it never runs back (log entry 2). -/
def State.elapse (t : Nat) (s : State) : State := { s with now := max s.now t }

/-! ### Pattern memory (R19) -/

/-- Writes a cell, keeping the canonical form. -/
def writeCell : List (Nat × Cell) → Nat → Cell → List (Nat × Cell)
  | [], a, v => if v = 0#16 then [] else [(a, v)]
  | (b, w) :: rest, a, v =>
    if a < b then (if v = 0#16 then (b, w) :: rest else (a, v) :: (b, w) :: rest)
    else if a = b then (if v = 0#16 then rest else (a, v) :: rest)
    else (b, w) :: writeCell rest a v

/-- Writes cells in ascending address order from `a`. -/
def writeCells : List (Nat × Cell) → Nat → List Cell → List (Nat × Cell)
  | mem, _, [] => mem
  | mem, a, v :: rest => writeCells (writeCell mem a v) (a + 1) rest

/-- The `n` cells from `a`, in ascending address order. -/
def readCells (mem : List (Nat × Cell)) (a n : Nat) : List Cell := (List.range n).map fun i => readCell mem (a + i)

/-- R149: copies `n` cells in ascending order. -/
def copyCells : List (Nat × Cell) → Nat → Nat → Nat → List (Nat × Cell)
  | mem, _, _, 0 => mem
  | mem, src, dst, n + 1 => copyCells (writeCell mem dst (readCell mem src)) (src + 1) (dst + 1) n

/-! ### Verified flags (R23, R48) -/

/-- The mapping with its verified flag clear when its extent shares a cell with `e`. -/
def Mapping.unverifyIn (e : Extent) (m : Mapping) : Mapping :=
  if m.extent.meets e then { m with verified := false } else m

def MapEntry.unverifyIn (e : Extent) : MapEntry → MapEntry
  | .empty => .empty
  | .mapped c p => .mapped (c.unverifyIn e) (p.map (Mapping.unverifyIn e))

/-- Clears the verified flag of every mapping whose extent holds a cell of `e`. -/
def State.unverify (e : Extent) (s : State) : State := { s with segments := s.segments.map (MapEntry.unverifyIn e) }

/-- Sets or clears the verified flag of the mapping in a slot of an entry (R47). -/
def MapEntry.setVerified (slot : MappingSlot) (v : Bool) : MapEntry → MapEntry
  | .empty => .empty
  | .mapped c p =>
    match slot with
    | .current => .mapped { c with verified := v } p
    | .pending => .mapped c (p.map fun m => { m with verified := v })

def State.setSegment (g : Nat) (e : MapEntry) (s : State) : State := { s with segments := s.segments.set g e }

/-! ### Ports: events (R161) -/

def State.port (s : State) : Port → PortState
  | .m => s.portM
  | .d => s.portD

def State.setPort (p : Port) (x : PortState) (s : State) : State :=
  match p with
  | .m => { s with portM := x }
  | .d => { s with portD := x }

def PortState.raise (e : Event) (port : PortState) : PortState := { port with events := port.events ||| e.flag }

/-- Raises an event in both ports (R161). -/
def State.raise (e : Event) (s : State) : State := { s with portM := s.portM.raise e, portD := s.portD.raise e }

/-- Raises an event in both ports when a condition holds. -/
def State.raiseIf (c : Bool) (e : Event) (s : State) : State := if c then s.raise e else s

/-- Raises OP_DONE in the owner's event set alone (R147). -/
def State.raiseOpDone (owner : Option Port) (s : State) : State :=
  match owner with
  | some p => s.setPort p ((s.port p).raise .opDone)
  | none => s

/-! ### Watches: the stop-request output (R143) and the governing ceiling (R104) -/

/-- Raises STOP_REQUEST when `f` takes the stop-request output from released to asserted. -/
def State.watchStop (f : State → State) (s : State) : State :=
  (f s).raiseIf (!s.stopRequested && (f s).stopRequested) .stopRequest

/-- Raises CEILING_DROP when `f`, taken in RUNNING and leaving the sequencer there, lowers the governing ceiling. -/
def State.watchCeiling (f : State → State) (s : State) : State :=
  (f s).raiseIf
    (s.run.state == .running && (f s).run.state == .running && (f s).governingCeiling < s.governingCeiling) .ceilingDrop

inductive StopCause where
  | late
  | mark
  | overrun
  | backoff
  deriving DecidableEq, Repr

def StopCauses.add (c : StopCauses) : StopCause → StopCauses
  | .late => { c with late := true }
  | .mark => { c with mark := true }
  | .overrun => { c with overrun := true }
  | .backoff => { c with backoff := true }

/-- R142: a report sets a stop cause. -/
def State.setCause (cause : StopCause) (s : State) : State :=
  s.watchStop fun s => { s with run := { s.run with causes := s.run.causes.add cause } }

/-! ### Bars and lanes: small steps (07) -/

def State.setBar (b : Nat) (x : Bar) (s : State) : State := { s with bars := s.bars.set b x }

def State.setLane (g : Nat) (x : Lane) (s : State) : State := { s with lanes := s.lanes.set g x }

/-- A bar goes LOST with its order fields removed and this known position. -/
def Bar.lose (bar : Bar) (known : Option Nat) : Bar := { bar with handshake := .lost, known := known }

/-- R116: a free lane with a non-empty queue transmits the head entry's order frame, once no frame is on the line. -/
def State.transmit (g : Nat) (s : State) : State :=
  let lane := s.lane g
  match lane.queue with
  | [] => s
  | e :: _ =>
    if lane.awaiting || lane.frame.isSome then s
    else s.setLane g { lane with
      awaiting := true, frame := some (orderFrame (s.bar e.bar).address e.kind e.target) }

/-- A bar's entry leaves its lane's queue; a lane whose sent head it was becomes free. -/
def Lane.remove (b : Nat) (lane : Lane) : Lane :=
  { lane with
    queue := lane.queue.filter fun e => e.bar != b
    awaiting := lane.awaiting && !lane.sentIs b }

/-- R127: a purged lane is empty and free; the frame on the line is finished. -/
def Lane.purge (lane : Lane) : Lane := { lane with queue := [], awaiting := false }

/-- R127: a POSTED or MOVING bar goes LOST, its position UNKNOWN. -/
def Bar.purge (bar : Bar) : Bar := if bar.outstanding then bar.lose none else bar

/-- R127: the lane purge. -/
def State.purge (s : State) : State :=
  State.raiseIf (s.bars.any Bar.outstanding) .barLost
    { s with lanes := s.lanes.map Lane.purge, bars := s.bars.map Bar.purge }

/-! ### Hard faults (R136, R137) -/

/-- R136: the entry to FAULTED. -/
def State.enterFaulted (kind : FaultKind) (bar course : Option Nat) (s : State) : State :=
  ((s.watchStop fun s =>
      { s with run := { s.run with
          state := .faulted
          placement := none
          fault := some { kind := kind, bar := bar, course := course, angle := s.angle, more := false } } }).purge).raise
    .fault

/-- R137: a further hard fault sets "more". -/
def State.faultMore (s : State) : State :=
  { s with run := { s.run with fault := s.run.fault.map fun f => { f with more := true } } }

/-- A hard fault is taken (R136, R137): in PLACING and RUNNING it enters FAULTED, in ENDED a bar's does (R141), in
FAULTED it sets "more", in HALTED nothing follows (R124). -/
def State.hardFault (kind : FaultKind) (bar course : Option Nat) (s : State) : State :=
  match s.run.state with
  | .placing => s.enterFaulted kind bar course
  | .running => s.enterFaulted kind bar course
  | .ended => if bar.isSome then s.enterFaulted kind bar course else s
  | .faulted => s.faultMore
  | .halted => s

/-- R124: a bar that has gone LOST raises BAR_LOST and reports its hard fault. -/
def State.barFault (kind : FaultKind) (b : Nat) (s : State) : State :=
  (s.raise .barLost).hardFault kind (some b) s.headCourse

/-! ### Posting orders (R117, R129) -/

/-- The chain that an order begins at a bar. -/
def Chain.begin (order : Order) (origin : Option Nat) : Chain :=
  { order := order, held := false, origin := origin, lastTaken := none, takeTimer := none, moveTimer := none }

/-- An entry for a bar joins the tail of its lane's queue, and a free lane transmits. -/
def State.enqueue (b : Nat) (order : Order) (s : State) : State :=
  let g := (s.bar b).lane
  (s.setLane g { s.lane g with
    queue := (s.lane g).queue ++ [{ bar := b, kind := order.kind, target := order.target }] }).transmit g

/-- HOME makes the known position UNKNOWN as it is posted (R125). -/
def Bar.knownAfterPosting (bar : Bar) (order : Order) : Option Nat :=
  match order.kind with
  | .home => none
  | .move => bar.known

/-- R129: an order posted while the source is SIMULATED is answered at once, and the bar is IDLE at the target. -/
def State.dryAnswer (b : Nat) (order : Order) (s : State) : State :=
  s.setBar b { s.bar b with known := some order.target, handshake := .idle }

/-- R117: the bar is POSTED with this chain. -/
def State.setPosted (b : Nat) (order : Order) (chain : Chain) (s : State) : State :=
  s.setBar b { s.bar b with known := (s.bar b).knownAfterPosting order, handshake := .posted chain }

/-- R117: the entry of a bar is replaced in place. -/
def Lane.replace (b : Nat) (order : Order) (lane : Lane) : Lane :=
  { lane with queue := lane.queue.map fun e =>
      if e.bar = b then { e with kind := order.kind, target := order.target } else e }

/-- R117 with the source ENCODER: the posting of an order by the bar's state. -/
def State.postWet (b : Nat) (order : Order) (s : State) : State :=
  let bar := s.bar b
  let lane := s.lane bar.lane
  match bar.handshake with
  | .off => s
  | .lost => (s.setPosted b order (.begin order bar.known)).enqueue b order
  | .idle => (s.setPosted b order (.begin order bar.known)).enqueue b order
  | .posted c =>
    if lane.sentIs b then s.setPosted b order { c with order := order, held := true }
    else if order.kind = .move ∧ c.origin = some order.target ∧ c.lastTaken = none then
      (s.setBar b { bar with handshake := .idle }).setLane bar.lane (lane.remove b)
    else (s.setPosted b order { c with order := order }).setLane bar.lane (lane.replace b order)
  | .moving c => (s.setPosted b order { c with order := order, moveTimer := none }).enqueue b order

/-- A bar takes postings: it is not OFF, and a LOST bar takes a HOME alone (R117). -/
def Bar.takesOrder (bar : Bar) (order : Order) : Bool :=
  match bar.handshake with
  | .off => false
  | .lost => order.kind == .home
  | _ => true

/-- The posting of an order to bar `b` (R117, R129). -/
def State.post (b : Nat) (order : Order) (s : State) : State :=
  if (s.bar b).takesOrder order then
    if s.tracker.source = .simulated then s.dryAnswer b order else s.postWet b order
  else s

/-- A MOVE to `target` is posted to the bar unless it stands at, or is bound for, that target already (R113, R133). -/
def State.orderTo (b target : Nat) (deadline : Option Deadline) (s : State) : State :=
  if (s.bar b).standing = some target then s
  else s.post b { kind := .move, target := target, deadline := deadline }

/-! ### Placement (R133, R134) -/

/-- The target of one bar in a placement, absent while the queue cannot give it (R133). -/
def State.placementTarget (zones : List Zone) (b : Nat) (s : State) : Option Nat :=
  if 0 < s.queue.backlog then s.queue.records.head?.map fun r => (r.pair b).p1
  else s.queue.zoneTarget (zones.getD (s.bar b).lane .z0) b

/-- R134: every enabled bar has its target in the placement record and is IDLE at it. -/
def State.placed (s : State) : Bool :=
  match s.run.placement with
  | some { targets := some ts, .. } =>
    (List.range 48).all fun b =>
      !(s.bar b).enabled ||
        ((s.bar b).handshake == .idle && (s.bar b).known.isSome && (s.bar b).known == ts.getD b none)
  | _ => false

/-- R134: a complete placement enters RUNNING and raises PLACED. -/
def State.completePlacement (s : State) : State :=
  if s.run.state = .placing && s.placed then
    { s with run := { s.run with state := .running, placement := none } }.raise .placed
  else s

/-- R133: one bar's placement order. -/
def State.placeOne (ts : List (Option Nat)) (s : State) (b : Nat) : State :=
  match ts.getD b none with
  | some t => if (s.bar b).enabled then s.orderTo b t none else s
  | none => s

/-- R133: while PLACING without targets, run control asks for them; when every group with an enabled bar has its
targets they are fixed, the orders are posted in ascending order of bar number, and completion is checked. -/
def State.tryPlacement (s : State) : State :=
  match s.run.state, s.run.placement with
  | .placing, some { zones := zones, targets := none } =>
    let ts := (List.range 48).map fun b => if (s.bar b).enabled then s.placementTarget zones b else none
    if (List.range 48).all fun b => !(s.bar b).enabled || (ts.getD b none).isSome then
      ((List.range 48).foldl (State.placeOne ts)
        { s with run := { s.run with placement := some { zones := zones, targets := some ts } } }).completePlacement
    else s
  | _, _ => s

/-- A placement is begun by ARM or RESUME with the groups' zones at the present angle (R133). -/
def State.beginPlacement (s : State) : State :=
  let zones := (List.range 4).map fun g => zoneAt s.constants ((s.angle).getD 0) g
  { s with run := { s.run with state := .placing, placement := some { zones := zones, targets := none } } }

/-! ### The memory arbiter (R24, R25) -/

def Arbiter.access (a : Arbiter) : Port → Option Access
  | .m => a.accessM
  | .d => a.accessD

def Arbiter.setAccess (p : Port) (x : Option Access) (a : Arbiter) : Arbiter :=
  match p with
  | .m => { a with accessM := x }
  | .d => { a with accessD := x }

/-- A port's access waits for its grant. -/
def Arbiter.waits (a : Arbiter) (p : Port) : Bool := (a.access p).isSome && a.grant != some (.port p)

/-- The other of the two ports. -/
def otherPort : Port → Port
  | .m => .d
  | .d => .m

/-- R24, R25: with no grant in progress the next request is granted: the builder's fetch; of two ports the one other
than the last port granted; the one waiting port; the chunk. -/
def Arbiter.next (a : Arbiter) : Arbiter :=
  if a.grant.isSome then a
  else if a.fetchWaiting then { a with grant := some .builder, fetchWaiting := false }
  else if a.waits (otherPort a.lastPort) then { a with grant := some (.port (otherPort a.lastPort)), lastPort := otherPort a.lastPort }
  else if a.waits a.lastPort then { a with grant := some (.port a.lastPort) }
  else if a.chunkWaiting then { a with grant := some .engine, chunkWaiting := false }
  else a

def State.arbitrate (s : State) : State := { s with arbiter := s.arbiter.next }

/-- The grant in progress ends. -/
def State.endGrant (s : State) : State := { s with arbiter := { s.arbiter with grant := none } }

/-- The builder asks for its fetch. -/
def State.askFetch (s : State) : State := { s with arbiter := { s.arbiter with fetchWaiting := true } }.arbitrate

/-- A port's access is asked for. -/
def State.askAccess (p : Port) (x : Access) (s : State) : State :=
  { s with arbiter := s.arbiter.setAccess p (some x) }.arbitrate

/-- R147: the engine asks for the next chunk when it is ACTIVE, not asked to abort, has cells left, and has no chunk
granted or waiting. -/
def State.askChunk (s : State) : State :=
  let more := match s.engine.op with
    | some op => op.progress < op.total
    | none => false
  if s.engine.state = .active && !s.engine.abortRequested && more && s.arbiter.grant != some .engine then
    { s with arbiter := { s.arbiter with chunkWaiting := true } }
  else s

/-- A waiting chunk request is withdrawn. -/
def State.withdrawChunk (s : State) : State := { s with arbiter := { s.arbiter with chunkWaiting := false } }

/-! ### The return to HALTED (R92, R139) -/

/-- R70: the build in progress is abandoned; a fetch that waits is withdrawn, one in its grant runs to its end. -/
def State.abandonBuild (s : State) : State :=
  { s with
    builder := { s.builder with build := none, buffer := [] }
    arbiter := { s.arbiter with fetchWaiting := false } }

/-- What an accepted DISARM does (R139): the queue block is emptied and the build abandoned, the stop cause set and the
fault record emptied, the sequencer HALTED, the builder position at its HALTED reading. -/
def State.clearRun (s : State) : State :=
  { s.abandonBuild with
    builder := Builder.initial
    queue := CourseQueue.initial
    run := RunControl.initial }

/-! ### Taking and answering a command (R156 to R159) -/

/-- The port-state byte as it stands. -/
def State.portStateByte (p : Port) (s : State) : Byte :=
  Machine.portStateByte (s.port p) s.stopRequested s.filling

/-- A port takes what is shifted in: the reset input is not held, the transaction has not had its command (bytes after a
taken command are ignored, R156), and the bytes are not those of an abandoned transaction (R163). -/
def State.listens (p : Port) (s : State) : Bool :=
  !s.resetHeld && match (s.port p).transaction with
    | some t => !t.taken && t.reading.isNone
    | none => !(s.port p).deaf

/-- What a port shifts out while a frame is shifted in and after it is taken: FFH, after the port-state byte (R156). -/
def fillBytes (n : Nat) : List Byte := List.replicate n 0xFF#8

/-- The transaction in progress after a whole frame has arrived (R156): the port-state byte has been shifted out beside
the code byte, and FFH beside every byte that followed. -/
def Transaction.receive (frame : List Byte) (t : Transaction) : Transaction :=
  { t with
    received := frame, bits := 8 * frame.length, taken := true,
    shifted := t.shifted ++ fillBytes (frame.length - 1) }

/-- A whole frame has arrived on a port: its bytes stand in the transaction, and the port-state byte has been shifted
out whole, so that DISCARD is cleared (R157). A frame with no transaction begun before it is one whole transaction, which
shifts out the port-state byte as it stands (log entry 19). -/
def PortState.receive (stateByte : Byte) (frame : List Byte) (port : PortState) : PortState :=
  { port with
    transaction := port.transaction.map (Transaction.receive frame)
    discard := false
    shiftedOut :=
      if port.transaction.isSome then port.shiftedOut else stateByte :: fillBytes (frame.length - 1) }

/-- A whole frame has arrived on port `p`. -/
def State.receive (p : Port) (frame : List Byte) (s : State) : State :=
  s.setPort p ((s.port p).receive (s.portStateByte p) frame)

def State.setSlot (p : Port) (slot : Slot) (s : State) : State := s.setPort p { s.port p with slot := slot }

/-- What a command that passes the first tests does: the state after it and its reply slot. -/
abbrev Body := State → State × Slot

/-- A frame that reaches its last byte on port `p` (R156, R157, R158): with the slot PENDING it is discarded and DISCARD
set; otherwise it is taken, judged first by `first` (R159) and then by `body`, and the slot holds the outcome. -/
def State.take (p : Port) (frame : List Byte) (first : Option Status) (body : Body) (s : State) : State :=
  if s.listens p then
    let s := s.receive p frame
    if (s.port p).slot = .pending then s.setPort p { s.port p with discard := true }
    else match first with
      | some status => s.setSlot p (.ready { status := status, data := [] })
      | none => (body s).1.setSlot p (body s).2
  else s

/-- R159: STARTING while the start-up fill runs, then RIGHTS for what port M alone may give. -/
def State.firstTests (p : Port) (onlyM : Bool) (s : State) : Option Status :=
  if s.filling then some .starting else if onlyM && p == .d then some .rights else none

/-- A refusal without data (R158). -/
def refuse (status : Status) : Reply := { status := status, data := [] }

/-- A refusal with one byte that names a segment or a bar (R158). -/
def naming (status : Status) (n : Option Nat) : Option Reply :=
  n.map fun n => { status := status, data := field1 n }

/-- The first refusal of tests whose refusals may carry data (R158). -/
def firstReply : List (Option Reply) → Option Reply
  | [] => none
  | some r :: _ => some r
  | none :: rest => firstReply rest

/-- The first of a rule's tests that refuses. -/
def firstRefusal : List (Bool × Status) → Option Reply
  | [] => none
  | (refuses, status) :: rest => if refuses then some (refuse status) else firstRefusal rest

/-- A command is judged by its owning rule: a refusal changes nothing, otherwise it has its effect and returns its
data with status OK. -/
def judged (refusal : State → Option Reply) (effect : State → State) (data : State → List Byte) : Body := fun s =>
  match refusal s with
  | some r => (s, .ready r)
  | none => (effect s, .ready { status := .ok, data := data s })

/-- The frame of the command `i` reaches its last byte on port `p`; `onlyM` says that port M alone may give it. -/
def State.command (p : Port) (onlyM : Bool) (i : Instr) (body : Body) (s : State) : State :=
  s.take p (commandFrame i) (s.firstTests p onlyM) body

end Sys2Proof.Machine
end

