-- ==== Sys2Proof/Machine/Bars.lean ====
section
/-! DEFINITION. The bar table and drive classes (07): SET_CLASS, SET_BAR, GET_BAR, HOME, PLACE_BAR. -/

namespace Sys2Proof.Machine

/-! ### SET_CLASS (R108) -/

def setClassRefusal (c base perSpace : Nat) (s : State) : Option Reply :=
  firstRefusal
    [(s.run.state != .halted, .state), (3 < c || 20000 < base || perSpace == 0 || 20000 < perSpace, .badValue)]

def setClassEffect (c base perSpace : Nat) (s : State) : State :=
  { s with classes := s.classes.set c { base := base, perSpace := perSpace } }

/-- SET_CLASS (R108). -/
def execSetClass (p : Port) (c base perSpace : Nat) (s : State) : Result :=
  .next (s.command p true (.setClass p c base perSpace)
    (judged (setClassRefusal c base perSpace) (setClassEffect c base perSpace) (fun _ => [])))

/-! ### SET_BAR (R109, R110) -/

/-- The other enabled bars on a lane (R109). -/
def State.othersOn (b lane : Nat) (s : State) : List Nat :=
  (List.range 48).filter fun n => n != b && (s.bar n).enabled && (s.bar n).lane == lane

def setBarRefusal (b enabled lane address cls limit : Nat) (s : State) : Option Reply :=
  firstRefusal
    [(s.run.state != .halted, .state),
     (47 < b || 3 < lane || 15 < address || 3 < cls || limit == 0 || 127 < limit || 1 < enabled, .badValue),
     ((s.bar b).outstanding, .busy),
     (enabled == 1 && 16 ≤ (s.othersOn b lane).length, .badValue),
     (enabled == 1 && (s.othersOn b lane).any (fun n => (s.bar n).address == address), .duplicate)]

/-- R110: what a new configuration does to a bar's state and known position. -/
def Bar.configure (enabled : Bool) (lane address cls limit : Nat) (bar : Bar) : Bar :=
  let x := { bar with enabled := enabled, lane := lane, address := address, cls := cls, limit := limit }
  if !enabled then { x with handshake := .off }
  else if !bar.enabled || bar.lane != lane || bar.address != address then { x with handshake := .lost, known := none }
  else x

def setBarEffect (b enabled lane address cls limit : Nat) (s : State) : State :=
  s.setBar b ((s.bar b).configure (enabled == 1) lane address cls limit)

/-- SET_BAR (R109, R110). -/
def execSetBar (p : Port) (b enabled lane address cls limit : Nat) (s : State) : Result :=
  .next (s.command p true (.setBar p b enabled lane address cls limit)
    (judged (setBarRefusal b enabled lane address cls limit) (setBarEffect b enabled lane address cls limit)
      (fun _ => [])))

/-! ### GET_BAR (R111) -/

/-- The states numbered in the order R107 lists them. -/
def Handshake.code : Handshake → Nat
  | .off => 0
  | .idle => 1
  | .posted _ => 2
  | .moving _ => 3
  | .lost => 4

def OrderKind.listed : OrderKind → Nat
  | .move => 0
  | .home => 1

/-- Deadlines numbered in the order R107 lists them: O_e, U_e, none. -/
def deadlineCode : Option Deadline → Nat
  | some .overlapEnd => 0
  | some .underlapEnd => 1
  | none => 2

/-- A position, FFH when absent or UNKNOWN (section 10.8). -/
def positionField (x : Option Nat) : List Byte := field1 (x.getD 0xFF)

/-- The outstanding order's fields (R111). -/
def Chain.bytes (c : Chain) : List Byte :=
  field1 c.order.kind.listed ++ field1 c.order.target ++ field1 (deadlineCode c.order.deadline) ++ fieldFlag c.held ++
  positionField c.origin ++ positionField c.lastTaken ++ field1 c.timersByte

/-- GET_BAR's data (R111; log entry 22). -/
def getBarData (b : Nat) (s : State) : List Byte :=
  let bar := s.bar b
  fieldFlag bar.enabled ++ field1 bar.lane ++ field1 bar.address ++ field1 bar.cls ++ field1 bar.limit ++
  positionField bar.known ++ field1 bar.handshake.code ++ field1 bar.driveCode ++
  (match bar.handshake.chain? with
    | some c => c.bytes
    | none => [])

def barRefusal (b : Nat) (_ : State) : Option Reply := firstRefusal [(47 < b, .badValue)]

/-- GET_BAR (R111). -/
def execGetBar (p : Port) (b : Nat) (s : State) : Result :=
  .next (s.command p false (.getBar p b) (judged (barRefusal b) id (getBarData b)))

/-! ### HOME and PLACE_BAR (R125, R126) -/

/-- HOME's argument for all enabled bars (section 10.8). -/
def allBars : Nat := 0xFF

def homeRefusal (b : Nat) (s : State) : Option Reply :=
  firstRefusal
    [(s.run.state != .halted && s.run.state != .faulted, .state), (47 < b && b != allBars, .badValue),
     (b != allBars && !(s.bar b).enabled, .state)]

/-- R125: a HOME is posted to an enabled bar. -/
def State.homeOne (s : State) (b : Nat) : State :=
  if (s.bar b).enabled then s.post b { kind := .home, target := 0, deadline := none } else s

def homeEffect (b : Nat) (s : State) : State :=
  if b = allBars then (List.range 48).foldl State.homeOne s else s.homeOne b

/-- HOME (R125). -/
def execHome (p : Port) (b : Nat) (s : State) : Result :=
  .next (s.command p true (.home p b) (judged (homeRefusal b) (homeEffect b) (fun _ => [])))

/-- R126's tests. R158 gives NOT_HOMED one byte naming the bar and cites R131 and R138 alone; that PLACE_BAR's NOT_HOMED
carries it too is the model's reading (log entry 39). -/
def placeBarRefusal (b x : Nat) (s : State) : Option Reply :=
  firstReply
    [firstRefusal
      [(s.run.state != .halted, .state), (47 < b || (s.bar b).limit < x, .badValue), (!(s.bar b).enabled, .state)],
     naming .notHomed (if (s.bar b).handshake = .lost then some b else none),
     firstRefusal [((s.bar b).outstanding, .busy)]]

def placeBarEffect (b x : Nat) (s : State) : State := s.orderTo b x none

/-- PLACE_BAR (R126). -/
def execPlaceBar (p : Port) (b x : Nat) (s : State) : Result :=
  .next (s.command p true (.placeBar p b x) (judged (placeBarRefusal b x) (placeBarEffect b x) (fun _ => [])))

end Sys2Proof.Machine
end

