-- ==== Sys2Proof/Machine/Queue.lean ====
section
/-! DEFINITION. The course queue, the history and the boundaries (06), and the commands QUEUE_READ and CONTINUE. -/

namespace Sys2Proof.Machine

/-- The function applied to a list's last element. -/
def mapLast {α : Type} (f : α → α) : List α → List α
  | [] => []
  | [x] => [f x]
  | x :: y :: rest => x :: mapLast f (y :: rest)

/-! ### Past the end of the article (R102) -/

/-- A forward boundary past the end: the overrun count rises, held at 255, and OVERRUN is set and raised. -/
def State.overrunForward (s : State) : State :=
  (State.setCause .overrun { s with queue := { s.queue with overrun := min 255 (s.queue.overrun + 1) } }).raise .overrun

/-- A record leaves the head for the history, whose oldest record is dropped when it held 8 (R90, R94). -/
def CourseQueue.execute (r : Record) (rest : List Record) (q : CourseQueue) : CourseQueue :=
  { q with records := rest, history := (r :: q.history).take 8 }

/-- The head leaves (R94): its STOP_MARK sets the stop cause MARK. -/
def State.headLeaves (r : Record) (rest : List Record) (s : State) : State :=
  if r.stopMark then State.setCause .mark { s with queue := s.queue.execute r rest }
  else { s with queue := s.queue.execute r rest }

/-- The end of the article is reported (R95, R141): in RUNNING the sequencer enters ENDED with the overrun count at 0. -/
def State.endArticle (s : State) : State :=
  if s.run.state = .running then
    { s with run := { s.run with state := .ended }, queue := { s.queue with overrun := 0 } }.raise .ended
  else s

/-- A forward boundary with a retreat backlog of 0 in PLACING, RUNNING or FAULTED (R94, R95, R96). -/
def State.advanceQueue (s : State) : State :=
  match s.queue.records with
  | [] => if s.builder.ended then s.overrunForward else s.hardFault .queueDry none none
  | [r] =>
    if s.builder.ended then (s.headLeaves r []).endArticle
    else (s.headLeaves r []).hardFault .queueDry none (some r.number)
  | r :: rest => s.headLeaves r rest

/-- R93: the queue takes a forward boundary. -/
def State.queueForward (s : State) : State :=
  match s.run.state with
  | .halted => s
  | .ended => s.overrunForward
  | _ =>
    if 0 < s.queue.backlog then { s with queue := { s.queue with backlog := s.queue.backlog - 1 } } else s.advanceQueue

/-! ### Backward boundaries -/

/-- R87: a record is reopened. A record carrying ARTICLE_END is not. -/
def Record.reopen (k : MachineConstants) (r : Record) : Record :=
  if r.articleEnd then r
  else
    { r with
      underlapPeriod := none
      isOpen := true
      ceiling := (ceilingFor k r.overlapPeriod).1
      longShog := (ceilingFor k r.overlapPeriod).2 }

/-- R100: the tail is discarded, the builder position set to its origin with END clear, and the new tail reopened. -/
def State.discardTail (s : State) : State :=
  match s.queue.records.getLast? with
  | none => s
  | some tail =>
    { s with
      queue := { s.queue with records := mapLast (Record.reopen s.constants) s.queue.records.dropLast }
      builder := { s.builder with position := tail.origin, ended := false } }

/-- R99: the newest history record is restored to the head; 17 records are brought back to 16, and a queue of 16 abandons
a build in progress (R70). -/
def State.restore (s : State) : State :=
  match s.queue.history with
  | [] => s
  | r :: rest =>
    let s' := { s with queue := { s.queue with records := r :: s.queue.records, history := rest } }
    if 16 < s'.queue.records.length then s'.discardTail.abandonBuild
    else if s'.queue.records.length = 16 then s'.abandonBuild
    else s'

/-- R101: a backward boundary that finds the history empty. -/
def State.retreat (s : State) : State :=
  let full := s.queue.backlog = 255
  let s' := (State.setCause .backoff
    { s with queue := { s.queue with backlog := min 255 (s.queue.backlog + 1) } }).raise .backoff
  if full then s'.hardFault .backlogFull none s'.headCourse else s'

/-- R102: a backward boundary past the end. -/
def State.overrunBackward (s : State) : State :=
  if 0 < s.queue.overrun then { s with queue := { s.queue with overrun := s.queue.overrun - 1 } }
  else
    match s.queue.history with
    | [] => s
    | _ :: _ =>
      if s.run.state = .ended then { s.restore with run := { s.run with state := .running } } else s.restore

/-- R99: the queue takes a backward boundary. -/
def State.queueBackward (s : State) : State :=
  match s.run.state with
  | .halted => s
  | .ended => s.overrunBackward
  | _ =>
    if s.pastEnd && 0 < s.queue.overrun then s.overrunBackward
    else match s.queue.history with
      | [] => s.retreat
      | _ :: _ => s.restore

/-! ### The boundaries as the tracker reports them (R4) -/

/-- R9: the period measurement takes a forward boundary at time `t`. -/
def Tracker.measure (t : Nat) (k : Tracker) : Tracker :=
  match k.startTime with
  | none => { k with startTime := some t }
  | some t0 => { k with startTime := some t, period := some (min (t - t0) 16777215) }

/-- A forward boundary, taken by the period measurement and the queue (R9, R93, R104). -/
def State.forwardBoundary (t : Nat) (s : State) : State :=
  State.watchCeiling State.queueForward { s with tracker := s.tracker.measure t }

/-- A backward boundary (R99, R104). -/
def State.backwardBoundary (s : State) : State := s.watchCeiling State.queueBackward

/-! ### QUEUE_READ and CONTINUE -/

/-- R106: a record as QUEUE_READ returns it. -/
def Record.bytes (r : Record) : List Byte :=
  field4 r.number ++ field1 r.origin.entry ++ field2 r.origin.iteration ++ field2 r.origin.course ++ field1 r.segment ++
  (r.pairs.flatMap fun x => field1 x.p1 ++ field1 x.p2) ++ field4 r.overlapPeriod ++
  field4 (r.underlapPeriod.getD 0xFFFFFFFF) ++ field2 r.ceiling ++ field1 r.flagsByte

/-- The list that QUEUE_READ names: 0 the queue, 1 the history (section 10.8). -/
def State.recordList (list : Nat) (s : State) : List Record :=
  match list with
  | 0 => s.queue.records
  | 1 => s.queue.history
  | _ => []

def queueReadRefusal (list index : Nat) (s : State) : Option Reply :=
  firstRefusal [(1 < list || (s.recordList list).length ≤ index, .badValue)]

def queueReadData (list index : Nat) (s : State) : List Byte :=
  match (s.recordList list)[index]? with
  | some r => field1 (s.recordList list).length ++ r.bytes
  | none => []

/-- QUEUE_READ (R106). -/
def execQueueRead (p : Port) (list index : Nat) (s : State) : Result :=
  .next (s.command p false (.queueRead p list index)
    (judged (queueReadRefusal list index) id (queueReadData list index)))

/-- R105: STOP_MARK is cleared on the first record that carries it. -/
def clearFirstMark : List Record → List Record
  | [] => []
  | r :: rest => if r.stopMark then { r with stopMark := false } :: rest else r :: clearFirstMark rest

def continueEffect (s : State) : State :=
  s.watchCeiling fun s => { s with queue := { s.queue with records := clearFirstMark s.queue.records } }

/-- CONTINUE (R105, R144). -/
def execContinue (p : Port) (s : State) : Result :=
  .next (s.command p true (.continueRun p) (judged (fun _ => none) continueEffect (fun _ => [])))

end Sys2Proof.Machine
end

