-- ==== Sys2Proof/Machine/Builder.lean ====
section
/-! DEFINITION. The course builder (05; 03, section 3.5; 04, sections 4.2 and 4.3): BUILD_BEGIN, BUILDER_FETCH and
APPEND. -/

namespace Sys2Proof.Machine

/-- The record whose course number a new record follows: the tail, or with the queue empty the newest history record
(R75). -/
def State.predecessor (s : State) : Option Record :=
  match s.queue.records.getLast? with
  | some r => some r
  | none => s.queue.history.head?

/-- R75: the highest course number. -/
def lastCourseNumber : Nat := 4294967295

/-- R68, R75: the builder can begin a build. -/
def State.canBegin (s : State) : Bool :=
  (s.run.state == .placing || s.run.state == .running || s.run.state == .faulted) &&
  !s.builder.ended && s.queue.records.length < 16 && s.builder.build.isNone &&
  match s.predecessor with
  | some r => r.number < lastCourseNumber
  | none => true

/-- The segment named by the entry of the builder position. -/
def State.buildSegment (s : State) : Nat := (s.seqEntry s.builder.position.entry).segment

/-! ### The switch at a segment start (R49, R50, R51) -/

/-- The entry's pending mapping is verified and is switched in at a segment start (R50). -/
def MapEntry.switches : MapEntry → Bool
  | .mapped _ (some p) => p.verified
  | _ => false

/-- R49: a CHECK is bound to its mapping: a switch moves the pending mapping to current and drops the current one. -/
def Engine.rebind (g : Nat) (e : Engine) : Engine :=
  match e.op with
  | some { kind := .check g' _ _, .. } =>
    if g = g' then
      { e with bound := match e.bound with
          | some .pending => some .current
          | _ => none }
    else e
  | _ => e

/-- R50, R51: the builder begins course 0 of segment `g`: a verified pending mapping becomes current (REMAPPED), an
unverified one is held (REMAP_HELD). -/
def State.startSegment (g : Nat) (s : State) : State :=
  match s.segment g with
  | .mapped _ (some p) =>
    if p.verified then
      State.raise .remapped { s.setSegment g (.mapped p none) with engine := s.engine.rebind g }
    else s.raise .remapHeld
  | _ => s

/-! ### Beginning a build (R69) -/

/-- R64's marks for the tail of the queue, and R86 when the closure ends the article. -/
def Record.close (k : MachineConstants) (a : Advance) (r : Record) : Record :=
  if a.articleEnd then
    { r with
      stopMark := r.stopMark || a.stopMark
      articleEnd := true
      isOpen := false
      underlapPeriod := none
      ceiling := (ceilingFor k r.overlapPeriod).1 }
  else { r with stopMark := r.stopMark || a.stopMark }

/-- R64: the cut-short iteration at the builder position is closed. -/
def State.closeIteration (s : State) : State :=
  let a := s.sequence.endIteration s.builder.position
  { s with
    builder := { s.builder with position := a.position, ended := a.ended }
    queue := { s.queue with records := mapLast (Record.close s.constants a) s.queue.records } }

/-- R69 from its second step: the build of the course at the builder position begins and asks for its fetch (R71). -/
def State.beginCourse (s : State) : State :=
  let g := s.buildSegment
  let c := s.builder.position.course
  let s' := if c = 0 then s.startSegment g else s
  match (s'.segment g).current with
  | none => s
  | some m =>
    { s' with builder := { s'.builder with
        build := some
          { base := m.base + c * m.bars, bars := m.bars, remapped := c = 0 && (s.segment g).switches, fetched := false }
        buffer := [] } }.askFetch

/-- R69: a build begins at the builder position. -/
def State.beginBuild (s : State) : State :=
  match (s.segment s.buildSegment).current with
  | none => s
  | some m =>
    if m.courses ≤ s.builder.position.course then
      if s.closeIteration.builder.ended then s.closeIteration else s.closeIteration.beginCourse
    else s.beginCourse

/-- BUILD_BEGIN (R68, R69). Without its occasion it changes nothing (log entry 1). -/
def execBuildBegin (s : State) : Result :=
  .next (s.unlessHeld fun s => if s.canBegin then s.watchCeiling State.beginBuild else s)

/-! ### The fetch (R71) -/

/-- The build in progress is the one the granted fetch belongs to: not yet fetched, and its own request not waiting. -/
def State.fetchedBuild (s : State) : Option Build :=
  match s.builder.build with
  | some b => if b.fetched || s.arbiter.fetchWaiting then none else some b
  | none => none

/-- The fetch in its grant ends: the cells of its build are in the fetch buffer, or, where the build was abandoned, they
are discarded (R70, R71). -/
def State.endFetch (s : State) : State :=
  match s.fetchedBuild with
  | some b =>
    { s with builder := { s.builder with
        build := some { b with fetched := true }, buffer := readCells s.memory b.base b.bars } }.endGrant.arbitrate
  | none => s.endGrant.arbitrate

/-- BUILDER_FETCH (R71). -/
def execBuilderFetch (s : State) : Result :=
  if s.arbiter.grant = some .builder then
    match s.fetchedBuild with
    | some b => if memorySize < b.base + b.bars then .fault (.noSuchCell (b.base + b.bars - 1)) else .next s.endFetch
    | none => .next s.endFetch
  else .next s

/-! ### The append (R83) -/

/-- R72, R73, R74: a bar's pair in the course being appended, and whether a position was clamped. -/
def State.coursePair (b : Build) (s : State) (n : Nat) : Pair × Bool :=
  let bar := s.bar n
  if bar.enabled && n < b.bars then
    let cell := (s.builder.buffer.getD n 0#16).toNat
    let lo := cell % 256
    let hi := cell / 256
    ({ p1 := min lo bar.limit, p2 := min hi bar.limit }, bar.limit < lo || bar.limit < hi)
  else
    match s.predecessor with
    | some r => ({ p1 := (r.pair n).p2, p2 := (r.pair n).p2 }, false)
    | none =>
      let x := bar.known.getD 0
      ({ p1 := min x bar.limit, p2 := min x bar.limit }, bar.limit < x)

/-- R85: a record is finalized against its successor's pairs. A record carrying ARTICLE_END never is. -/
def State.finalize (next : List Pair) (s : State) (r : Record) : Record :=
  if r.articleEnd then r
  else
    let pu := s.underlapPeriod r.pairs next
    let c := ceilingFor s.constants (max r.overlapPeriod pu)
    { r with underlapPeriod := some pu, ceiling := c.1, longShog := r.longShog || c.2, isOpen := false }

/-- The record that an append finalizes: the tail, or with the queue empty the newest history record while it is OPEN
(R85, R97). -/
def State.toFinalize (s : State) : Option Record :=
  match s.queue.records.getLast? with
  | some r => some r
  | none => match s.queue.history.head? with
    | some r => if r.isOpen then some r else none
    | none => none

/-- R85, R97: the queue block with that record finalized. -/
def State.finalizedQueue (next : List Pair) (s : State) : CourseQueue :=
  match s.queue.records with
  | _ :: _ => { s.queue with records := mapLast (s.finalize next) s.queue.records }
  | [] => match s.queue.history with
    | r :: rest => { s.queue with history := (if r.isOpen then s.finalize next r else r) :: rest }
    | [] => s.queue

/-- The course count of the current mapping of a segment, 0 for an EMPTY entry. -/
def State.courseCount (s : State) (g : Nat) : Nat :=
  match (s.segment g).current with
  | some m => m.courses
  | none => 0

/-- The advance of R61 for the build at the builder position. -/
def State.buildAdvance (s : State) : Advance :=
  s.sequence.advance (s.courseCount s.buildSegment) s.builder.position

/-- The new record (R60, R61, R75, R80, R81, R84, R86). -/
def State.newRecord (b : Build) (s : State) : Record :=
  let found := (List.range 48).map (s.coursePair b)
  let pairs := found.map Prod.fst
  let period := s.overlapPeriod pairs
  let c := ceilingFor s.constants period
  let a := s.buildAdvance
  { number := match s.predecessor with
      | some r => r.number + 1
      | none => 0
    origin := s.builder.position
    segment := s.buildSegment
    pairs := pairs
    overlapPeriod := period
    underlapPeriod := none
    ceiling := c.1
    isOpen := !a.articleEnd
    segmentStart := s.builder.position.course == 0
    stopMark := a.stopMark
    articleEnd := a.articleEnd
    remapped := b.remapped
    clamped := found.any Prod.snd
    longShog := c.2 }

/-- R82: the finalization sets LONG_SHOG on a record that did not carry it. -/
def State.finalizeRaises (next : List Pair) (s : State) : Bool :=
  match s.toFinalize with
  | some r => !r.longShog && (s.finalize next r).longShog
  | none => false

/-- R83: the append. -/
def State.appendBuild (b : Build) (s : State) : State :=
  let r := s.newRecord b
  let q := s.finalizedQueue r.pairs
  (State.raiseIf (r.longShog || s.finalizeRaises r.pairs) .longShog
    (State.raiseIf r.clamped .clamped
      { s with
        queue := { q with records := q.records ++ [r] }
        builder :=
          { position := s.buildAdvance.position, ended := s.buildAdvance.ended, build := none, buffer := [] } })).tryPlacement

/-- The build whose fetch has been read and that waits to be appended. -/
def State.readyBuild (s : State) : Option Build :=
  match s.builder.build with
  | some b => if b.fetched then some b else none
  | none => none

/-- APPEND (R83). -/
def execAppend (s : State) : Result :=
  .next (s.unlessHeld fun s =>
    match s.readyBuild with
    | some b => s.watchCeiling (State.appendBuild b)
    | none => s)

end Sys2Proof.Machine
end

