-- ==== Sys2Proof/Machine/Engine.lean ====
section
/-! DEFINITION. The long-operation engine (09): CHUNK and OP_FILL, OP_COPY, OP_CHECK, OP_SUSPEND, OP_RESUME, OP_ABORT,
OP_STATUS. -/

namespace Sys2Proof.Machine

/-! ### Starting (R148, R149, R150) -/

/-- A newly accepted operation replaces the record (R146). -/
def Engine.start (kind : OpKind) (owner : Port) (total : Nat) (extents : List Extent) (e : Engine) : Engine :=
  { state := .active, op := some { kind := kind, owner := some owner, total := total, progress := 0 },
    extents := extents, abortRequested := false, resetStop := false, result := .none, computed := none,
    register := e.register, bound := none }

/-- The engine starts an operation and asks for its first chunk. -/
def State.startOp (kind : OpKind) (owner : Port) (total : Nat) (extents : List Extent) (s : State) : State :=
  (State.askChunk { s with engine := s.engine.start kind owner total extents }).arbitrate

def opFillRefusal (p : Port) (n : Nat) (s : State) : Option Reply :=
  firstRefusal
    [(15 < n, .badValue), (s.engine.state != .idle, .busy), (!(s.region n).valid, .noRegion),
     ((s.region n).lockedAgainst p, .locked), ((s.region n).range.meetsAny s.liveExtents, .live)]

def opFillEffect (p : Port) (n : Nat) (v : Cell) (s : State) : State :=
  (s.unverify (s.region n).range).startOp (.fill n v) p (s.region n).size [(s.region n).range]

/-- OP_FILL (R148). -/
def execOpFill (p : Port) (n : Nat) (v : Cell) (s : State) : Result :=
  .next (s.command p false (.opFill p n v) (judged (opFillRefusal p n) (opFillEffect p n v) (fun _ => [])))

/-- R149's tests. -/
def opCopyRefusal (p : Port) (src dst n : Nat) (s : State) : Option Reply :=
  let source : Extent := { first := src, count := n }
  let target : Extent := { first := dst, count := n }
  firstRefusal
    [(n == 0 || 65536 < n || 1048575 < src || 1048575 < dst || 1048576 < src + n || 1048576 < dst + n ||
        source.meets target, .badValue),
     (s.engine.state != .idle, .busy),
     ((s.regionHolding dst).isNone, .noRegion),
     (match s.regionHolding dst with
      | some r => !target.within r.range
      | none => false, .span),
     (match s.regionHolding dst with
      | some r => r.lockedAgainst p
      | none => false, .locked),
     (target.meetsAny s.liveExtents, .live)]

def opCopyEffect (p : Port) (src dst n : Nat) (s : State) : State :=
  (s.unverify { first := dst, count := n }).startOp (.copy src dst) p n
    [{ first := src, count := n }, { first := dst, count := n }]

/-- OP_COPY (R149). -/
def execOpCopy (p : Port) (src dst n : Nat) (s : State) : Result :=
  .next (s.command p false (.opCopy p src dst n)
    (judged (opCopyRefusal p src dst n) (opCopyEffect p src dst n) (fun _ => [])))

/-- The mapping that OP_CHECK's argument names: 0 current, 1 pending (section 10.8). -/
def slotNamed (w : Nat) : MappingSlot := if w = 0 then .current else .pending

def opCheckRefusal (g w : Nat) (s : State) : Option Reply :=
  firstRefusal
    [(63 < g || 1 < w, .badValue), (s.engine.state != .idle, .busy),
     (((s.segment g).slot (slotNamed w)).isNone, .state)]

def opCheckEffect (p : Port) (g w : Nat) (s : State) : State :=
  match (s.segment g).slot (slotNamed w) with
  | none => s
  | some m =>
    let s' := { s with engine :=
      { s.engine.start (.check g (slotNamed w) m) p (m.courses * m.bars) [m.extent] with
        register := 0xFFFF#16, bound := some (slotNamed w) } }
    s'.askChunk.arbitrate

/-- OP_CHECK (R150). -/
def execOpCheck (p : Port) (g w : Nat) (s : State) : Result :=
  .next (s.command p false (.opCheck p g w) (judged (opCheckRefusal g w) (opCheckEffect p g w) (fun _ => [])))

/-! ### Chunks (R147) -/

/-- The cells of the next chunk (R147). -/
def Operation.chunkSize (op : Operation) : Nat := min 256 (op.total - op.progress)

/-- The first cell that the operation's own extents begin at. -/
def Engine.base (e : Engine) : Nat := (e.extents.head?.map Extent.first).getD 0

/-- The end of the cells that the next chunk reaches. -/
def State.chunkEnd (op : Operation) (s : State) : Nat :=
  match op.kind with
  | .copy src dst => max src dst + op.progress + op.chunkSize
  | .check _ _ m => m.base + op.progress + op.chunkSize
  | .fill _ _ => s.engine.base + op.progress + op.chunkSize
  | .startUp => op.progress + op.chunkSize

/-- R147 to R150: a chunk does its cells in ascending order. -/
def State.doCells (op : Operation) (s : State) : State :=
  match op.kind with
  | .fill _ v =>
    { s with memory := writeCells s.memory (s.engine.base + op.progress) (List.replicate op.chunkSize v) }
  | .copy src dst =>
    { s with memory := copyCells s.memory (src + op.progress) (dst + op.progress) op.chunkSize }
  | .check _ _ m =>
    { s with engine := { s.engine with
        register := (readCells s.memory (m.base + op.progress) op.chunkSize).foldl checkCell s.engine.register } }
  | .startUp => { s with memory := writeCells s.memory op.progress (List.replicate op.chunkSize 0#16) }

/-- The operation ends with a result: the busy extents are released and the engine is IDLE (R147, R153). -/
def Engine.finish (result : OpResult) (e : Engine) : Engine :=
  { e with state := .idle, extents := [], abortRequested := false, resetStop := false, result := result, bound := none }

/-- An operation ends, and OP_DONE goes to its owner (R147, R153). -/
def State.endOp (owner : Option Port) (result : OpResult) (s : State) : State :=
  State.raiseOpDone owner { s with engine := s.engine.finish result }

/-- R151: a done CHECK sets or clears the bound mapping's verified flag, where that mapping still exists. -/
def State.settleCheck (g : Nat) (ok : Bool) (s : State) : State :=
  match s.engine.bound with
  | some slot => s.setSegment g ((s.segment g).setVerified slot ok)
  | none => s

/-- R151: the end of a CHECK. -/
def State.endCheck (g : Nat) (expected : Check) (owner : Option Port) (s : State) : State :=
  let ok := s.engine.register = expected
  State.endOp owner (if ok then .ok else .mismatch)
    { s.settleCheck g ok with engine := { s.engine with computed := some s.engine.register } }

/-- What follows a chunk that ends with this record: the stop of R155, the abort of R153, the end of the start-up fill
(R38), or the end of a done operation (R147). Otherwise the operation goes on. -/
def State.settleChunk (op : Operation) (s : State) : State :=
  if s.engine.resetStop then { s with engine := Engine.initial }
  else if s.engine.abortRequested then s.endOp op.owner .aborted
  else if op.progress = op.total then
    match op.kind with
    | .startUp => { s with engine := Engine.initial }
    | .check g _ m => s.endCheck g m.expected op.owner
    | .fill _ _ => s.endOp op.owner .ok
    | .copy _ _ => s.endOp op.owner .ok
  else s

/-- R147: the chunk in its grant does its cells and ends; the engine asks for the next one and the arbiter grants. -/
def State.runChunk (op : Operation) (s : State) : State :=
  let op' := { op with progress := op.progress + op.chunkSize }
  let s1 := s.doCells op
  let s2 := State.settleChunk op' { s1 with engine := { s1.engine with op := some op' } }
  s2.endGrant.askChunk.arbitrate

/-- CHUNK (R147). It goes on while the reset input is held (R26, R38, R155). -/
def execChunk (s : State) : Result :=
  match s.arbiter.grant, s.engine.op with
  | some .engine, some op =>
    if memorySize < s.chunkEnd op then .fault (.noSuchCell (s.chunkEnd op - 1)) else .next (s.runChunk op)
  | _, _ => .next s

/-! ### Suspending, resuming, aborting (R152, R153) -/

/-- The owner of the operation in the record. -/
def Engine.owner (e : Engine) : Option Port :=
  match e.op with
  | some op => op.owner
  | none => none

def opSuspendRefusal (p : Port) (s : State) : Option Reply :=
  firstRefusal
    [(s.engine.state == .idle, .state), (s.engine.owner != some p, .notOwner), (s.engine.abortRequested, .state)]

def opSuspendEffect (s : State) : State :=
  if s.engine.state = .active then State.withdrawChunk { s with engine := { s.engine with state := .suspended } } else s

/-- OP_SUSPEND (R152). -/
def execOpSuspend (p : Port) (s : State) : Result :=
  .next (s.command p false (.opSuspend p) (judged (opSuspendRefusal p) opSuspendEffect (fun _ => [])))

def opResumeRefusal (p : Port) (s : State) : Option Reply :=
  firstRefusal
    [(s.engine.state == .idle, .state), (s.engine.owner != some p, .notOwner), (s.engine.abortRequested, .state)]

def opResumeEffect (s : State) : State :=
  if s.engine.state = .suspended then
    (State.askChunk { s with engine := { s.engine with state := .active } }).arbitrate
  else s

/-- OP_RESUME (R152). -/
def execOpResume (p : Port) (s : State) : Result :=
  .next (s.command p false (.opResume p) (judged (opResumeRefusal p) opResumeEffect (fun _ => [])))

def opAbortRefusal (p : Port) (s : State) : Option Reply :=
  firstRefusal [(s.engine.state == .idle, .state), (s.engine.owner != some p, .notOwner)]

/-- R153: with a chunk in its grant the abort is requested, otherwise the operation ends at once. -/
def opAbortEffect (s : State) : State :=
  if s.engine.abortRequested then s
  else if s.arbiter.grant = some .engine then { s with engine := { s.engine with abortRequested := true } }
  else s.withdrawChunk.endOp s.engine.owner .aborted

/-- OP_ABORT (R153). -/
def execOpAbort (p : Port) (s : State) : Result :=
  .next (s.command p false (.opAbort p) (judged (opAbortRefusal p) opAbortEffect (fun _ => [])))

/-! ### OP_STATUS (R154) -/

def EngineState.code : EngineState → Nat
  | .idle => 0
  | .active => 1
  | .suspended => 2

def OpResult.code : OpResult → Nat
  | .none => 0
  | .ok => 1
  | .mismatch => 2
  | .aborted => 3

/-- An owner numbered in the order R146 lists it: port M, port D, start-up. -/
def ownerCode : Option Port → Nat
  | some .m => 0
  | some .d => 1
  | none => 2

/-- An operation's kind, owner and arguments (R154; log entry 23). Section 10.8's widths name no cell value; FILL's value
takes two bytes, the model's choice (log entry 41). -/
def Operation.bytes (op : Operation) : List Byte :=
  match op.kind with
  | .fill n v => field1 0 ++ field1 (ownerCode op.owner) ++ field1 n ++ field2 v.toNat
  | .copy src dst => field1 1 ++ field1 (ownerCode op.owner) ++ field3 src ++ field3 dst ++ field3 op.total
  | .check g w m =>
    field1 2 ++ field1 (ownerCode op.owner) ++ field1 g ++ field1 (if w = .current then 0 else 1) ++ field3 m.base ++
    field2 m.courses ++ field1 m.bars ++ field2 m.expected.toNat
  | .startUp => field1 3 ++ field1 (ownerCode op.owner)

/-- OP_STATUS's data (R154; log entry 23). -/
def opStatusData (s : State) : List Byte :=
  let e := s.engine
  field1 e.state.code ++ fieldFlag e.abortRequested ++
  (match e.op with
    | some op => op.bytes
    | none => [Config.noKindCode]) ++
  (s.busyExtents.flatMap fun x => field3 x.first ++ field3 x.count) ++
  (match e.op with
    | some op => field3 op.total ++ field3 op.progress
    | none => []) ++
  field1 e.result.code ++
  (match e.computed with
    | some c => field2 c.toNat
    | none => [])

/-- OP_STATUS (R154). -/
def execOpStatus (p : Port) (s : State) : Result :=
  .next (s.command p false (.opStatus p) (judged (fun _ => none) id opStatusData))

end Sys2Proof.Machine
end

