-- ==== Sys2Proof/Machine/Lanes.lean ====
section
/-! DEFINITION. The drive lanes (07): deadline and zone crossings, and the lane events ORDER_FRAME_SENT, TAKEN,
IN_POSITION, FAULT, REPLY_FRAME_IGNORED, TAKE_LIMIT_EXPIRY and MOVE_LIMIT_EXPIRY. -/

namespace Sys2Proof.Machine

/-! ### Deadline crossings (R114) -/

/-- The bar's outstanding order has this deadline. -/
def Bar.hasDeadline (d : Deadline) (bar : Bar) : Bool :=
  match bar.handshake.chain? with
  | some c => c.order.deadline == some d
  | none => false

/-- The deadline is removed from the current order. -/
def Bar.dropDeadline (bar : Bar) : Bar :=
  match bar.handshake with
  | .posted c => { bar with handshake := .posted { c with order := { c.order with deadline := none } } }
  | .moving c => { bar with handshake := .moving { c with order := { c.order with deadline := none } } }
  | _ => bar

/-- R114: a forward crossing of a deadline angle. -/
def State.deadlineCrossing (d : Deadline) (s : State) : State :=
  if s.bars.any (Bar.hasDeadline d) then
    (State.setCause .late
      { s with bars := s.bars.map fun bar => if bar.hasDeadline d then bar.dropDeadline else bar }).raise .late
  else s

/-! ### Zone crossings (R113, R115) -/

/-- The four zone crossings of R5. -/
inductive Crossing where
  | enterZ1
  | enterZ2
  | backToZ1
  | backToZ0
  deriving DecidableEq, Repr

/-- The zone just entered (R113). -/
def Crossing.zone : Crossing → Zone
  | .enterZ1 => .z1
  | .enterZ2 => .z2
  | .backToZ1 => .z1
  | .backToZ0 => .z0

/-- The deadline of the orders of a crossing (R113). -/
def Crossing.deadline : Crossing → Option Deadline
  | .enterZ1 => some .overlapEnd
  | .enterZ2 => some .underlapEnd
  | .backToZ1 => none
  | .backToZ0 => none

/-- R115: the required period of the record's own shog for a bar ordered at a forward entry, absent where there is no
shog to check. -/
def State.shogNeed (x : Crossing) (b : Nat) (s : State) : Option Nat :=
  match x, s.queue.records with
  | .enterZ1, r :: _ => some (s.overlapNeed (s.bar b) (distance (r.pair b).p1 (r.pair b).p2))
  | .enterZ2, r :: next :: _ => some (s.underlapNeed (s.bar b) (distance (next.pair b).p1 (r.pair b).p2))
  | _, _ => none

/-- R115: the RISK check of a bar ordered at a crossing. -/
def State.atRisk (x : Crossing) (b : Nat) (s : State) : Bool :=
  match s.tracker.period, s.shogNeed x b with
  | some p, some need => p < need
  | _, _ => false

/-- R113: a bar of lane `g` that a crossing can order: enabled, and IDLE, POSTED or MOVING. -/
def Bar.followsZones (g : Nat) (bar : Bar) : Bool :=
  bar.enabled && bar.lane == g && (bar.handshake == .idle || bar.outstanding)

/-- R113: one bar at a crossing of group `g`. -/
def State.orderAtCrossing (g : Nat) (x : Crossing) (s : State) (b : Nat) : State :=
  match s.queue.zoneTarget x.zone b with
  | none => s
  | some t =>
    if (s.bar b).followsZones g ∧ (s.bar b).standing ≠ some t then
      (s.raiseIf (s.atRisk x b) .risk).post b { kind := .move, target := t, deadline := x.deadline }
    else s

/-- R113: lane `g` takes a zone crossing. The queue gives all bars targets or none; a forward entry to Z2 without
targets is QUEUE_DRY (R98). -/
def State.zoneCrossing (g : Nat) (x : Crossing) (s : State) : State :=
  if s.run.state = .running ∧ s.queue.backlog = 0 then
    if (s.queue.zoneTarget x.zone 0).isSome then (List.range 48).foldl (State.orderAtCrossing g x) s
    else if x = .enterZ2 then s.hardFault .queueDry none s.headCourse
    else s
  else s

/-! ### Replies (R118, R121, R122) -/

/-- R118: TAKEN from bar `b`. -/
def State.replyTaken (b : Nat) (s : State) : State :=
  let bar := s.bar b
  let lane := s.lane bar.lane
  match bar.handshake, lane.queue with
  | .posted c, e :: rest =>
    if lane.awaiting ∧ e.bar = b then
      let s' := s.setLane bar.lane { lane with queue := rest, awaiting := false }
      let c' := { c with takeTimer := none, lastTaken := some e.target, held := false }
      if c.held = false ∨ (c.order.kind = e.kind ∧ c.order.target = e.target) then
        let limit := moveLimit (s.driveClass bar.cls) s.constants.slack c.order c.origin c.lastTaken
        (s'.setBar b { bar with
          handshake := .moving { c' with moveTimer := some { start := s.now, limit := limit } } }).transmit bar.lane
      else (s'.setBar b { bar with handshake := .posted c' }).enqueue b c.order
    else s
  | _, _ => s

/-- R121: IN_POSITION at `pos` from bar `b`. -/
def State.replyInPosition (b pos : Nat) (s : State) : State :=
  match (s.bar b).handshake with
  | .moving c =>
    if pos = c.order.target then
      (s.setBar b { s.bar b with handshake := .idle, known := some pos }).completePlacement
    else (s.setBar b ((s.bar b).lose (some pos))).barFault .mismatch b
  | _ => s

/-- A bar goes LOST with its position UNKNOWN, its entry leaves the lane queue, and a lane so freed transmits
(R119, R122). -/
def State.loseFromLane (b : Nat) (s : State) : State :=
  let g := (s.bar b).lane
  ((s.setBar b ((s.bar b).lose none)).setLane g ((s.lane g).remove b)).transmit g

/-- R122: FAULT with a drive code from bar `b`. -/
def State.replyFault (b code : Nat) (s : State) : State :=
  if (s.bar b).outstanding then
    ((s.setBar b { s.bar b with driveCode := code }).loseFromLane b).barFault .driveFault b
  else s

/-- R123, R164: a reply that ends while the lane itself transmits is cut off and ignored; otherwise the lane matches it to
the enabled bar with its address, and any other reply is ignored. -/
def State.driveReply (lane address : Nat) (r : DriveReply) (s : State) : State :=
  if (s.lane lane).frame.isSome then s
  else match s.barAt lane address, r with
    | some b, .taken => s.replyTaken b
    | some b, .inPosition pos => s.replyInPosition b pos
    | some b, .fault code => s.replyFault b code
    | none, _ => s

/-- TAKEN (R118). -/
def execTaken (lane address time : Nat) (s : State) : Result :=
  .next ((s.elapse time).unlessHeld (State.driveReply lane address .taken))

/-- IN_POSITION (R121). A position above 127 is no reply (R164). -/
def execInPosition (lane address position : Nat) (s : State) : Result :=
  .next (if position ≤ 127 then s.unlessHeld (State.driveReply lane address (.inPosition position)) else s)

/-- FAULT (R122). The code 0 is no reply (R164). -/
def execFault (lane address code : Nat) (s : State) : Result :=
  .next (if code = 0 then s else s.unlessHeld (State.driveReply lane address (.fault code)))

/-- REPLY_FRAME_IGNORED (R164): a frame that does not decode changes nothing. A frame that does is no ignored frame, and
is handed to the handshake (log entry 35). -/
def execReplyFrameIgnored (lane : Nat) (frame : ReplyFrame) (time : Nat) (s : State) : Result :=
  .next (match decodeReply frame with
    | none => s
    | some (address, r) => (s.elapse time).unlessHeld (State.driveReply lane address r))

/-! ### The line and the timers (R116, R119, R120) -/

/-- The take timer of a POSTED bar starts. -/
def Bar.startTakeTimer (t : Nat) (bar : Bar) : Bar :=
  match bar.handshake with
  | .posted c => { bar with handshake := .posted { c with takeTimer := some t } }
  | _ => bar

/-- The frame on lane `g` has been sent: the take timer of the sent head's bar starts; after a purged order's frame the
lane transmits its head (R116, R127). -/
def State.frameSent (g : Nat) (s : State) : State :=
  let lane := s.lane g
  if lane.frame.isSome then
    let s' := s.setLane g { lane with frame := none }
    match lane.awaiting, lane.queue with
    | true, e :: _ => s'.setBar e.bar ((s.bar e.bar).startTakeTimer s.now)
    | _, _ => s'.transmit g
  else s

/-- ORDER_FRAME_SENT (R116). -/
def execOrderFrameSent (lane time : Nat) (s : State) : Result :=
  .next ((s.elapse time).unlessHeld (State.frameSent lane))

/-- The take limit of 2,000 µs (R119). -/
def takeLimit : Nat := 2000

/-- R119. -/
def State.takeLimitReached (b : Nat) (s : State) : State :=
  match (s.bar b).handshake with
  | .posted c =>
    match c.takeTimer with
    | some t0 => if t0 + takeLimit ≤ s.now then (s.loseFromLane b).barFault .driveSilent b else s
    | none => s
  | _ => s

/-- TAKE_LIMIT_EXPIRY (R119). -/
def execTakeLimitExpiry (bar time : Nat) (s : State) : Result :=
  .next ((s.elapse time).unlessHeld (State.takeLimitReached bar))

/-- R120. -/
def State.moveLimitReached (b : Nat) (s : State) : State :=
  match (s.bar b).handshake with
  | .moving c =>
    match c.moveTimer with
    | some m =>
      if m.start + m.limit ≤ s.now then (s.setBar b ((s.bar b).lose none)).barFault .driveTimeout b else s
    | none => s
  | _ => s

/-- MOVE_LIMIT_EXPIRY (R120). -/
def execMoveLimitExpiry (bar time : Nat) (s : State) : Result :=
  .next ((s.elapse time).unlessHeld (State.moveLimitReached bar))

end Sys2Proof.Machine
end

