-- ==== Sys2Proof/Machine/Map.lean ====
section
/-! DEFINITION. The segment map (03): MAP, MAP_CANCEL, MAP_CLEAR, MAP_GET. -/

namespace Sys2Proof.Machine

/-- The mapping that MAP makes: verified flag clear (R42, R43). -/
def newMapping (base courses bars : Nat) (expected : Check) : Mapping :=
  { base := base, courses := courses, bars := bars, expected := expected, verified := false }

/-- R41's tests. -/
def mapRefusal (g base courses bars : Nat) (s : State) : Option Reply :=
  let e : Extent := { first := base, count := courses * bars }
  firstRefusal
    [(63 < g || 1048575 < base || courses == 0 || bars == 0 || 48 < bars, .badValue),
     ((s.regionHolding base).isNone, .noRegion),
     (match s.regionHolding base with
      | some r => !e.within r.range
      | none => false, .span),
     (e.meetsAny s.busyExtents || (s.checking g).isSome, .busyRegion)]

/-- R42, R43: the current mapping of a segment that is not live is replaced; a live segment's new mapping is pending. -/
def mapEffect (g : Nat) (m : Mapping) (s : State) : State :=
  match s.segmentLive g, s.segment g with
  | true, .mapped c _ => s.setSegment g (.mapped c (some m))
  | _, _ => s.setSegment g (.mapped m none)

/-- MAP (R41, R42, R43). -/
def execMap (p : Port) (g base courses bars : Nat) (expected : Check) (s : State) : Result :=
  .next (s.command p false (.map p g base courses bars expected)
    (judged (mapRefusal g base courses bars) (mapEffect g (newMapping base courses bars expected)) (fun _ => [])))

def mapCancelRefusal (g : Nat) (s : State) : Option Reply :=
  firstRefusal [(63 < g, .badValue), ((s.checking g).isSome, .busyRegion)]

/-- R44: the pending mapping is dropped. -/
def mapCancelEffect (g : Nat) (s : State) : State :=
  match s.segment g with
  | .empty => s
  | .mapped c _ => s.setSegment g (.mapped c none)

/-- MAP_CANCEL (R44). -/
def execMapCancel (p : Port) (g : Nat) (s : State) : Result :=
  .next (s.command p false (.mapCancel p g) (judged (mapCancelRefusal g) (mapCancelEffect g) (fun _ => [])))

def mapClearRefusal (g : Nat) (s : State) : Option Reply :=
  firstRefusal [(63 < g, .badValue), (s.segmentLive g, .live), ((s.checking g).isSome, .busyRegion)]

def mapClearEffect (g : Nat) (s : State) : State := s.setSegment g .empty

/-- MAP_CLEAR (R45). -/
def execMapClear (p : Port) (g : Nat) (s : State) : Result :=
  .next (s.command p false (.mapClear p g) (judged (mapClearRefusal g) (mapClearEffect g) (fun _ => [])))

/-- A mapping's fields, all 0 where there is none (R46). -/
def mappingBytes (m : Option Mapping) : List Byte :=
  match m with
  | some m => field3 m.base ++ field2 m.courses ++ field1 m.bars ++ field2 m.expected.toNat ++ fieldFlag m.verified
  | none => List.replicate 9 0#8

/-- The checking indication: none, current, pending (R46). -/
def checkingCode : Option MappingSlot → Nat
  | none => 0
  | some .current => 1
  | some .pending => 2

/-- MAP_GET's data (R46). -/
def mapGetData (g : Nat) (s : State) : List Byte :=
  let e := s.segment g
  fieldFlag e.current.isSome ++ mappingBytes e.current ++ fieldFlag e.pending.isSome ++ mappingBytes e.pending ++
  fieldFlag (s.segmentLive g) ++ field1 (checkingCode (s.checking g))

def segmentRefusal (g : Nat) (_ : State) : Option Reply := firstRefusal [(63 < g, .badValue)]

/-- MAP_GET (R46). -/
def execMapGet (p : Port) (g : Nat) (s : State) : Result :=
  .next (s.command p false (.mapGet p g) (judged (segmentRefusal g) id (mapGetData g)))

end Sys2Proof.Machine
end

