-- ==== Sys2Proof/Machine/Memory.lean ====
section
/-! DEFINITION. Port access to pattern memory and the region table (02): READ_CELLS, WRITE_CELLS and their grants, and
REGION_SET, REGION_CLEAR, REGION_GET, LOCK, UNLOCK, LOCK_DOWN. -/

namespace Sys2Proof.Machine

/-! ### Cell commands (R21, R22) -/

/-- The range tests of READ_CELLS and WRITE_CELLS (R21, R22). -/
def cellRangeRefusal (address count : Nat) (_ : State) : Option Reply :=
  firstRefusal
    [(count < 1 || 128 < count || 1048575 < address || 1048576 < address + count, .badValue)]

/-- A cell command that passes the tests made when it is taken waits for its grant, and the slot is PENDING (R158). -/
def waitForGrant (p : Port) (refusal : State → Option Reply) (x : Access) : Body := fun s =>
  match refusal s with
  | some r => (s, .ready r)
  | none => (s.askAccess p x, .pending)

/-- READ_CELLS (R21). -/
def execReadCells (p : Port) (address count : Nat) (s : State) : Result :=
  .next (s.command p false (.readCells p address count)
    (waitForGrant p (cellRangeRefusal address count) (.read address count)))

/-- The cells that a WRITE_CELLS of count `n` carries, one for each. -/
def carriedCells (n : Nat) (cells : List Cell) : List Cell := (List.range n).map fun i => cells.getD i 0#16

/-- WRITE_CELLS (R22). -/
def execWriteCells (p : Port) (address count : Nat) (cells : List Cell) (s : State) : Result :=
  .next (s.command p false (.writeCells p address count cells)
    (waitForGrant p (cellRangeRefusal address count) (.write address (carriedCells count cells))))

/-! ### Their grants (R21, R22, R23) -/

/-- R22's tests at the grant, in their order. -/
def State.judgeWrite (p : Port) (e : Extent) (s : State) : Option Status :=
  match s.regionHolding e.first with
  | none => some .noRegion
  | some r =>
    if !e.within r.range then some .span
    else if r.lockedAgainst p then some .locked
    else if e.meetsAny s.busyExtents then some .busyRegion
    else if e.meetsAny s.liveExtents then some .live
    else none

/-- R23: the write lands whole and clears the verified flags of the mappings it touches. -/
def State.landWrite (address : Nat) (cells : List Cell) (s : State) : State :=
  State.unverify { first := address, count := cells.length } { s with memory := writeCells s.memory address cells }

/-- R22, R23: a write in its grant is judged and lands whole or not at all. -/
def State.writeInGrant (p : Port) (address : Nat) (cells : List Cell) (s : State) : State × Status :=
  match s.judgeWrite p { first := address, count := cells.length } with
  | some status => (s, status)
  | none => (s.landWrite address cells, .ok)

/-- The port's access is done: its grant ends, the reply is READY, and the arbiter grants the next request. -/
def State.endAccess (p : Port) (reply : Reply) (s : State) : State :=
  (State.endGrant
    { s.setSlot p (.ready reply) with arbiter := s.arbiter.setAccess p none }).arbitrate

/-- READ_CELLS_GRANT (R21). -/
def execReadCellsGrant (p : Port) (s : State) : Result :=
  if s.arbiter.grant = some (.port p) then
    match s.arbiter.access p with
    | some (.read a n) =>
      if memorySize < a + n then .fault (.noSuchCell (a + n - 1))
      else .next (s.endAccess p { status := .ok, data := cellBytes (readCells s.memory a n) })
    | _ => .next s
  else .next s

/-- WRITE_CELLS_GRANT (R22, R23). -/
def execWriteCellsGrant (p : Port) (s : State) : Result :=
  if s.arbiter.grant = some (.port p) then
    match s.arbiter.access p with
    | some (.write a cells) =>
      if memorySize < a + cells.length then .fault (.noSuchCell (a + cells.length - 1))
      else .next ((s.writeInGrant p a cells).1.endAccess p (refuse (s.writeInGrant p a cells).2))
    | _ => .next s
  else .next s

/-! ### Region table (R28 to R34) -/

def State.setRegion (n : Nat) (r : Region) (s : State) : State := { s with regions := s.regions.set n r }

/-- The nine sizes of a region. -/
def regionSizes : List Nat := (List.range 9).map fun i => 4096 * 2 ^ i

/-- The extent of some mapping lies in the region's range, while it is valid (R28, R29, R30). -/
def State.regionInUse (s : State) (r : Region) : Bool := r.valid && s.extents.any fun e => e.within r.range

/-- A busy extent meets the region's range, while it is valid (R28, R29, R30). -/
def State.regionBusy (s : State) (r : Region) : Bool := r.valid && r.range.meetsAny s.busyExtents

/-- The range shares a cell with another valid region than region `n` (R28). -/
def State.overlapsOther (s : State) (n : Nat) (e : Extent) : Bool :=
  (List.range 16).any fun i => i != n && (s.region i).valid && e.meets (s.region i).range

def regionSetRefusal (n base size : Nat) (s : State) : Option Reply :=
  firstRefusal
    [(15 < n || !regionSizes.contains size || 1048575 < base || base % size != 0, .badValue),
     ((s.region n).valid && (s.region n).holder.isSome, .locked),
     (s.regionInUse (s.region n), .inUse),
     (s.regionBusy (s.region n) || Extent.meetsAny { first := base, count := size } s.busyExtents, .busyRegion),
     (s.overlapsOther n { first := base, count := size }, .overlap)]

def regionSetEffect (n base size : Nat) (s : State) : State :=
  s.setRegion n { valid := true, base := base, size := size, holder := none, lockDown := false }

/-- REGION_SET (R28). -/
def execRegionSet (p : Port) (n base size : Nat) (s : State) : Result :=
  .next (s.command p false (.regionSet p n base size)
    (judged (regionSetRefusal n base size) (regionSetEffect n base size) (fun _ => [])))

def regionClearRefusal (n : Nat) (s : State) : Option Reply :=
  firstRefusal
    [(15 < n, .badValue), (!(s.region n).valid, .noRegion), ((s.region n).holder.isSome, .locked),
     (s.regionInUse (s.region n), .inUse), (s.regionBusy (s.region n), .busyRegion)]

def regionClearEffect (n : Nat) (s : State) : State := s.setRegion n { s.region n with valid := false }

/-- REGION_CLEAR (R29). -/
def execRegionClear (p : Port) (n : Nat) (s : State) : Result :=
  .next (s.command p false (.regionClear p n) (judged (regionClearRefusal n) (regionClearEffect n) (fun _ => [])))

/-- A port, or none, numbered in the order the rules list them: none, port M, port D (section 10.8). -/
def holderCode : Option Port → Nat
  | none => 0
  | some .m => 1
  | some .d => 2

def regionRefusal (n : Nat) (_ : State) : Option Reply := firstRefusal [(15 < n, .badValue)]

/-- REGION_GET's data (R30). -/
def regionGetData (n : Nat) (s : State) : List Byte :=
  let r := s.region n
  fieldFlag r.valid ++ field3 r.base ++ field3 r.size ++ field1 (holderCode r.holder) ++ fieldFlag r.lockDown ++
  fieldFlag (s.regionInUse r) ++ fieldFlag (s.regionBusy r)

/-- REGION_GET (R30). -/
def execRegionGet (p : Port) (n : Nat) (s : State) : Result :=
  .next (s.command p false (.regionGet p n) (judged (regionRefusal n) id (regionGetData n)))

/-- The region is locked by the other port. -/
def Region.heldByOther (r : Region) (p : Port) : Bool := r.holder == some (otherPort p)

def lockRefusal (p : Port) (n : Nat) (s : State) : Option Reply :=
  firstRefusal
    [(15 < n, .badValue), (!(s.region n).valid, .noRegion), ((s.region n).lockDown, .lockedDown),
     ((s.region n).heldByOther p, .locked)]

def lockEffect (p : Port) (n : Nat) (s : State) : State := s.setRegion n { s.region n with holder := some p }

/-- LOCK (R32). -/
def execLock (p : Port) (n : Nat) (s : State) : Result :=
  .next (s.command p false (.lock p n) (judged (lockRefusal p n) (lockEffect p n) (fun _ => [])))

def unlockRefusal (p : Port) (n : Nat) (s : State) : Option Reply :=
  firstRefusal
    [(15 < n, .badValue), (!(s.region n).valid, .noRegion), ((s.region n).lockDown, .lockedDown),
     ((s.region n).heldByOther p, .notHolder)]

def unlockEffect (n : Nat) (s : State) : State := s.setRegion n { s.region n with holder := none }

/-- UNLOCK (R33). -/
def execUnlock (p : Port) (n : Nat) (s : State) : Result :=
  .next (s.command p false (.unlock p n) (judged (unlockRefusal p n) (unlockEffect n) (fun _ => [])))

def lockDownRefusal (n : Nat) (s : State) : Option Reply :=
  firstRefusal
    [(15 < n, .badValue), (!(s.region n).valid, .noRegion), ((s.region n).holder.isNone, .state)]

def lockDownEffect (n : Nat) (s : State) : State := s.setRegion n { s.region n with lockDown := true }

/-- LOCK_DOWN (R34). -/
def execLockDown (p : Port) (n : Nat) (s : State) : Result :=
  .next (s.command p true (.lockDown p n) (judged (lockDownRefusal n) (lockDownEffect n) (fun _ => [])))

end Sys2Proof.Machine
end

