-- ==== Sys2Proof/Machine/Ports.lean ====
section
/-! DEFINITION. Ports M and D (10): the transaction events TRANSACTION_BEGIN, TRANSACTION_END, REPLY_READ and
UNKNOWN_COMMAND, and the commands STATUS, EVENTS_READ, EVENTS_CLEAR, EVENTS_ENABLE. -/

namespace Sys2Proof.Machine

/-! ### Transactions (R156, R157, R158) -/

/-- R156: the chip select falls, and the port-state byte as it stands is shifted out first. -/
def State.selectFalls (p : Port) (s : State) : State :=
  s.setPort p { s.port p with
    transaction := some
      { received := [], bits := 0, taken := false, reading := none, shifted := [s.portStateByte p] }
    deaf := false }

/-- TRANSACTION_BEGIN (R156). A chip select that is low with a transaction in progress cannot fall. One that falls while
the reset input is held begins no transaction, and its bytes are not read (R163, section 10.7; log entry 8). -/
def execTransactionBegin (p : Port) (s : State) : Result :=
  .next (if s.resetHeld then s.setPort p { s.port p with deaf := true }
    else if (s.port p).transaction.isNone then s.selectFalls p else s)

/-- R158: the bytes that a reply read shifts out after the port-state byte. -/
def Reply.bytes (r : Reply) : List Byte := field1 r.status.code ++ field2 r.data.length ++ r.data

/-- R158: the transaction of a reply read, whose code byte has arrived. With the slot READY it shifts out the reply and is
complete with the reply's last byte; otherwise FFH alone follows the port-state byte (Transaction.out). -/
def replyTransaction (slot : Slot) (shifted : List Byte) : Transaction :=
  match slot with
  | .ready r =>
    { received := [0x00#8], bits := 8, taken := false, reading := some (1 + r.bytes.length),
      shifted := shifted ++ r.bytes }
  | _ => { received := [0x00#8], bits := 8, taken := true, reading := none, shifted := shifted }

/-- R158: a reply read; its port-state byte has been shifted out whole, so that DISCARD is cleared (R157). The slot that
decides what is shifted out is the slot as the code byte arrives, where R158 does not say whether it is that or the slot as
the chip select falls: the model's choice (log entry 40). -/
def State.readReply (p : Port) (s : State) : State :=
  let shifted := match (s.port p).transaction with
    | some t => t.shifted
    | none => [s.portStateByte p]
  s.setPort p { s.port p with
    discard := false, transaction := some (replyTransaction (s.port p).slot shifted) }

/-- REPLY_READ (R158). -/
def execReplyRead (p : Port) (s : State) : Result :=
  .next (if s.listens p then s.readReply p else s)

/-- R156, R158: the whole bytes that a transaction of so many bits has shifted out: its own, and FFH after them. -/
def Transaction.out (bits : Nat) (t : Transaction) : List Byte :=
  (List.range (bits / 8)).map fun k => t.shifted.getD k 0xFF#8

/-- R157, R158: the chip select rises after `bits` bits. A reply read whose last data byte has been shifted out whole
empties the slot; a transaction whose command was not taken is discarded. -/
def PortState.deselect (bits : Nat) (port : PortState) : PortState :=
  match port.transaction with
  | none => { port with deaf := false }
  | some t =>
    let port := { port with transaction := none, deaf := false, shiftedOut := t.out (max bits t.bits) }
    match t.reading with
    | some n => { port with slot := if 8 * n ≤ bits then .empty else port.slot }
    | none => { port with discard := port.discard || !t.taken }

/-- TRANSACTION_END (R157, R158). The chip select can rise while the reset input is held (log entry 8). -/
def execTransactionEnd (p : Port) (bits : Nat) (s : State) : Result :=
  .next (s.setPort p ((s.port p).deselect bits))

/-- UNKNOWN_COMMAND (R156): an unknown code is taken at its code byte and is judged by no other test (log entry 18). -/
def execUnknownCommand (p : Port) (code : Byte) (s : State) : Result :=
  .next (s.take p (commandFrame (.unknownCommand p code)) none fun s => (s, .ready (refuse .unknownCommand)))

/-! ### STATUS (R160) -/

def SeqState.code : SeqState → Nat
  | .halted => 0
  | .placing => 1
  | .running => 2
  | .ended => 3
  | .faulted => 4

/-- The motion state's code in STATUS (section 10.8). -/
def Motion.code : Motion → Nat
  | .still => 0
  | .forward => 1
  | .reverse => 2

def FaultKind.code : FaultKind → Nat
  | .driveSilent => 1
  | .driveTimeout => 2
  | .mismatch => 3
  | .driveFault => 4
  | .queueDry => 5
  | .backlogFull => 6
  | .slip => 7
  | .disturbed => 8

/-- An event set as a field of two bytes. -/
def setField (x : EventSet) : List Byte := field2 x.toNat

/-- An angle field, FFFFH when invalid (section 10.8). -/
def angleField (a : Option Nat) : List Byte := field2 (a.getD 0xFFFF)

/-- Bytes 9 to 17 of STATUS. The four bytes of an absent fault course number are a free value (log entry 25). -/
def faultBytes (f : Option FaultRecord) : List Byte :=
  field1 ((f.map fun f => f.kind.code).getD 0) ++ field1 ((f.bind FaultRecord.bar).getD 0xFF) ++
  (match f.bind FaultRecord.course with
    | some n => field4 n
    | none => field4 Config.absentFaultCourse.toNat) ++
  field1 (packFlags
    [(f.bind FaultRecord.course).isSome, (f.bind FaultRecord.angle).isSome, (f.map FaultRecord.more).getD false]) ++
  angleField (f.bind FaultRecord.angle)

/-- The engine's state in STATUS, the start-up fill shown as its own (section 10.8). -/
def Engine.statusCode (e : Engine) : Nat :=
  if e.filling then 3
  else match e.state with
    | .idle => 0
    | .active => 1
    | .suspended => 2

/-- Byte 1 of STATUS. -/
def State.statusFlags (s : State) : Nat :=
  packFlags [s.filling, s.tracker.angleValid, s.stopRequested, s.builder.ended, s.tracker.source == .simulated,
    s.tracker.simGate] + 64 * s.tracker.motion.code

/-- The 34 bytes of STATUS's reply (R160, section 10.8). -/
def statusData (p : Port) (s : State) : List Byte :=
  field1 s.run.state.code ++ field1 s.statusFlags ++ angleField s.angle ++ setField s.tracker.speedField ++
  field2 s.governingCeiling ++ field1 s.run.causes.byte ++ faultBytes s.run.fault ++ field1 s.queue.backlog ++
  field1 s.queue.overrun ++ field1 s.builder.position.entry ++ field2 s.builder.position.iteration ++
  field2 s.builder.position.course ++ field4 (s.headCourse.getD 0) ++ field1 s.queue.records.length ++
  field1 s.queue.history.length ++ field1 s.engine.statusCode ++ setField (s.port p).events

/-- STATUS (R160), taken during the start-up fill too (R159). -/
def execStatus (p : Port) (s : State) : Result :=
  .next (s.take p (commandFrame (.status p)) none (judged (fun _ => none) id (statusData p)))

/-! ### Event flags (R162) -/

/-- EVENTS_READ's data: the calling port's flags and mask (R162). -/
def eventsReadData (p : Port) (s : State) : List Byte := setField (s.port p).events ++ setField (s.port p).mask

/-- EVENTS_READ (R162). -/
def execEventsRead (p : Port) (s : State) : Result :=
  .next (s.command p false (.eventsRead p) (judged (fun _ => none) id (eventsReadData p)))

def eventsClearEffect (p : Port) (mask : EventSet) (s : State) : State :=
  s.setPort p { s.port p with events := (s.port p).events &&& ~~~mask }

/-- EVENTS_CLEAR (R162). -/
def execEventsClear (p : Port) (mask : EventSet) (s : State) : Result :=
  .next (s.command p false (.eventsClear p mask) (judged (fun _ => none) (eventsClearEffect p mask) (fun _ => [])))

def eventsEnableEffect (p : Port) (mask : EventSet) (s : State) : State :=
  s.setPort p { s.port p with mask := mask }

/-- EVENTS_ENABLE (R162). -/
def execEventsEnable (p : Port) (mask : EventSet) (s : State) : Result :=
  .next (s.command p false (.eventsEnable p mask) (judged (fun _ => none) (eventsEnableEffect p mask) (fun _ => [])))

end Sys2Proof.Machine
end

