-- ==== Sys2Proof/Machine/Power.lean ====
section
/-! DEFINITION. Power and the reset input (R38, R145): POWER_UP, RESET_INPUT, RESET_RELEASE. -/

namespace Sys2Proof.Machine

/-- POWER_UP (R38): every block takes its power-up values and the start-up fill begins. The queue of waiting commands is
the model's and is kept. -/
def execPowerUp (s : State) : Result := .next { State.reset with pending := s.pending }

/-- R26: a port access in its grant is completed whole. A read has no effect but its reply, which is lost. -/
def State.completeAccess (s : State) : State :=
  match s.arbiter.grant with
  | some (.port p) =>
    match s.arbiter.access p with
    | some (.write a cells) => if a + cells.length ≤ memorySize then (s.writeInGrant p a cells).1 else s
    | _ => s
  | _ => s

/-- R26: waiting requests are dropped, a builder fetch ends, and a chunk stays in its grant; the last port granted is
port D. -/
def Arbiter.onReset (a : Arbiter) : Arbiter :=
  { grant := if a.grant = some .engine then some .engine else none
    fetchWaiting := false
    accessM := none
    accessD := none
    chunkWaiting := false
    lastPort := .d }

/-- R155: the start-up fill goes on; a FILL, COPY or CHECK stops, when its chunk's grant ends or at once; an IDLE engine
keeps its record. -/
def Engine.onReset (chunkInGrant : Bool) (e : Engine) : Engine :=
  if e.state = .idle || e.filling then e
  else if chunkInGrant then { e with abortRequested := true, resetStop := true }
  else .initial

/-- R128: a bar under the reset input. -/
def Bar.onReset (bar : Bar) : Bar :=
  { bar with known := none, driveCode := 0, handshake := if bar.enabled then .lost else .off }

/-- R163: a port under the reset input. The bytes of a transaction that it abandons are not read. -/
def PortState.onReset (port : PortState) : PortState :=
  { PortState.initial with deaf := port.deaf || port.transaction.isSome }

/-- The reset input (R18, R26, R92, R128, R145, R155, R163), after the access in its grant has been completed. -/
def State.onReset (s : State) : State :=
  { s with
    resetHeld := true
    tracker := Tracker.initial s.constants.maxRpm
    arbiter := s.arbiter.onReset
    builder := Builder.initial
    queue := CourseQueue.initial
    bars := s.bars.map Bar.onReset
    lanes := s.lanes.map fun _ => Lane.initial
    run := RunControl.initial
    engine := s.engine.onReset (s.arbiter.grant == some .engine)
    portM := s.portM.onReset
    portD := s.portD.onReset }

/-- RESET_INPUT (R145). -/
def execResetInput (s : State) : Result := .next s.completeAccess.onReset

/-- RESET_RELEASE (R145, section 10.7): the part leaves its reset values and takes counts, frames and commands again. -/
def execResetRelease (s : State) : Result := .next { s with resetHeld := false }

end Sys2Proof.Machine
end

