-- ==== Sys2Proof/Machine/Run.lean ====
section
/-! DEFINITION. Run control (08): ARM, DISARM, RESUME, RESTART, CLEAR_STOP. -/

namespace Sys2Proof.Machine

/-! ### ARM (R131, R132) -/

/-- R59: the start position is inside the article. -/
def State.insideArticle (s : State) (e r c : Nat) : Bool :=
  1 ≤ s.sequence.length && e < s.sequence.length && r < (s.seqEntry e).repeats &&
  match (s.segment (s.seqEntry e).segment).current with
  | some m => c < m.courses
  | none => true

/-- A segment is EMPTY or its current mapping is unverified (R131). -/
def State.unverified (s : State) (g : Nat) : Bool :=
  match (s.segment g).current with
  | some m => !m.verified
  | none => true

/-- R131's sixth test: the segment of the lowest entry that is EMPTY or unverified. -/
def State.firstUnverified (s : State) : Option Nat := s.sequence.segments.find? s.unverified

/-- The lowest enabled bar that is not homed (R112, R131, R138). -/
def State.firstNotHomed (s : State) : Option Nat :=
  (List.range 48).find? fun b => (s.bar b).enabled && !(s.bar b).homed

def State.anyEnabled (s : State) : Bool := (List.range 48).any fun b => (s.bar b).enabled

def State.anyOutstanding (s : State) : Bool := (List.range 48).any fun b => (s.bar b).enabled && (s.bar b).outstanding

/-- The angle is invalid, or is not below O_s (R131). -/
def State.angleRefusesArm (s : State) : Bool :=
  match s.angle with
  | some a => s.constants.overlapStart ≤ a
  | none => true

/-- R131's tests after STARTING and RIGHTS. -/
def armRefusal (e r c : Nat) (s : State) : Option Reply :=
  firstReply
    [firstRefusal
      [(s.run.state != .halted, .state), (s.tracker.motion != .still, .moving), (s.angleRefusesArm, .angle),
       (!s.insideArticle e r c, .badValue)],
     naming .unverified s.firstUnverified,
     firstRefusal [(!s.anyEnabled, .badValue)],
     naming .notHomed s.firstNotHomed,
     firstRefusal [(s.anyOutstanding, .busy), (s.articleExtents.any fun x => x.meetsAny s.busyExtents, .busyRegion)]]

/-- R132, R133. -/
def armEffect (e r c : Nat) (s : State) : State :=
  (State.beginPlacement
    { s with builder := { s.builder with
        position := { entry := e, iteration := r, course := c }, ended := false } }).tryPlacement

/-- ARM (R131, R132). -/
def execArm (p : Port) (e r c : Nat) (s : State) : Result :=
  .next (s.command p true (.arm p e r c) (judged (armRefusal e r c) (armEffect e r c) (fun _ => [])))

/-! ### RESUME (R138) -/

def resumeRefusal (s : State) : Option Reply :=
  firstReply
    [firstRefusal
      [(s.run.state != .faulted, .state), (s.tracker.motion != .still, .moving), (s.angle.isNone, .angle),
       (s.pastEnd, .state)],
     naming .notHomed s.firstNotHomed]

/-- R138: the fault record is emptied and a placement begins from the present angle. -/
def resumeEffect (s : State) : State :=
  (State.beginPlacement { s with run := { s.run with fault := none } }).tryPlacement

/-- RESUME (R138). -/
def execResume (p : Port) (s : State) : Result :=
  .next (s.command p true (.resume p) (judged resumeRefusal resumeEffect (fun _ => [])))

/-! ### DISARM, RESTART, CLEAR_STOP (R139, R140, R142) -/

def disarmRefusal (s : State) : Option Reply :=
  firstRefusal
    [(s.run.state == .halted || s.run.state == .placing, .state), (s.tracker.motion != .still, .moving),
     (s.anyOutstanding, .busy)]

/-- DISARM (R139). -/
def execDisarm (p : Port) (s : State) : Result :=
  .next (s.command p true (.disarm p) (judged disarmRefusal State.clearRun (fun _ => [])))

def restartEffect (s : State) : State := s.purge.clearRun

/-- RESTART (R140). -/
def execRestart (p : Port) (s : State) : Result :=
  .next (s.command p true (.restart p) (judged (fun _ => none) restartEffect (fun _ => [])))

def clearStopEffect (s : State) : State := { s with run := { s.run with causes := .empty } }

/-- CLEAR_STOP (R142). -/
def execClearStop (p : Port) (s : State) : Result :=
  .next (s.command p true (.clearStop p) (judged (fun _ => none) clearStopEffect (fun _ => [])))

end Sys2Proof.Machine
end

