-- ==== Sys2Proof/Machine/Sequence.lean ====
section
/-! DEFINITION. The sequence table (04): SEQ_WRITE, SEQ_FORM, SEQ_REPEAT, SEQ_GET. -/

namespace Sys2Proof.Machine

def State.setSeqEntry (n : Nat) (e : SeqEntry) (s : State) : State :=
  { s with sequence := { s.sequence with entries := s.sequence.entries.set n e } }

def seqWriteRefusal (e g n flags : Nat) (s : State) : Option Reply :=
  firstRefusal
    [(s.run.state != .halted, .state), (63 < e || 63 < g || n == 0 || 4095 < n || 3 < flags, .badValue)]

/-- R56: bit 0 of the flags is MARK_EACH, bit 1 MARK_END (section 10.8). -/
def seqWriteEffect (e g n flags : Nat) (s : State) : State :=
  s.setSeqEntry e { segment := g, repeats := n, markEach := flags.testBit 0, markEnd := flags.testBit 1 }

/-- SEQ_WRITE (R56). -/
def execSeqWrite (p : Port) (e g n flags : Nat) (s : State) : Result :=
  .next (s.command p false (.seqWrite p e g n flags)
    (judged (seqWriteRefusal e g n flags) (seqWriteEffect e g n flags) (fun _ => [])))

def seqFormRefusal (length mode : Nat) (s : State) : Option Reply :=
  firstRefusal [(s.run.state != .halted, .state), (64 < length || 1 < mode, .badValue)]

/-- R57: the end mode argument is 0 for STOP, 1 for WRAP (section 10.8). -/
def seqFormEffect (length mode : Nat) (s : State) : State :=
  { s with sequence := { s.sequence with length := length, endMode := if mode = 0 then .stop else .wrap } }

/-- SEQ_FORM (R57). -/
def execSeqForm (p : Port) (length mode : Nat) (s : State) : Result :=
  .next (s.command p false (.seqForm p length mode)
    (judged (seqFormRefusal length mode) (seqFormEffect length mode) (fun _ => [])))

/-- The entry the builder stands in, taken as the length while END is set (R66). -/
def State.builderEntry (s : State) : Nat := if s.builder.ended then s.sequence.length else s.builder.position.entry

/-- The lowest repeat count that SEQ_REPEAT of an entry would be accepted with, 0 for none (R58, R66). -/
def State.lowestRepeat (e : Nat) (s : State) : Nat :=
  if s.run.state = .halted then 1
  else if s.sequence.length ≤ e then 0
  else if e < s.builderEntry then 0
  else if e = s.builderEntry then s.builder.position.iteration + 1
  else 1

/-- R65, R66. -/
def seqRepeatRefusal (e n : Nat) (s : State) : Option Reply :=
  firstRefusal
    [(63 < e || n == 0 || 4095 < n, .badValue),
     (s.run.state != .halted && s.sequence.length ≤ e, .badValue),
     (s.run.state != .halted &&
       (e < s.builderEntry || (e == s.builderEntry && n ≤ s.builder.position.iteration)), .passed)]

def seqRepeatEffect (e n : Nat) (s : State) : State := s.setSeqEntry e { s.seqEntry e with repeats := n }

/-- SEQ_REPEAT (R65, R66). -/
def execSeqRepeat (p : Port) (e n : Nat) (s : State) : Result :=
  .next (s.command p false (.seqRepeat p e n)
    (judged (seqRepeatRefusal e n) (seqRepeatEffect e n) (fun _ => [])))

def seqGetRefusal (e : Nat) (_ : State) : Option Reply := firstRefusal [(63 < e, .badValue)]

/-- The end mode numbered in the order its rules list it, WRAP, STOP (section 10.8; log entry 20). -/
def EndMode.listed : EndMode → Nat
  | .wrap => 0
  | .stop => 1

/-- SEQ_GET's data (R58). -/
def seqGetData (e : Nat) (s : State) : List Byte :=
  let x := s.seqEntry e
  field1 x.segment ++ field2 x.repeats ++ fieldFlag x.markEach ++ fieldFlag x.markEnd ++ field1 s.sequence.length ++
  field1 s.sequence.endMode.listed ++ fieldFlag (e < s.sequence.length) ++ field2 (s.lowestRepeat e)

/-- SEQ_GET (R58). -/
def execSeqGet (p : Port) (e : Nat) (s : State) : Result :=
  .next (s.command p false (.seqGet p e) (judged (seqGetRefusal e) id (seqGetData e)))

end Sys2Proof.Machine
end

