-- ==== Sys2Proof/Machine/Shaft.lean ====
section
/-! DEFINITION. The shaft tracker (01): the counts, the index, the still timer, the simulated shaft, the snapshots and the
machine constants. -/

namespace Sys2Proof.Machine

/-! ### Counts (R1, R4, R5, R7) -/

inductive Direction where
  | forward
  | reverse
  deriving DecidableEq, Repr

/-- R1: the counter after a count. -/
def countFrom (counts counter : Nat) : Direction → Nat
  | .forward => if counter + 1 < counts then counter + 1 else 0
  | .reverse => if counter = 0 then counts - 1 else counter - 1

/-- R4: the count moves the counter across the wrap. -/
def wraps (counts counter : Nat) : Direction → Bool
  | .forward => counts ≤ counter + 1
  | .reverse => counter == 0

/-- R1, R8, R9: what a count at time `t` does to the tracker. -/
def Tracker.count (counts t : Nat) (dir : Direction) (k : Tracker) : Tracker :=
  match dir with
  | .forward =>
    { k with counter := countFrom counts k.counter .forward, motion := .forward, stillTimer := some t }
  | .reverse =>
    { k with
      counter := countFrom counts k.counter .reverse, motion := .reverse, stillTimer := some t, startTime := none,
      period := none }

/-- R135: a count taken while PLACING is the hard fault DISTURBED. -/
def State.reportCount (s : State) : State :=
  if s.run.state = .placing then s.hardFault .disturbed none s.headCourse else s

/-- The angle that a count starts from or reaches, 4096 standing for 0 at a wrap as R5 says. -/
def wrapAngle (counts counter : Nat) (wrapped : Bool) : Nat := if wrapped then 4096 else angleOf counter counts

/-- R7: a forward count's deadline crossings. -/
def State.deadlinesFrom (a a' : Nat) (s : State) : State :=
  let s := if a < s.constants.overlapEnd ∧ s.constants.overlapEnd ≤ a' then s.deadlineCrossing .overlapEnd else s
  if a < s.constants.underlapEnd ∧ s.constants.underlapEnd ≤ a' then s.deadlineCrossing .underlapEnd else s

/-- R5: group `g`'s zone crossings of a forward count. -/
def State.zonesForward (a a' : Nat) (s : State) (g : Nat) : State :=
  let b1 := groupStart1 s.constants g
  let b2 := groupStart2 s.constants g
  let s := if a < b1 ∧ b1 ≤ a' then s.zoneCrossing g .enterZ1 else s
  if a < b2 ∧ b2 ≤ a' then s.zoneCrossing g .enterZ2 else s

/-- R5: group `g`'s zone crossings of a reverse count. -/
def State.zonesReverse (a a' : Nat) (s : State) (g : Nat) : State :=
  let b1 := groupStart1 s.constants g
  let b2 := groupStart2 s.constants g
  let s := if a' < b2 ∧ b2 ≤ a then s.zoneCrossing g .backToZ1 else s
  if a' < b1 ∧ b1 ≤ a then s.zoneCrossing g .backToZ0 else s

/-- R7: the reports of a forward count, in their order. -/
def State.crossForward (counter t : Nat) (s : State) : State :=
  let wrapped := wraps s.constants.counts counter .forward
  let a := angleOf counter s.constants.counts
  let a' := wrapAngle s.constants.counts s.tracker.counter wrapped
  let s := (List.range 4).foldl (State.zonesForward a a') (s.deadlinesFrom a a')
  if wrapped then s.forwardBoundary t else s

/-- R7: the reports of a reverse count, in their order. -/
def State.crossReverse (counter : Nat) (s : State) : State :=
  let wrapped := wraps s.constants.counts counter .reverse
  let a := wrapAngle s.constants.counts counter wrapped
  let a' := angleOf s.tracker.counter s.constants.counts
  let s := if wrapped then s.backwardBoundary else s
  (List.range 4).foldl (State.zonesReverse a a') s

/-- A count is taken at time `t` (R1, R2, R7): the tracker counts, run control is told, and with the angle valid the
crossings and the boundary follow. -/
def State.takeCount (dir : Direction) (t : Nat) (s : State) : State :=
  let s' := State.reportCount { s with tracker := s.tracker.count s.constants.counts t dir }
  if s.tracker.angleValid then
    match dir with
    | .forward => s'.crossForward s.tracker.counter t
    | .reverse => s'.crossReverse s.tracker.counter
  else s'

/-- ENCODER_COUNT (R1). -/
def execEncoderCount (edge : Edge) (time : Nat) (s : State) : Result :=
  .next ((s.elapse time).unlessHeld fun s =>
    if s.tracker.source = .encoder then
      match edge with
      | .forward => s.takeCount .forward s.now
      | .reverse => s.takeCount .reverse s.now
      | .together => s
    else s)

/-! ### The index (R3) -/

/-- The distance of the counter from 0 around the revolution (R3). -/
def indexDistance (counts counter : Nat) : Nat := min counter (counts - counter)

/-- R3: SLIP. -/
def State.slip (s : State) : State :=
  let s' := State.raise .slip
    { s with tracker := { s.tracker with counter := 0, startTime := none, period := none } }
  if s'.run.state = .running then s'.hardFault .slip none s'.headCourse else s'

/-- An index is taken (R3). -/
def State.takeIndex (s : State) : State :=
  if s.tracker.angleValid then
    if indexDistance s.constants.counts s.tracker.counter ≤ 1 then s else s.slip
  else { s with tracker := { s.tracker with counter := 0, angleValid := true, startTime := none } }

/-- ENCODER_INDEX (R3). -/
def execEncoderIndex (s : State) : Result :=
  .next (s.unlessHeld fun s => if s.tracker.source = .encoder then s.takeIndex else s)

/-! ### The simulated shaft (R12) -/

/-- The schedule starts anew, its counts numbered from 1 (R12), when the simulated shaft turns. -/
def State.restartSchedule (s : State) : State :=
  { s with tracker := { s.tracker with
      schedule := if s.tracker.source = .simulated && s.tracker.simGate then some { start := s.now, given := 0 } else none } }

/-- The time of the schedule's next count (R12). -/
def State.simulatedDue (s : State) : Option Nat :=
  if s.tracker.source = .simulated && s.tracker.simGate then
    s.tracker.schedule.map fun sch => sch.due s.tracker.simRate s.constants.counts
  else none

/-- One more count of the schedule has been given. -/
def Tracker.giveCount (k : Tracker) : Tracker :=
  { k with schedule := k.schedule.map fun sch => { sch with given := sch.given + 1 } }

/-- R12: a simulated count due at `t`, followed by the simulated index when it wraps the counter. -/
def State.simulate (t : Nat) (s : State) : State :=
  let s' := State.takeCount .forward t { s with tracker := s.tracker.giveCount }
  if wraps s.constants.counts s.tracker.counter .forward then s'.takeIndex else s'

/-- SIMULATED_COUNT (R12): the schedule's next count, once its time has come. -/
def execSimulatedCount (time : Nat) (s : State) : Result :=
  .next ((s.elapse time).unlessHeld fun s =>
    match s.simulatedDue with
    | some t => if t ≤ s.now then s.simulate t else s
    | none => s)

/-! ### The still timer (R8) -/

/-- 250 ms (R8). -/
def stillLimit : Nat := 250000

/-- R8: the motion state becomes STILL. -/
def Tracker.becomeStill (k : Tracker) : Tracker :=
  { k with motion := .still, stillTimer := none, startTime := none, period := none }

/-- STILL_TIMER_EXPIRY (R8). -/
def execStillTimerExpiry (time : Nat) (s : State) : Result :=
  .next ((s.elapse time).unlessHeld fun s =>
    match s.tracker.stillTimer with
    | some t => if t + stillLimit ≤ s.now then { s with tracker := s.tracker.becomeStill } else s
    | none => s)

/-! ### SHAFT_LATCH and SHAFT_READ (R14, R15) -/

/-- R14: the shaft as it stands. -/
def State.shaft (s : State) : Snapshot :=
  { counter := s.tracker.counter, angle := s.angle, motion := s.tracker.motion, period := s.tracker.period,
    headCourse := s.headCourse }

def Tracker.setSnapshot (p : Port) (x : Snapshot) (k : Tracker) : Tracker :=
  match p with
  | .m => { k with snapshotM := some x }
  | .d => { k with snapshotD := some x }

def Tracker.snapshot (k : Tracker) : Port → Option Snapshot
  | .m => k.snapshotM
  | .d => k.snapshotD

def shaftLatchEffect (p : Port) (s : State) : State := { s with tracker := s.tracker.setSnapshot p s.shaft }

/-- SHAFT_LATCH (R14). -/
def execShaftLatch (p : Port) (s : State) : Result :=
  .next (s.command p false (.shaftLatch p) (judged (fun _ => none) (shaftLatchEffect p) (fun _ => [])))

/-- The motion state numbered in the order R8 lists it, FORWARD, REVERSE, STILL (section 10.8; log entry 20). -/
def Motion.listed : Motion → Nat
  | .forward => 0
  | .reverse => 1
  | .still => 2

/-- SHAFT_READ's data (R15, section 10.8). -/
def Snapshot.bytes (x : Snapshot) : List Byte :=
  field2 x.counter ++ field2 (x.angle.getD 0xFFFF) ++ field1 x.motion.listed ++ field4 (x.period.getD 0xFFFFFFFF) ++
  field4 (x.headCourse.getD 0) ++ fieldFlag x.headCourse.isSome

def shaftReadRefusal (p : Port) (s : State) : Option Reply :=
  firstRefusal [((s.tracker.snapshot p).isNone, .notLatched)]

def shaftReadData (p : Port) (s : State) : List Byte :=
  match s.tracker.snapshot p with
  | some x => x.bytes
  | none => []

/-- SHAFT_READ (R15). -/
def execShaftRead (p : Port) (s : State) : Result :=
  .next (s.command p false (.shaftRead p) (judged (shaftReadRefusal p) id (shaftReadData p)))

/-! ### Machine constants and source (R11, R13, R16, R17) -/

/-- GET_CONSTANTS (R16), in the layout of SET_CONSTANTS's arguments (log entry 21). -/
def execGetConstants (p : Port) (s : State) : Result :=
  .next (s.command p false (.getConstants p) (judged (fun _ => none) id fun s => constantsFields s.constants))

def setConstantsRefusal (k : MachineConstants) (s : State) : Option Reply :=
  firstRefusal [(s.run.state != .halted, .state), (!validConstants k, .badValue)]

/-- R17: the counter is set to 0 and the angle made invalid, with the period measurement cleared. -/
def Tracker.forgetAngle (k : Tracker) : Tracker :=
  { k with counter := 0, angleValid := false, startTime := none, period := none }

/-- R17: the whole set is replaced, with the changes that go with a new C and with a max rpm below the simulated rate. -/
def setConstantsEffect (k : MachineConstants) (s : State) : State :=
  let s1 := { s with constants := k }
  let s2 := if k.counts = s.constants.counts then s1
    else State.restartSchedule { s1 with tracker := s1.tracker.forgetAngle }
  if k.maxRpm < s.tracker.simRate then State.restartSchedule { s2 with tracker := { s2.tracker with simRate := k.maxRpm } }
  else s2

/-- SET_CONSTANTS (R17). -/
def execSetConstants (p : Port) (k : MachineConstants) (time : Nat) (s : State) : Result :=
  .next ((s.elapse time).command p true (.setConstants p k time)
    (judged (setConstantsRefusal k) (setConstantsEffect k) (fun _ => [])))

/-- The source that SET_SOURCE's argument names (section 10.8). -/
def sourceNamed : Nat → Option Source
  | 0 => some .encoder
  | 1 => some .simulated
  | _ => none

def setSourceRefusal (source : Nat) (s : State) : Option Reply :=
  firstRefusal [(s.run.state != .halted, .state), ((sourceNamed source).isNone, .badValue)]

/-- R128: an enabled bar that is IDLE goes LOST with its position UNKNOWN. -/
def Bar.loseIdle (bar : Bar) : Bar := if bar.enabled && bar.handshake == .idle then bar.lose none else bar

/-- R128: the lanes' part of a change of source. -/
def State.loseEnabled (s : State) : State :=
  State.raiseIf (s.bars.any fun bar => bar.enabled && bar.handshake == .idle) .barLost
    { s.purge with bars := s.purge.bars.map Bar.loseIdle }

/-- R11: the tracker's part of a change of source. -/
def State.selectSource (src : Source) (s : State) : State :=
  State.restartSchedule { s with tracker := { s.tracker.forgetAngle with source := src } }

def setSourceEffect (source : Nat) (s : State) : State :=
  match sourceNamed source with
  | none => s
  | some src => if src = s.tracker.source then s else (s.selectSource src).loseEnabled

/-- SET_SOURCE (R11, R128). -/
def execSetSource (p : Port) (source time : Nat) (s : State) : Result :=
  .next ((s.elapse time).command p true (.setSource p source time)
    (judged (setSourceRefusal source) (setSourceEffect source) (fun _ => [])))

def simSpeedRefusal (rate : Nat) (s : State) : Option Reply :=
  firstRefusal [(rate < 1 || s.constants.maxRpm < rate, .badValue)]

def simSpeedEffect (rate : Nat) (s : State) : State :=
  State.restartSchedule { s with tracker := { s.tracker with simRate := rate } }

/-- SIM_SPEED (R13). -/
def execSimSpeed (p : Port) (rate time : Nat) (s : State) : Result :=
  .next ((s.elapse time).command p true (.simSpeed p rate time)
    (judged (simSpeedRefusal rate) (simSpeedEffect rate) (fun _ => [])))

def simGateRefusal (gate : Nat) (_ : State) : Option Reply := firstRefusal [(1 < gate, .badValue)]

/-- R13: a gate already in the named position changes nothing. -/
def simGateEffect (gate : Nat) (s : State) : State :=
  if s.tracker.simGate = (gate == 1) then s
  else State.restartSchedule { s with tracker := { s.tracker with simGate := gate == 1 } }

/-- SIM_GATE (R13). -/
def execSimGate (p : Port) (gate time : Nat) (s : State) : Result :=
  .next ((s.elapse time).command p true (.simGate p gate time)
    (judged (simGateRefusal gate) (simGateEffect gate) (fun _ => [])))

end Sys2Proof.Machine
end

