-- ==== Sys2Proof/Machine/Dispatch.lean ====
section
/-! DEFINITION. The meaning of every command and event, one arm per row of spec/opcode_table.json. -/

namespace Sys2Proof.Machine

def exec (i : Instr) (s : State) : Host.Outcome State Fault Refusal :=
  match i with
  | .powerUp => Sys2Proof.Machine.execPowerUp s
  | .resetInput => Sys2Proof.Machine.execResetInput s
  | .encoderCount edge time => Sys2Proof.Machine.execEncoderCount edge time s
  | .encoderIndex => Sys2Proof.Machine.execEncoderIndex s
  | .simulatedCount time => Sys2Proof.Machine.execSimulatedCount time s
  | .stillTimerExpiry time => Sys2Proof.Machine.execStillTimerExpiry time s
  | .buildBegin => Sys2Proof.Machine.execBuildBegin s
  | .builderFetch => Sys2Proof.Machine.execBuilderFetch s
  | .append => Sys2Proof.Machine.execAppend s
  | .orderFrameSent lane time => Sys2Proof.Machine.execOrderFrameSent lane time s
  | .taken lane address time => Sys2Proof.Machine.execTaken lane address time s
  | .inPosition lane address position => Sys2Proof.Machine.execInPosition lane address position s
  | .fault lane address code => Sys2Proof.Machine.execFault lane address code s
  | .replyFrameIgnored lane frame time => Sys2Proof.Machine.execReplyFrameIgnored lane frame time s
  | .takeLimitExpiry bar time => Sys2Proof.Machine.execTakeLimitExpiry bar time s
  | .moveLimitExpiry bar time => Sys2Proof.Machine.execMoveLimitExpiry bar time s
  | .chunk => Sys2Proof.Machine.execChunk s
  | .readCellsGrant port => Sys2Proof.Machine.execReadCellsGrant port s
  | .writeCellsGrant port => Sys2Proof.Machine.execWriteCellsGrant port s
  | .transactionBegin port => Sys2Proof.Machine.execTransactionBegin port s
  | .transactionEnd port bits => Sys2Proof.Machine.execTransactionEnd port bits s
  | .replyRead port => Sys2Proof.Machine.execReplyRead port s
  | .unknownCommand port code => Sys2Proof.Machine.execUnknownCommand port code s
  | .status port => Sys2Proof.Machine.execStatus port s
  | .eventsRead port => Sys2Proof.Machine.execEventsRead port s
  | .eventsClear port mask => Sys2Proof.Machine.execEventsClear port mask s
  | .eventsEnable port mask => Sys2Proof.Machine.execEventsEnable port mask s
  | .shaftLatch port => Sys2Proof.Machine.execShaftLatch port s
  | .shaftRead port => Sys2Proof.Machine.execShaftRead port s
  | .getConstants port => Sys2Proof.Machine.execGetConstants port s
  | .setConstants port constants time => Sys2Proof.Machine.execSetConstants port constants time s
  | .setSource port source time => Sys2Proof.Machine.execSetSource port source time s
  | .simSpeed port rate time => Sys2Proof.Machine.execSimSpeed port rate time s
  | .simGate port gate time => Sys2Proof.Machine.execSimGate port gate time s
  | .readCells port address count => Sys2Proof.Machine.execReadCells port address count s
  | .writeCells port address count cells => Sys2Proof.Machine.execWriteCells port address count cells s
  | .regionSet port region base size => Sys2Proof.Machine.execRegionSet port region base size s
  | .regionClear port region => Sys2Proof.Machine.execRegionClear port region s
  | .regionGet port region => Sys2Proof.Machine.execRegionGet port region s
  | .lock port region => Sys2Proof.Machine.execLock port region s
  | .unlock port region => Sys2Proof.Machine.execUnlock port region s
  | .lockDown port region => Sys2Proof.Machine.execLockDown port region s
  | .map port segment base courses bars expected => Sys2Proof.Machine.execMap port segment base courses bars expected s
  | .mapCancel port segment => Sys2Proof.Machine.execMapCancel port segment s
  | .mapClear port segment => Sys2Proof.Machine.execMapClear port segment s
  | .mapGet port segment => Sys2Proof.Machine.execMapGet port segment s
  | .seqWrite port entry segment repeats flags => Sys2Proof.Machine.execSeqWrite port entry segment repeats flags s
  | .seqForm port length mode => Sys2Proof.Machine.execSeqForm port length mode s
  | .seqRepeat port entry repeats => Sys2Proof.Machine.execSeqRepeat port entry repeats s
  | .seqGet port entry => Sys2Proof.Machine.execSeqGet port entry s
  | .setClass port cls base perSpace => Sys2Proof.Machine.execSetClass port cls base perSpace s
  | .setBar port bar enabled lane address cls limit => Sys2Proof.Machine.execSetBar port bar enabled lane address cls limit s
  | .home port bar => Sys2Proof.Machine.execHome port bar s
  | .placeBar port bar position => Sys2Proof.Machine.execPlaceBar port bar position s
  | .getBar port bar => Sys2Proof.Machine.execGetBar port bar s
  | .queueRead port list index => Sys2Proof.Machine.execQueueRead port list index s
  | .arm port entry iteration course => Sys2Proof.Machine.execArm port entry iteration course s
  | .disarm port => Sys2Proof.Machine.execDisarm port s
  | .resume port => Sys2Proof.Machine.execResume port s
  | .restart port => Sys2Proof.Machine.execRestart port s
  | .clearStop port => Sys2Proof.Machine.execClearStop port s
  | .continueRun port => Sys2Proof.Machine.execContinue port s
  | .opFill port region value => Sys2Proof.Machine.execOpFill port region value s
  | .opCopy port source destination count => Sys2Proof.Machine.execOpCopy port source destination count s
  | .opCheck port segment mapping => Sys2Proof.Machine.execOpCheck port segment mapping s
  | .opSuspend port => Sys2Proof.Machine.execOpSuspend port s
  | .opResume port => Sys2Proof.Machine.execOpResume port s
  | .opAbort port => Sys2Proof.Machine.execOpAbort port s
  | .opStatus port => Sys2Proof.Machine.execOpStatus port s
  | .resetRelease => Sys2Proof.Machine.execResetRelease s

end Sys2Proof.Machine
end

