-- ==== Sys2Proof/Safety.lean ====
section
/-! DEFINITION. What a safe run is: the laws that the spec prints in bold, as predicates of a state, and the words in
which a statement says what a command leaves alone. -/

namespace Sys2Proof.Machine

/-! ### The laws -/

/-- R89, with what keeps it: a build in progress has room in the queue (R68, R70). -/
def State.QueueLaw (s : State) : Prop :=
  s.queue.records.length ≤ 16 ∧ s.queue.history.length ≤ 8 ∧
    (s.builder.build.isSome → s.queue.records.length < 16)

/-- The course numbers from the oldest history record to the queue's tail. -/
def State.courseNumbers (s : State) : List Nat :=
  (s.queue.history.reverse ++ s.queue.records).map Record.number

/-- R91: the course numbers rise by exactly one from each record to the next. -/
def State.CourseNumberLaw (s : State) : Prop := s.courseNumbers.IsChain fun a b => b = a + 1

/-- R101: the retreat backlog is greater than 0 only while the history is empty, and never exceeds 255. -/
def State.BacklogLaw (s : State) : Prop :=
  (0 < s.queue.backlog → s.queue.history = []) ∧ s.queue.backlog ≤ 255

/-- R28: no two valid regions share a cell. -/
def State.RegionLaw (s : State) : Prop :=
  ∀ i j, i < 16 → j < 16 → i ≠ j → (s.region i).valid → (s.region j).valid →
    ∀ a, ¬((s.region i).range.holds a ∧ (s.region j).range.holds a)

/-- R27: a lock-down flag stands only on a valid region with a holder. -/
def State.LockLaw (s : State) : Prop :=
  ∀ n, (s.region n).lockDown → (s.region n).valid ∧ (s.region n).holder.isSome

/-- The enabled bars configured on a lane. -/
def State.enabledOn (s : State) (lane : Nat) : List Nat :=
  (List.range 48).filter fun b => (s.bar b).enabled && (s.bar b).lane == lane

/-- R109: among enabled bars no two share a lane and address, and no lane has more than 16. -/
def State.BarLaw (s : State) : Prop :=
  (∀ i j, i < 48 → j < 48 → i ≠ j → (s.bar i).enabled → (s.bar j).enabled →
    ¬((s.bar i).lane = (s.bar j).lane ∧ (s.bar i).address = (s.bar j).address)) ∧
  ∀ g, (s.enabledOn g).length ≤ 16

/-- R116: a lane queue holds at most one order per bar and at most 16 orders. -/
def State.LaneLaw (s : State) : Prop :=
  ∀ g, (((s.lane g).queue.map LaneEntry.bar).Nodup) ∧ (s.lane g).queue.length ≤ 16

/-- What keeps R116: the entries of a lane queue are those of POSTED, enabled bars of that lane; a bar is OFF exactly
while disabled (R107); and while the source is SIMULATED no lane holds an order (R129). -/
def State.LaneEntriesLaw (s : State) : Prop :=
  (∀ g, ∀ e ∈ (s.lane g).queue,
    e.bar < 48 ∧ (s.bar e.bar).lane = g ∧ (s.bar e.bar).enabled ∧ ∃ c, (s.bar e.bar).handshake = .posted c) ∧
  (∀ b, (s.bar b).handshake = .off ↔ (s.bar b).enabled = false) ∧
  (s.tracker.source = .simulated → ∀ g, (s.lane g).queue = [])

/-- R116: a lane with entries waits for its drive's TAKEN or has a frame on its line. -/
abbrev Lane.Transmits (lane : Lane) : Prop := lane.queue ≠ [] → lane.awaiting = true ∨ lane.frame.isSome = true

/-- R116: no lane stands free with entries in its queue. -/
def State.LaneTransmitsLaw (s : State) : Prop := ∀ g, (s.lane g).Transmits

/-- R17, R1, R13: valid constants, the counter within the revolution, and the simulated rate within 1..max rpm. -/
def State.TrackerLaw (s : State) : Prop :=
  validConstants s.constants ∧ s.tracker.counter < s.constants.counts ∧ 1 ≤ s.tracker.simRate ∧
    s.tracker.simRate ≤ s.constants.maxRpm

/-- In HALTED the queue, the history and the builder stand as R92 and R139 leave them. -/
def State.HaltedLaw (s : State) : Prop :=
  s.run.state = .halted → s.queue = CourseQueue.initial ∧ s.builder = Builder.initial

/-- R81, R103: every record's ceiling lies in crawl rpm..max rpm. -/
def State.CeilingLaw (s : State) : Prop :=
  ∀ r ∈ s.queue.records ++ s.queue.history, s.constants.crawlRpm ≤ r.ceiling ∧ r.ceiling ≤ s.constants.maxRpm

/-- The cells that the operation in hand writes: its destination. -/
def Engine.target (e : Engine) : Option Extent :=
  if e.state = .idle then none
  else match e.op with
    | some op =>
      match op.kind with
      | .fill _ _ => some { first := e.base, count := op.total }
      | .copy _ dst => some { first := dst, count := op.total }
      | .check _ _ _ => none
      | .startUp => some { first := 0, count := op.total }
    | none => none

/-- The tables hold the items that section 2.4, R39, R55, R107, R108 and R116 give them (log entry 27), and every bar's lane
is one of the four (R107). -/
def State.TableLaw (s : State) : Prop :=
  (s.regions.length = 16 ∧ s.segments.length = 64 ∧ s.sequence.entries.length = 64 ∧ s.bars.length = 48 ∧
    s.classes.length = 4 ∧ s.lanes.length = 4) ∧
  ∀ n, n < 48 → (s.bar n).lane < 4

/-- What keeps R36: a chunk waits or is in its grant only for an operation in hand; the operation counts no more cells
than its total, its busy extents cover its destination, and its destination meets no live extent. -/
def State.EngineLaw (s : State) : Prop :=
  (s.arbiter.chunkWaiting ∨ s.arbiter.grant = some .engine → s.engine.state ≠ .idle) ∧
  (s.arbiter.grant = some .engine → s.arbiter.chunkWaiting = false) ∧
  (∀ op, s.engine.op = some op → op.progress ≤ op.total) ∧
  ∀ target, s.engine.target = some target →
    (∀ a, target.holds a → ∃ x ∈ s.engine.extents, x.holds a) ∧
    ∀ a, target.holds a → ∀ x ∈ s.liveExtents, ¬x.holds a

/-! ### What is left alone -/

/-- Every cell reads as before. -/
def KeepsCells (s t : State) : Prop := ∀ a, readCell t.memory a = readCell s.memory a

/-- Of the ports, only event flags have changed, and none was cleared. -/
def OnlyRaises (s t : State) : Prop :=
  ∀ p, t.port p = { s.port p with events := (t.port p).events } ∧
    ∀ e : Event, e.isIn (s.port p).events = true → e.isIn (t.port p).events = true

/-- Nothing has changed but run control, the bars, the lanes and raised event flags. -/
def OnlyRunSide (s t : State) : Prop :=
  t = { s with run := t.run, bars := t.bars, lanes := t.lanes, portM := t.portM, portD := t.portD } ∧
    OnlyRaises s t ∧ KeepsCells s t

/-- Nothing has changed but the tracker, the queue, the builder, the arbiter, run control, the bars, the lanes and raised
event flags. -/
def OnlyShaftSide (s t : State) : Prop :=
  t = { s with
    tracker := t.tracker, queue := t.queue, builder := t.builder, arbiter := t.arbiter, run := t.run, bars := t.bars,
    lanes := t.lanes, portM := t.portM, portD := t.portD } ∧
    OnlyRaises s t ∧ KeepsCells s t

/-- An event's flag stands set in both ports. -/
def BothShow (e : Event) (t : State) : Prop := ∀ p, e.isIn (t.port p).events = true

/-- Port `p` takes a whole frame and judges it: it listens and its slot is not PENDING (R156, R157). -/
def State.takes (s : State) (p : Port) : Prop := s.listens p = true ∧ (s.port p).slot ≠ .pending

/-- Port `p` takes a whole frame, and the start-up fill does not run, so that its owning rule judges it (R159). -/
def State.accepts (s : State) (p : Port) : Prop := s.takes p ∧ s.filling = false

/-- `t` is `u` but for port `p`, which has taken a command and answers it: its slot is READY with this reply, its DISCARD
flag is clear, and its event flags and mask are those of `u`. -/
def Answers (p : Port) (status : Status) (data : List Byte) (u t : State) : Prop :=
  t = u.setPort p (t.port p) ∧ (t.port p).slot = .ready { status := status, data := data } ∧
    (t.port p).discard = false ∧ (t.port p).events = (u.port p).events ∧ (t.port p).mask = (u.port p).mask ∧
    KeepsCells u t

/-- The command is refused: port `p` answers the status without data, and nothing else changes. -/
def Refuses (p : Port) (status : Status) (s t : State) : Prop := Answers p status [] s t

/-- The command is accepted and returns no data: what it does to `s` is `u`. -/
def Accepts (p : Port) (u t : State) : Prop := Answers p .ok [] u t

/-- A lane with this queue, its line free before: with the queue empty it is free, otherwise it has begun to transmit the
head entry's order frame (R116). -/
def State.laneWith (s : State) : List LaneEntry → Lane
  | [] => { queue := [], awaiting := false, frame := none }
  | e :: rest =>
    { queue := e :: rest, awaiting := true, frame := some (orderFrame (s.bar e.bar).address e.kind e.target) }

/-- R85: the record finished against its successor `next`, its P_u and final ceiling computed. -/
def Record.finalized (r : Record) (s : State) (next : Record) : Record :=
  { r with
    underlapPeriod := some (s.underlapPeriod r.pairs next.pairs)
    ceiling := (ceilingFor s.constants (max r.overlapPeriod (s.underlapPeriod r.pairs next.pairs))).1
    longShog := r.longShog || (ceilingFor s.constants (max r.overlapPeriod (s.underlapPeriod r.pairs next.pairs))).2
    isOpen := false }

/-- From `s` to `t` a hard fault has been taken (R136, R137): from PLACING, RUNNING or ENDED the sequencer enters FAULTED,
the fault is recorded, FAULT is raised and the lanes are purged (R127); in FAULTED the record's "more" is set; in HALTED
nothing follows (R124). -/
def TakesHardFault (f : FaultRecord) (s t : State) : Prop :=
  match s.run.state with
  | .halted => t.run = s.run
  | .faulted => t.run = { s.run with fault := s.run.fault.map fun x => { x with more := true } }
  | _ => t.run = { s.run with state := .faulted, placement := none, fault := some f } ∧ BothShow .fault t ∧
      (s.stopRequested = false → BothShow .stopRequest t) ∧ (∀ g, (t.lane g).queue = [] ∧ (t.lane g).awaiting = false) ∧
      ∀ b, (t.bar b).outstanding = false

/-- From `s` to `t` an order has been posted to bar `b` and its drive is on the line (R117): a chain begins from IDLE, and
from LOST for a HOME; behind a sent entry the order is held; an untransmitted entry is withdrawn where the MOVE leads back
to the origin of a chain of which nothing was taken, and is otherwise replaced; a move is superseded. The bar's entries in
its lane's queue stand accordingly. A HOME makes the known position UNKNOWN (R125). -/
def Ordered (b : Nat) (order : Order) (s t : State) : Prop :=
  let entries (x : State) : List LaneEntry := (x.lane (s.bar b).lane).queue.filter fun e => e.bar == b
  let entry : LaneEntry := { bar := b, kind := order.kind, target := order.target }
  let posted (c : Chain) : Bar :=
    { s.bar b with known := if order.kind = .home then none else (s.bar b).known, handshake := .posted c }
  match (s.bar b).handshake with
  | .posted c =>
    if (s.lane (s.bar b).lane).sentIs b then
      t.bar b = posted { c with order := order, held := true } ∧ entries t = entries s
    else if order.kind = .move ∧ c.origin = some order.target ∧ c.lastTaken = none then
      t.bar b = { s.bar b with handshake := .idle } ∧ entries t = []
    else
      t.bar b = posted { c with order := order } ∧
        entries t = (entries s).map fun e => { e with kind := order.kind, target := order.target }
  | .moving c => t.bar b = posted { c with order := order, moveTimer := none } ∧ entries t = entries s ++ [entry]
  | _ => t.bar b = posted (.begin order (s.bar b).known) ∧ entries t = entries s ++ [entry]

/-- A placement over these zones asks for its targets (R98, R133, R134): from `s` to `t` they are fixed and the orders
posted, or nothing has changed but run control, which stands at `run`. While an enabled bar has no target the placement
waits. Otherwise each enabled bar that does not stand at its target, and is not LOST, has a MOVE posted without a deadline
(R117, Ordered; at once IDLE there with the source SIMULATED, R129), and the sequencer is RUNNING, with PLACED, exactly
where every enabled bar is IDLE at its target. -/
def PlacesBars (zones : List Zone) (target : Nat → Option Nat) (run : RunControl) (s t : State) : Prop :=
  ((∃ n, n < 48 ∧ (s.bar n).enabled = true ∧ target n = none) →
    t.run = run ∧ t.bars = s.bars ∧ t.lanes = s.lanes) ∧
  ((∀ n, n < 48 → (s.bar n).enabled = true → target n ≠ none) →
    ((t.run = { run with state := .running, placement := none } ∧ BothShow .placed t) ∨
      ∃ targets, t.run = { run with placement := some { zones := zones, targets := some targets } } ∧
        ∀ n, n < 48 → (s.bar n).enabled = true → targets.getD n none = target n) ∧
    (t.run.state = .running ↔ ∀ n, n < 48 → (s.bar n).enabled = true →
      (t.bar n).handshake = .idle ∧ (t.bar n).known = target n) ∧
    (∀ n, n < 48 → (s.bar n).enabled = false → t.bar n = s.bar n) ∧
    ∀ n x, n < 48 → (s.bar n).enabled = true → target n = some x →
      ((s.bar n).standing = some x ∨ (s.bar n).handshake = .lost → t.bar n = s.bar n) ∧
      ((s.bar n).standing ≠ some x → (s.bar n).handshake = .idle ∨ (s.bar n).outstanding = true →
        (s.tracker.source = .simulated → t.bar n = { s.bar n with known := some x, handshake := .idle }) ∧
        (s.tracker.source = .encoder → (s.bar n).lane < s.lanes.length →
          (∀ c, (s.bar n).handshake = .posted c → (s.lane (s.bar n).lane).Transmits) →
          Ordered n { kind := .move, target := x, deadline := none } s t)))

/-- In `s` a forward count, short of the wrap, takes group `g` into Z1, or into Z2 with targets (R5, R98, R113, R115): bar
`b` of the group is to stand at `target`, its order has deadline `d`, and its shog requires the period `need`, 0 where
there is no shog to check. -/
def EntersZone (g b target need : Nat) (d : Deadline) (s : State) : Prop :=
  s.tracker.counter + 1 < s.constants.counts ∧
  ∃ start r rest,
    s.tracker.counter * 4096 / s.constants.counts < start ∧
    start ≤ (s.tracker.counter + 1) * 4096 / s.constants.counts ∧ s.queue.records = r :: rest ∧
    ((d = .overlapEnd ∧ start = s.constants.overlapStart + g * s.constants.stagger ∧ target = (r.pair b).p2 ∧
        need = requiredPeriod
          (moveTime (s.driveClass (s.bar b).cls) (distance (r.pair b).p1 (r.pair b).p2))
          (s.constants.overlapEnd - s.constants.overlapStart - g * s.constants.stagger)) ∨
      (d = .underlapEnd ∧ start = s.constants.underlapStart + g * s.constants.stagger ∧
        ((∃ next more, rest = next :: more ∧ target = (next.pair b).p1 ∧
            need = requiredPeriod
              (moveTime (s.driveClass (s.bar b).cls) (distance (r.pair b).p2 (next.pair b).p1))
              (s.constants.underlapEnd - s.constants.underlapStart - g * s.constants.stagger)) ∨
          (rest = [] ∧ r.articleEnd = true ∧ target = (r.pair b).p2 ∧ need = 0))))

/-- In `s` a forward count orders bar `b` to `target` (R113): the angle is valid, the sequencer RUNNING with a retreat
backlog of 0, the bar's group enters a zone, and the bar takes orders and neither stands there nor is bound for there. -/
def State.EntryOrders (s : State) (b target : Nat) : Prop :=
  s.tracker.angleValid = true ∧ s.run.state = .running ∧ s.queue.backlog = 0 ∧ b < 48 ∧ (s.bar b).enabled = true ∧
    (s.bar b).lane < 4 ∧ ((s.bar b).handshake = .idle ∨ (s.bar b).outstanding = true) ∧
    (s.bar b).standing ≠ some target ∧ ∃ need d, EntersZone (s.bar b).lane b target need d s

/-- From `s` to `t` a simulated count is taken as the encoder's count that leaves `u` (R12): the queue, the builder, the
arbiter, run control and the ports stand as in `u`, and so do the bars and lanes but for what the count orders, which is
answered at once, each such bar IDLE at its target and no lane touched (R129). -/
def CountsAs (s u t : State) : Prop :=
  t.queue = u.queue ∧ t.builder = u.builder ∧ t.arbiter = u.arbiter ∧ t.run = u.run ∧ t.portM = u.portM ∧
    t.portD = u.portD ∧
    (∀ b target, s.EntryOrders b target → t.bar b = { s.bar b with known := some target, handshake := .idle }) ∧
    (∀ b, (¬∃ target, s.EntryOrders b target) → t.bar b = u.bar b) ∧
    ((¬∃ b target, s.EntryOrders b target) → t.lanes = u.lanes) ∧
    ((∃ b target, s.EntryOrders b target) → t.lanes = s.lanes)

/-- The bar's order is outstanding with deadline `d` (R107, R114). -/
def Bar.Due (d : Deadline) (bar : Bar) : Prop :=
  ∃ c, (bar.handshake = .posted c ∨ bar.handshake = .moving c) ∧ c.order.deadline = some d

/-- From `s` to `t` the port write of these cells in its grant is judged with this status, by R22's tests in their order,
and lands whole or not at all (R23): it changes its own cells alone and clears the verified flags of the mappings whose
extents hold one of them, or it changes no cell and no flag. -/
def WriteOutcome (p : Port) (a : Nat) (cells : List Cell) (status : Status) (s t : State) : Prop :=
  (status ≠ .ok → KeepsCells s t ∧ t.segments = s.segments) ∧
  (status = .ok → ∀ b, readCell t.memory b =
    if a ≤ b ∧ b < a + cells.length then cells.getD (b - a) 0 else readCell s.memory b) ∧
  (status = .ok → ∀ g, t.segment g = match s.segment g with
    | .empty => .empty
    | .mapped c x =>
      .mapped { c with verified := c.verified && !c.extent.meets { first := a, count := cells.length } }
        (x.map fun m => { m with verified := m.verified && !m.extent.meets { first := a, count := cells.length } })) ∧
  status = (match s.regions.find? fun r => r.valid && r.range.holds a with
    | none => .noRegion
    | some r =>
      if ∃ i, i < cells.length ∧ ¬r.range.holds (a + i) then .span
      else if r.lockDown ∨ r.holder = some (otherPort p) then .locked
      else if ∃ i, i < cells.length ∧ ∃ x ∈ s.busyExtents, x.holds (a + i) then .busyRegion
      else if ∃ i, i < cells.length ∧ ∃ x ∈ s.liveExtents, x.holds (a + i) then .live
      else .ok)

/-- From `s` to `t` the build of the course at `position` begins, where its segment is mapped (R50, R51, R69, R71): at a
course 0 a verified pending mapping becomes current, with REMAPPED, and an unverified one is held, with REMAP_HELD; the
build asks for its fetch. -/
def BeginsCourse (position : Position) (s t : State) : Prop :=
  ∀ (g : Nat) (m : Mapping) (x : Option Mapping), g = (s.seqEntry position.entry).segment → g < s.segments.length →
    s.segment g = .mapped m x →
    t.builder.position = position ∧ t.builder.ended = false ∧
    (s.arbiter.grant = none → t.arbiter.grant = some .builder) ∧
    (s.arbiter.grant.isSome → t.arbiter = { s.arbiter with fetchWaiting := true }) ∧
    (position.course ≠ 0 ∨ x = none ∨ (∃ p, x = some p ∧ p.verified = false) →
      t.segments = s.segments ∧ t.engine = s.engine ∧
      t.builder.build = some
        { base := m.base + position.course * m.bars, bars := m.bars, remapped := false, fetched := false } ∧
      (position.course = 0 → x.isSome → BothShow .remapHeld t)) ∧
    (∀ p, position.course = 0 → x = some p → p.verified = true →
      t.segment g = .mapped p none ∧ (∀ n, n ≠ g → t.segment n = s.segment n) ∧ BothShow .remapped t ∧
      t.engine = { s.engine with bound := t.engine.bound } ∧
      (∀ op e z, s.engine.op = some op → op.kind = .check g e z →
        t.engine.bound = if s.engine.bound = some .pending then some .current else none) ∧
      t.builder.build = some { base := p.base, bars := p.bars, remapped := true, fetched := false })

/-- Every enabled bar is IDLE at its target (R134). -/
def State.allPlaced (s : State) (targets : List (Option Nat)) : Prop :=
  ∀ b, b < 48 → (s.bar b).enabled →
    (s.bar b).handshake = .idle ∧ (s.bar b).known.isSome ∧ (s.bar b).known = targets.getD b none

end Sys2Proof.Machine
end

