-- ==== Sys2Proof/Certificates/Slice0/Obligations.lean ====
section
/-! DEFINITION. The statements. -/

open Sys2Proof Sys2Proof.Machine

/-! ### The step and the queue of waiting commands -/

/-- A step runs the command at the front of the queue on the state with the queue's rest; with no command waiting it is
one tick of the timebase (the model's choice, log entry 2). -/
def Obligations.StepRunsTheFrontCommand : Prop :=
  (∀ (c : Instr) (rest : List Instr) (s : State),
    s.pending = c :: rest → step s = exec c { s with pending := rest }) ∧
  ∀ s : State, s.pending = [] → step s = .next { s with now := s.now + 1 }
/-- No command changes the queue of waiting commands. -/
def Obligations.CommandsKeepTheWaitingQueue : Prop :=
  ∀ (c : Instr) (s t : State), exec c s = .next t → t.pending = s.pending

/-- The model stops only where a grant would reach a cell outside 0..1,048,575, and refuses nothing. R19 says that no
other cell exists; that such a grant stops the part is the model's own choice (log entry 31). -/
def Obligations.OnlyMissingCellsStopTheModel : Prop :=
  ∀ (c : Instr) (s : State),
    (∃ t, exec c s = .next t) ∨
    (∃ a, exec c s = .fault (.noSuchCell a) ∧ memorySize ≤ a ∧
      (c = .builderFetch ∨ c = .chunk ∨ ∃ p, c = .readCellsGrant p ∨ c = .writeCellsGrant p))

/-! ### Power and the reset input -/

/-- POWER_UP: R18, R26, R27, R38, R39, R55, R59, R92, R107, R108, R145, R163. The cells' contents, the timebase and the
check register are the model's choice (log entries 2, 4, 26) and are not stated. -/
def Obligations.PowerUpGivesPowerUpValues : Prop :=
  ∀ s : State, ∃ t, exec .powerUp s = .next t ∧
    t.tracker.counter = 0 ∧ t.tracker.angleValid = false ∧ t.tracker.motion = .still ∧ t.tracker.stillTimer = none ∧
    t.tracker.startTime = none ∧ t.tracker.period = none ∧ t.tracker.source = .encoder ∧ t.tracker.simGate = false ∧
    t.tracker.simRate = 60 ∧ t.tracker.snapshotM = none ∧ t.tracker.snapshotD = none ∧
    t.constants =
      { counts := 4096, overlapStart := 1024, overlapEnd := 1536, underlapStart := 2048, underlapEnd := 3072,
        stagger := 32, maxRpm := 750, crawlRpm := 30, lookAhead := 8, slack := 5000 } ∧
    (t.arbiter.lastPort = .d ∧ t.arbiter.accessM = none ∧ t.arbiter.accessD = none ∧ t.arbiter.fetchWaiting = false) ∧
    (∀ n, t.region n = { valid := false, base := 0, size := 4096, holder := none, lockDown := false }) ∧
    (∀ g, t.segment g = .empty) ∧
    (∀ e, t.seqEntry e = { segment := 0, repeats := 1, markEach := false, markEnd := false }) ∧
    t.sequence.length = 0 ∧ t.sequence.endMode = .stop ∧
    t.builder.position = { entry := 0, iteration := 0, course := 0 } ∧ t.builder.ended = false ∧
    t.builder.build = none ∧ t.builder.buffer = [] ∧
    t.queue.records = [] ∧ t.queue.history = [] ∧ t.queue.backlog = 0 ∧ t.queue.overrun = 0 ∧
    (∀ n, n < 48 → t.bar n =
      { enabled := false, lane := n / 12, address := n % 12, cls := 0, limit := 127, known := none, driveCode := 0,
        handshake := .off }) ∧
    (∀ c, c < 4 → t.driveClass c = { base := 1000, perSpace := 1000 }) ∧
    (∀ g, (t.lane g).queue = [] ∧ (t.lane g).awaiting = false) ∧
    t.run.state = .halted ∧ t.run.placement = none ∧ t.run.causes.any = false ∧ t.run.fault = none ∧
    t.stopRequested = false ∧ t.filling = true ∧ t.engine.state = .active ∧
    t.busyExtents = [{ first := 0, count := 1048576 }] ∧
    ∀ p, (t.port p).transaction = none ∧ (t.port p).slot = .empty ∧ (t.port p).discard = false ∧
      (t.port p).events = 0 ∧ (t.port p).mask = 0 ∧ (t.port p).attention = false

/-- State.reset is the part after POWER_UP with no command waiting, and every law of the model holds there. What
State.reset holds where the spec gives no value is the model's choice: the timebase at 0 (log entry 2), the reset input
released (log entry 3), every cell 0 (log entry 4) and the check register FFFFH (log entry 26). -/
def Obligations.ResetStateMeetsTheLaws : Prop :=
  (∀ s : State, s.pending = [] → exec .powerUp s = .next State.reset) ∧
  MemoryWf State.reset.memory ∧ State.reset.QueueLaw ∧ State.reset.BacklogLaw ∧ State.reset.CourseNumberLaw ∧
  State.reset.RegionLaw ∧ State.reset.LockLaw ∧ State.reset.TrackerLaw ∧ State.reset.HaltedLaw ∧
  State.reset.CeilingLaw ∧ State.reset.BarLaw ∧ State.reset.LaneLaw ∧ State.reset.LaneEntriesLaw ∧
  State.reset.LaneTransmitsLaw ∧ State.reset.EngineLaw ∧ State.reset.TableLaw

/-- RESET_INPUT and RESET_RELEASE: what the reset input clears and what it keeps (R16, R18, R26, R27, R39, R55, R92,
R107, R108, R128, R145, R155, R163). Cells and verified flags change only by a port write in its grant, which is judged
and lands whole or not at all (R22, R23, R26). The bytes of a transaction that it abandons are not read, nor those of
one that begins while it is held (R163). While the input is held low no other row has an effect but the chunks, the
grants and the chip selects. What a held input lets act is the model's reading (log entries 7, 8). -/
def Obligations.ResetInputClearsTheRunSide : Prop :=
  ∀ s : State,
    (s.resetHeld = true → ∀ c t, exec c s = .next t → c ≠ .powerUp → c ≠ .resetInput → c ≠ .resetRelease →
      c ≠ .chunk → c ≠ .builderFetch → (∀ p, c ≠ .readCellsGrant p) → (∀ p, c ≠ .writeCellsGrant p) →
      (∀ p, c ≠ .transactionBegin p) → (∀ p bits, c ≠ .transactionEnd p bits) → t = { s with now := t.now }) ∧
    (s.resetHeld = true → ∀ p,
      exec (.transactionBegin p) s = .next (s.setPort p { s.port p with deaf := true }) ∧
      ((s.port p).transaction = none → ∀ bits,
        exec (.transactionEnd p bits) s = .next (s.setPort p { s.port p with deaf := false }))) ∧
    exec .resetRelease s = .next { s with resetHeld := false } ∧
    ∃ t, exec .resetInput s = .next t ∧
    t.resetHeld = true ∧ t.constants = s.constants ∧ t.regions = s.regions ∧ t.sequence = s.sequence ∧
    t.classes = s.classes ∧
    t.tracker.counter = 0 ∧ t.tracker.angleValid = false ∧ t.tracker.motion = .still ∧ t.tracker.stillTimer = none ∧
    t.tracker.startTime = none ∧ t.tracker.period = none ∧ t.tracker.source = .encoder ∧ t.tracker.simGate = false ∧
    t.tracker.simRate = min 60 s.constants.maxRpm ∧ t.tracker.snapshotM = none ∧ t.tracker.snapshotD = none ∧
    (t.arbiter.lastPort = .d ∧ t.arbiter.accessM = none ∧ t.arbiter.accessD = none ∧
      t.arbiter.fetchWaiting = false ∧ t.arbiter.chunkWaiting = false) ∧
    t.builder.position = { entry := 0, iteration := 0, course := 0 } ∧ t.builder.ended = false ∧
    t.builder.build = none ∧ t.builder.buffer = [] ∧
    t.queue.records = [] ∧ t.queue.history = [] ∧ t.queue.backlog = 0 ∧ t.queue.overrun = 0 ∧
    (∀ n, t.bar n = { s.bar n with
      known := none, driveCode := 0, handshake := if (s.bar n).enabled then .lost else .off }) ∧
    (∀ g, (t.lane g).queue = [] ∧ (t.lane g).awaiting = false ∧ (t.lane g).frame = none) ∧
    t.run.state = .halted ∧ t.run.placement = none ∧ t.run.causes.any = false ∧ t.run.fault = none ∧
    t.stopRequested = false ∧
    (s.filling = true ∨ s.engine.state = .idle → t.engine = s.engine) ∧
    (s.filling = false → s.engine.state ≠ .idle → s.arbiter.grant ≠ some .engine →
      t.engine.state = .idle ∧ t.engine.op = none ∧ t.engine.result = .none ∧ t.busyExtents = []) ∧
    (s.filling = false → s.engine.state ≠ .idle → s.arbiter.grant = some .engine →
      t.arbiter.grant = some .engine ∧ t.engine.state = s.engine.state ∧ t.engine.abortRequested = true ∧
        t.busyExtents = s.busyExtents) ∧
    (∀ p, (t.port p).transaction = none ∧ (t.port p).slot = .empty ∧ (t.port p).discard = false ∧
      (t.port p).events = 0 ∧ (t.port p).mask = 0 ∧ (t.port p).attention = false ∧
      (t.port p).deaf = ((s.port p).deaf || (s.port p).transaction.isSome)) ∧
    ((∀ p a cells, s.arbiter.grant = some (.port p) → s.arbiter.access p ≠ some (.write a cells)) →
      KeepsCells s t ∧ t.segments = s.segments) ∧
    ∀ p a cells, MemoryWf s.memory → s.arbiter.grant = some (.port p) → s.arbiter.access p = some (.write a cells) →
      cells ≠ [] → a + cells.length ≤ memorySize → ∃ status, WriteOutcome p a cells status s t

/-! ### Frames and checks -/

/-- The command frames of section 10.8 read back: each well-formed port command is what its own frame gives (R156). -/
def Obligations.CommandFramesReadBack : Prop :=
  ∀ (i : Instr) (p : Port) (time : Nat), i.wellFormed = true →
    (match i with
      | .replyRead q => q = p
      | .unknownCommand q _ => q = p
      | .status q => q = p
      | .eventsRead q => q = p
      | .eventsClear q _ => q = p
      | .eventsEnable q _ => q = p
      | .shaftLatch q => q = p
      | .shaftRead q => q = p
      | .getConstants q => q = p
      | .setConstants q _ t => q = p ∧ t = time
      | .setSource q _ t => q = p ∧ t = time
      | .simSpeed q _ t => q = p ∧ t = time
      | .simGate q _ t => q = p ∧ t = time
      | .readCells q _ _ => q = p
      | .writeCells q _ _ _ => q = p
      | .regionSet q _ _ _ => q = p
      | .regionClear q _ => q = p
      | .regionGet q _ => q = p
      | .lock q _ => q = p
      | .unlock q _ => q = p
      | .lockDown q _ => q = p
      | .map q _ _ _ _ _ => q = p
      | .mapCancel q _ => q = p
      | .mapClear q _ => q = p
      | .mapGet q _ => q = p
      | .seqWrite q _ _ _ _ => q = p
      | .seqForm q _ _ => q = p
      | .seqRepeat q _ _ => q = p
      | .seqGet q _ => q = p
      | .setClass q _ _ _ => q = p
      | .setBar q _ _ _ _ _ _ => q = p
      | .home q _ => q = p
      | .placeBar q _ _ => q = p
      | .getBar q _ => q = p
      | .queueRead q _ _ => q = p
      | .arm q _ _ _ => q = p
      | .disarm q => q = p
      | .resume q => q = p
      | .restart q => q = p
      | .clearStop q => q = p
      | .continueRun q => q = p
      | .opFill q _ _ => q = p
      | .opCopy q _ _ _ => q = p
      | .opCheck q _ _ => q = p
      | .opSuspend q => q = p
      | .opResume q => q = p
      | .opAbort q => q = p
      | .opStatus q => q = p
      | _ => False) →
    readFrame p time (commandFrame i) = some i

/-- Frames written out byte by byte from section 10.8, the worked lane frames and one command of each area; the computed
checks worked in section 9.4; and section 10.8's tables: the status codes, the bits of the events, the numbers of the
sequencer states, fault kinds and engine states, the engine's results in R146's order (log entry 20), and the bits of the
port-state byte. -/
def Obligations.WorkedFrames : Prop :=
  orderFrame 5 .move 35 = [0x51#8, 0x23#8, 0x28#8] ∧
  decodeReply { head := 0x52#8, value := 0x23#8, check := 0x2B#8, cutOff := false } = some (5, .inPosition 35) ∧
  decodeReply { head := 0x52#8, value := 0x23#8, check := 0x2A#8, cutOff := false } = none ∧
  orderFrame 9 .home 0 = [0x92#8, 0x00#8, 0xC8#8] ∧
  decodeReply { head := 0x51#8, value := 0x00#8, check := 0x0B#8, cutOff := false } = some (5, .taken) ∧
  decodeReply { head := 0x53#8, value := 0x11#8, check := 0x18#8, cutOff := false } = some (5, .fault 17) ∧
  readFrame .m 7 [0x01#8] = some (.status .m) ∧
  readFrame .d 7 [0x03#8, 0x80#8, 0x01#8] = some (.eventsClear .d 0x8001#16) ∧
  readFrame .m 7 [0x0C#8, 0x01#8] = some (.setSource .m 1 7) ∧
  readFrame .d 7 [0x10#8, 0x04#8, 0x00#8, 0x01#8, 0x20#8] = some (.readCells .d 262145 32) ∧
  readFrame .d 7 [0x11#8, 0x00#8, 0x00#8, 0x05#8, 0x01#8, 0x0B#8, 0x0A#8] = some (.writeCells .d 5 1 [0x0B0A#16]) ∧
  readFrame .d 7 [0x14#8, 0x01#8, 0x01#8, 0x00#8, 0x00#8, 0x01#8, 0x00#8, 0x00#8] =
    some (.regionSet .d 1 65536 65536) ∧
  readFrame .d 7 [0x20#8, 0x03#8, 0x04#8, 0x00#8, 0x00#8, 0x00#8, 0xC8#8, 0x28#8, 0x7A#8, 0x10#8] =
    some (.map .d 3 262144 200 40 0x7A10#16) ∧
  readFrame .m 7 [0x2A#8, 0x01#8, 0x00#8, 0x05#8] = some (.seqRepeat .m 1 5) ∧
  readFrame .m 7 [0x32#8, 0xFF#8] = some (.home .m 255) ∧
  readFrame .m 7 [0x40#8, 0x01#8, 0x00#8, 0x0A#8, 0x00#8, 0x32#8] = some (.arm .m 1 10 50) ∧
  readFrame .d 7 [0x49#8, 0x04#8, 0x93#8, 0xE0#8, 0x04#8, 0x1F#8, 0x40#8, 0x00#8, 0x02#8, 0x58#8] =
    some (.opCopy .d 300000 270144 600) ∧
  readFrame .m 7 [0x05#8] = some (.unknownCommand .m 0x05#8) ∧
  readFrame .m 7 [0x40#8, 0x01#8] = none ∧
  checkByte 0xFFFF#16 0x00#8 = 0xE1F0#16 ∧ checkCell 0xFFFF#16 0x0000#16 = 0x1D0F#16 ∧
  checkByte 0xFFFF#16 0x0B#8 = 0x509B#16 ∧ checkCell 0xFFFF#16 0x0B0A#16 = 0x60BF#16 ∧
  ([Status.ok, .unknownCommand, .rights, .starting, .state, .busy, .badValue, .noRegion, .span, .overlap, .locked,
      .lockedDown, .notHolder, .live, .busyRegion, .inUse, .passed, .unverified, .notHomed, .moving, .angle, .notOwner,
      .notLatched, .duplicate] : List Status).map Status.code = List.range 24 ∧
  ([Event.placed, .ceilingDrop, .stopRequest, .fault, .ended, .remapped, .remapHeld, .clamped, .longShog, .risk, .late,
      .backoff, .overrun, .barLost, .slip, .opDone] : List Event).map Event.bit = List.range 16 ∧
  ([SeqState.halted, .placing, .running, .ended, .faulted] : List SeqState).map SeqState.code = List.range 5 ∧
  ([FaultKind.driveSilent, .driveTimeout, .mismatch, .driveFault, .queueDry, .backlogFull, .slip, .disturbed] :
      List FaultKind).map FaultKind.code = [1, 2, 3, 4, 5, 6, 7, 8] ∧
  ([EngineState.idle, .active, .suspended] : List EngineState).map EngineState.code = List.range 3 ∧
  ([OpResult.none, .ok, .mismatch, .aborted] : List OpResult).map OpResult.code = List.range 4 ∧
  ∀ (x : PortState) (stop filling : Bool) (b : Byte), b = portStateByte x stop filling →
    b.getLsbD 0 = false ∧ b.getLsbD 1 = false ∧ b.getLsbD 2 = filling ∧ b.getLsbD 3 = stop ∧
    b.getLsbD 4 = x.attention ∧ b.getLsbD 5 = x.discard ∧ (b.getLsbD 6 = true ↔ x.slot = .pending) ∧
    (b.getLsbD 7 = true ↔ ∃ r, x.slot = .ready r)

/-! ### Ports (10) -/

/-- TRANSACTION_BEGIN, REPLY_READ and TRANSACTION_END (R156, R157, R158, R163): the port-state byte is shifted out first;
a reply read leaves the slot and shifts out a READY reply, and with the slot EMPTY or PENDING nothing of its own; FFH
follows what a transaction shifts out of its own for as long as it is clocked; the rise of the chip select empties the
slot after a whole reply, and sets DISCARD when no command was taken. The port-state byte is cleared of DISCARD once it
has been shifted out. UNKNOWN_COMMAND is answered with that status and nothing else follows. The record of the bytes
shifted out, and that a transaction ends with no fewer bits than its frame had, are the model's (log entry 19), as are
the instant at which the slot is looked at (log entry 40) and that an unknown code is not refused STARTING (log entry
18). -/
def Obligations.TransactionsOfAPort : Prop :=
  ∀ (p : Port) (bits : Nat) (s : State), s.resetHeld = false →
    (∃ t, exec (.transactionBegin p) s = .next t ∧ t = s.setPort p (t.port p) ∧ KeepsCells s t ∧
      ((s.port p).transaction = none → t.port p = { s.port p with
        deaf := false
        transaction := some
          { received := [], bits := 0, taken := false, reading := none,
            shifted := [portStateByte (s.port p) s.stopRequested s.filling] } })) ∧
    (∃ t, exec (.replyRead p) s = .next t ∧ t = s.setPort p (t.port p) ∧ KeepsCells s t ∧
      (t.port p).slot = (s.port p).slot ∧ (t.port p).events = (s.port p).events ∧
      (t.port p).mask = (s.port p).mask ∧
      (∀ x r, (s.port p).transaction = some x → x.taken = false → x.reading = none → (s.port p).slot = .ready r →
        (t.port p).discard = false ∧ ∃ y, (t.port p).transaction = some y ∧
          y.shifted = x.shifted ++ (field1 r.status.code ++ field2 r.data.length ++ r.data) ∧
          y.reading = some (4 + r.data.length)) ∧
      (∀ x, (s.port p).transaction = some x → x.taken = false → x.reading = none →
        (s.port p).slot = .empty ∨ (s.port p).slot = .pending →
        (t.port p).discard = false ∧ ∃ y, (t.port p).transaction = some y ∧ y.shifted = x.shifted ∧
          y.reading = none ∧ y.taken = true)) ∧
    (∃ t, exec (.transactionEnd p bits) s = .next t ∧ t = s.setPort p (t.port p) ∧ KeepsCells s t ∧
      (t.port p).transaction = none ∧ (t.port p).events = (s.port p).events ∧ (t.port p).mask = (s.port p).mask ∧
      (t.port p).deaf = false ∧
      ∀ x, (s.port p).transaction = some x →
        (t.port p).shiftedOut.length = max bits x.bits / 8 ∧
        (∀ k, k < max bits x.bits / 8 → (t.port p).shiftedOut.getD k 0 = x.shifted.getD k 0xFF#8) ∧
        (∀ n, x.reading = some n →
          (t.port p).discard = (s.port p).discard ∧
          (t.port p).slot = if 8 * n ≤ bits then .empty else (s.port p).slot) ∧
        (x.reading = none → (t.port p).slot = (s.port p).slot ∧
          (t.port p).discard = ((s.port p).discard || !x.taken))) ∧
    ∀ code, s.takes p → ∃ t, exec (.unknownCommand p code) s = .next t ∧ Refuses p .unknownCommand s t

/-- A frame that a port takes stands in its transaction, which shifts out FFH beside every byte after the code byte
(R156). A frame that reaches its last byte while the slot is PENDING is discarded whole: DISCARD is set, the slot stays
PENDING, and nothing but the port changes (R157). A frame on a port that does not listen changes nothing: its
transaction has had its command (R156), its bytes are those of an abandoned transaction (R163), or the reset input is
held, where that nothing is taken is the model's reading of R145 and section 10.7 (log entry 8). A frame
with no transaction begun before it is a whole one (log entry 19), and a timed command brings the timebase to its time
(log entry 2): the model's choices. -/
def Obligations.PendingSlotDiscardsFrames : Prop :=
  ∀ (c : Instr) (p : Port) (time : Nat) (s t : State), readFrame p time (commandFrame c) = some c → exec c s = .next t →
    (t.now = s.now ∨ t.now = max s.now time) ∧
    (s.listens p = true ↔ s.resetHeld = false ∧
      (∀ x, (s.port p).transaction = some x → x.taken = false ∧ x.reading = none) ∧
      ((s.port p).transaction = none → (s.port p).deaf = false)) ∧
    (s.listens p = false → t = { s with now := t.now }) ∧
    (s.listens p = true → c ≠ .replyRead p → (t.port p).transaction = (s.port p).transaction.map fun x =>
      { x with
        received := commandFrame c, bits := 8 * (commandFrame c).length, taken := true,
        shifted := x.shifted ++ List.replicate ((commandFrame c).length - 1) 0xFF#8 }) ∧
    (s.listens p = true → (s.port p).slot = .pending → c ≠ .replyRead p →
      t = { s.setPort p (t.port p) with now := t.now } ∧ (t.port p).slot = .pending ∧ (t.port p).discard = true ∧
        (t.port p).events = (s.port p).events ∧ (t.port p).mask = (s.port p).mask ∧ KeepsCells s t)

/-- While the start-up fill runs, every known command but STATUS is answered STARTING and changes nothing (R38, R159). -/
def Obligations.StartUpFillRefusesCommands : Prop :=
  ∀ (c : Instr) (p : Port) (s : State), readFrame p s.now (commandFrame c) = some c → s.takes p →
    s.filling = true → c ≠ .replyRead p → c ≠ .status p → (∀ code, c ≠ .unknownCommand p code) →
    ∃ t, exec c s = .next t ∧ Refuses p .starting s t

/-- The commands that port M alone may give are answered RIGHTS on port D and change nothing (R159). -/
def Obligations.PortDHasNoMachineRights : Prop :=
  ∀ s : State, s.accepts .d →
    (∀ k time, time ≤ s.now → ∃ t, exec (.setConstants .d k time) s = .next t ∧ Refuses .d .rights s t) ∧
    (∀ x time, time ≤ s.now →
      (∃ t, exec (.setSource .d x time) s = .next t ∧ Refuses .d .rights s t) ∧
      (∃ t, exec (.simSpeed .d x time) s = .next t ∧ Refuses .d .rights s t) ∧
      (∃ t, exec (.simGate .d x time) s = .next t ∧ Refuses .d .rights s t)) ∧
    (∀ a b c d e f : Nat,
      (∃ t, exec (.lockDown .d a) s = .next t ∧ Refuses .d .rights s t) ∧
      (∃ t, exec (.setClass .d a b c) s = .next t ∧ Refuses .d .rights s t) ∧
      (∃ t, exec (.setBar .d a b c d e f) s = .next t ∧ Refuses .d .rights s t) ∧
      (∃ t, exec (.home .d a) s = .next t ∧ Refuses .d .rights s t) ∧
      (∃ t, exec (.placeBar .d a b) s = .next t ∧ Refuses .d .rights s t) ∧
      (∃ t, exec (.arm .d a b c) s = .next t ∧ Refuses .d .rights s t)) ∧
    (∀ c, c = Instr.disarm .d ∨ c = .resume .d ∨ c = .restart .d ∨ c = .clearStop .d ∨ c = .continueRun .d →
      ∃ t, exec c s = .next t ∧ Refuses .d .rights s t)

/-- STATUS (R160, section 10.8): the 34 bytes of its reply, given in every state and during the start-up fill. The fields
of a measured speed of 0 µs or above 65,535 rpm and of an absent fault course number are free values (log entries 24,
25). -/
def Obligations.StatusReportsThePart : Prop :=
  ∀ (p : Port) (s : State), s.takes p →
    ∃ t data, exec (.status p) s = .next t ∧ Answers p .ok data s t ∧ data.length = 34 ∧
      fieldValue (data.take 1) = s.run.state.code ∧
      ((data.getD 1 0).getLsbD 0 = s.filling ∧ (data.getD 1 0).getLsbD 1 = s.tracker.angleValid ∧
        (data.getD 1 0).getLsbD 2 = s.stopRequested ∧ (data.getD 1 0).getLsbD 3 = s.builder.ended ∧
        (data.getD 1 0).getLsbD 4 = (s.tracker.source == .simulated) ∧ (data.getD 1 0).getLsbD 5 = s.tracker.simGate ∧
        (data.getD 1 0).getLsbD 6 = (s.tracker.motion == .forward) ∧
        (data.getD 1 0).getLsbD 7 = (s.tracker.motion == .reverse)) ∧
      (data.drop 2).take 2 = field2 (s.angle.getD 0xFFFF) ∧
      (∀ x, s.tracker.period = some x → 916 ≤ x → (data.drop 4).take 2 = field2 (60000000 / x)) ∧
      (s.tracker.period = none → (data.drop 4).take 2 = field2 0) ∧
      (data.drop 6).take 2 = field2 s.governingCeiling ∧
      ((data.getD 8 0).getLsbD 0 = s.run.causes.late ∧ (data.getD 8 0).getLsbD 1 = s.run.causes.mark ∧
        (data.getD 8 0).getLsbD 2 = s.run.causes.overrun ∧ (data.getD 8 0).getLsbD 3 = s.run.causes.backoff) ∧
      (s.run.fault = none → (data.drop 9).take 2 = [0x00#8, 0xFF#8] ∧ data.getD 15 0 = 0x00#8) ∧
      (∀ f, s.run.fault = some f →
        (data.drop 9).take 1 = field1 f.kind.code ∧ (data.drop 10).take 1 = field1 (f.bar.getD 0xFF) ∧
        (∀ n, f.course = some n → (data.drop 11).take 4 = field4 n) ∧
        (data.getD 15 0).getLsbD 0 = f.course.isSome ∧ (data.getD 15 0).getLsbD 1 = f.angle.isSome ∧
        (data.getD 15 0).getLsbD 2 = f.more ∧ (∀ a, f.angle = some a → (data.drop 16).take 2 = field2 a)) ∧
      (data.drop 18).take 2 = field1 s.queue.backlog ++ field1 s.queue.overrun ∧
      (data.drop 20).take 5 =
        field1 s.builder.position.entry ++ field2 s.builder.position.iteration ++ field2 s.builder.position.course ∧
      (data.drop 25).take 4 = field4 (s.headCourse.getD 0) ∧
      (data.drop 29).take 2 = field1 s.queue.records.length ++ field1 s.queue.history.length ∧
      (data.drop 31).take 1 = field1 (if s.filling then 3 else s.engine.state.code) ∧
      data.drop 32 = field2 (s.port p).events.toNat

/-- The attention output, and EVENTS_READ, EVENTS_CLEAR and EVENTS_ENABLE (R162): taken in every sequencer state and
refused only STARTING. The widths of EVENTS_READ's data are the model's reading (log entry 33). -/
def Obligations.EventFlagsAndMasks : Prop :=
  ∀ (p : Port) (mask : EventSet) (s : State), s.takes p →
    (∀ x : PortState, x.attention = true ↔ ∃ e : Event, e.isIn x.events = true ∧ e.isIn x.mask = true) ∧
    (∃ t, exec (.eventsRead p) s = .next t ∧
      if s.filling then Refuses p .starting s t
      else Answers p .ok (field2 (s.port p).events.toNat ++ field2 (s.port p).mask.toNat) s t) ∧
    (∃ t, exec (.eventsClear p mask) s = .next t ∧
      if s.filling then Refuses p .starting s t
      else Accepts p (s.setPort p { s.port p with events := (s.port p).events &&& ~~~mask }) t) ∧
    (∃ t, exec (.eventsEnable p mask) s = .next t ∧
      if s.filling then Refuses p .starting s t
      else Accepts p (s.setPort p { s.port p with mask := mask }) t)

/-! ### Shaft commands (01) -/

/-- SHAFT_LATCH and SHAFT_READ (R14, R15): the calling port's snapshot takes the shaft as it stands, the other port's
is not touched, and the snapshot is read back in the widths of section 10.8. The numbering of the motion state is the
model's reading (log entry 20). -/
def Obligations.SnapshotsAreLatchedAndRead : Prop :=
  ∀ (p : Port) (s : State), s.accepts p →
    (∃ t, exec (.shaftLatch p) s = .next t ∧ Accepts p { s with tracker := t.tracker } t ∧
      t.tracker.snapshot p = some
        { counter := s.tracker.counter, angle := s.angle, motion := s.tracker.motion, period := s.tracker.period,
          headCourse := s.queue.records.head?.map Record.number } ∧
      t.tracker.snapshot (otherPort p) = s.tracker.snapshot (otherPort p) ∧
      { t.tracker with snapshotM := s.tracker.snapshotM, snapshotD := s.tracker.snapshotD } = s.tracker) ∧
    (∃ t, exec (.shaftRead p) s = .next t ∧
      match s.tracker.snapshot p with
      | none => Refuses p .notLatched s t
      | some x => Answers p .ok
          (field2 x.counter ++ field2 (x.angle.getD 0xFFFF) ++
            field1 (match x.motion with
              | .forward => 0
              | .reverse => 1
              | .still => 2) ++
            field4 (x.period.getD 0xFFFFFFFF) ++ field4 (x.headCourse.getD 0) ++ fieldFlag x.headCourse.isSome) s t)

/-- GET_CONSTANTS and SET_CONSTANTS (R16, R17). The layout of GET_CONSTANTS is the model's reading (log entry 21). -/
def Obligations.MachineConstantsAreReplacedWhole : Prop :=
  (∀ (p : Port) (s : State), s.accepts p →
    ∃ t, exec (.getConstants p) s = .next t ∧ Answers p .ok
      (field2 s.constants.counts ++ field2 s.constants.overlapStart ++ field2 s.constants.overlapEnd ++
        field2 s.constants.underlapStart ++ field2 s.constants.underlapEnd ++ field1 s.constants.stagger ++
        field2 s.constants.maxRpm ++ field2 s.constants.crawlRpm ++ field1 s.constants.lookAhead ++
        field2 s.constants.slack) s t) ∧
  ∀ (k : MachineConstants) (time : Nat) (s : State), s.accepts .m → s.now ≤ time →
    ∃ t, exec (.setConstants .m k time) s = .next t ∧
      if s.run.state ≠ .halted then Refuses .m .state { s with now := time } t
      else if ¬((400 ≤ k.counts ∧ k.counts ≤ 16384) ∧
          (1 ≤ k.overlapStart ∧ k.overlapStart < k.overlapEnd ∧ k.overlapEnd ≤ k.underlapStart ∧
            k.underlapStart < k.underlapEnd ∧ k.underlapEnd ≤ 4095) ∧
          k.stagger ≤ 255 ∧
          ((k.overlapEnd : Int) - k.overlapStart - 3 * k.stagger ≥ 64 ∧
            (k.underlapEnd : Int) - k.underlapStart - 3 * k.stagger ≥ 64) ∧
          k.underlapStart + 3 * k.stagger < 4096 ∧
          (1 ≤ k.maxRpm ∧ k.maxRpm ≤ 1500 ∧ 1 ≤ k.crawlRpm ∧ k.crawlRpm ≤ k.maxRpm) ∧
          (1 ≤ k.lookAhead ∧ k.lookAhead ≤ 12) ∧ 500 ≤ k.slack ∧ k.slack ≤ 50000)
        then Refuses .m .badValue { s with now := time } t
      else Accepts .m { s with now := time, constants := k, tracker := t.tracker } t ∧
        (k.counts = s.constants.counts →
          t.tracker.counter = s.tracker.counter ∧ t.tracker.angleValid = s.tracker.angleValid ∧
          t.tracker.startTime = s.tracker.startTime ∧ t.tracker.period = s.tracker.period) ∧
        (k.counts ≠ s.constants.counts →
          t.tracker.counter = 0 ∧ t.tracker.angleValid = false ∧ t.tracker.startTime = none ∧
          t.tracker.period = none) ∧
        t.tracker.simRate = min s.tracker.simRate k.maxRpm ∧
        (k.counts = s.constants.counts → s.tracker.simRate ≤ k.maxRpm → t.tracker = s.tracker) ∧
        ((k.counts ≠ s.constants.counts ∨ k.maxRpm < s.tracker.simRate) → s.tracker.source = .simulated →
          s.tracker.simGate = true → t.tracker.schedule = some { start := time, given := 0 }) ∧
        { t.tracker with
          counter := s.tracker.counter, angleValid := s.tracker.angleValid, startTime := s.tracker.startTime,
          period := s.tracker.period, simRate := s.tracker.simRate, schedule := s.tracker.schedule } = s.tracker

/-- SET_SOURCE (R11, R128). -/
def Obligations.SourceChangesLoseTheBars : Prop :=
  ∀ (x time : Nat) (s : State), s.accepts .m → s.now ≤ time →
    ∃ t, exec (.setSource .m x time) s = .next t ∧
      if s.run.state ≠ .halted then Refuses .m .state { s with now := time } t
      else if 1 < x then Refuses .m .badValue { s with now := time } t
      else if (if x = 0 then Source.encoder else .simulated) = s.tracker.source then
        Accepts .m { s with now := time } t
      else
        t = { s with
          now := time, tracker := t.tracker, bars := t.bars, lanes := t.lanes, portM := t.portM, portD := t.portD } ∧
        KeepsCells s t ∧ (t.port .m).slot = .ready { status := .ok, data := [] } ∧
        t.tracker = { s.tracker with
          source := if x = 0 then .encoder else .simulated
          counter := 0
          angleValid := false
          startTime := none
          period := none
          schedule := if x = 1 ∧ s.tracker.simGate then some { start := time, given := 0 } else none } ∧
        (∀ b, t.bar b =
          if (s.bar b).outstanding ∨ ((s.bar b).enabled ∧ (s.bar b).handshake = .idle) then
            { s.bar b with handshake := .lost, known := none }
          else s.bar b) ∧
        (∀ g, (t.lane g).queue = [] ∧ (t.lane g).awaiting = false ∧ (t.lane g).frame = (s.lane g).frame) ∧
        ((∃ b, b < s.bars.length ∧
            ((s.bar b).outstanding ∨ ((s.bar b).enabled ∧ (s.bar b).handshake = .idle))) → BothShow .barLost t) ∧
        ((∀ b, b < s.bars.length →
            ¬((s.bar b).outstanding ∨ ((s.bar b).enabled ∧ (s.bar b).handshake = .idle))) →
          t.portD = s.portD ∧ t.portM.events = s.portM.events)

/-- SIM_SPEED and SIM_GATE (R12, R13). -/
def Obligations.SimulatedShaftIsSetByPortM : Prop :=
  ∀ (x time : Nat) (s : State), s.accepts .m → s.now ≤ time →
    (∃ t, exec (.simSpeed .m x time) s = .next t ∧
      if x < 1 ∨ s.constants.maxRpm < x then Refuses .m .badValue { s with now := time } t
      else Accepts .m { s with now := time, tracker := { s.tracker with
        simRate := x
        schedule := if s.tracker.source = .simulated ∧ s.tracker.simGate then some { start := time, given := 0 }
          else none } } t) ∧
    (∃ t, exec (.simGate .m x time) s = .next t ∧
      if 1 < x then Refuses .m .badValue { s with now := time } t
      else if s.tracker.simGate = (x == 1) then Accepts .m { s with now := time } t
      else Accepts .m { s with now := time, tracker := { s.tracker with
        simGate := x == 1
        schedule := if s.tracker.source = .simulated ∧ x = 1 then some { start := time, given := 0 } else none } } t)

/-! ### Pattern memory and regions (02) -/

/-- READ_CELLS and WRITE_CELLS as they are taken (R21, R22, R158): the range tests, then the wait for a grant with the
slot PENDING, granted at once when the arbiter is free (R24). A WRITE_CELLS whose count is out of range is answered
BAD_VALUE whatever cells it carries. That the access is made in its grant row is the model's reading (log entry 6). -/
def Obligations.CellCommandsWaitForTheirGrant : Prop :=
  ∀ (p : Port) (a n : Nat) (cells : List Cell) (s : State), s.accepts p →
    (n < 1 ∨ 128 < n ∨ 1048575 < a ∨ 1048576 < a + n →
      (∃ t, exec (.readCells p a n) s = .next t ∧ Refuses p .badValue s t) ∧
      ∃ t, exec (.writeCells p a n cells) s = .next t ∧ Refuses p .badValue s t) ∧
    (cells.length = n → 1 ≤ n → n ≤ 128 → a + n ≤ 1048576 →
      ∀ c x, (c = .readCells p a n ∧ x = .read a n) ∨ (c = .writeCells p a n cells ∧ x = .write a cells) →
      ∃ t, exec c s = .next t ∧
        t = { s with arbiter := t.arbiter, portM := t.portM, portD := t.portD } ∧ KeepsCells s t ∧
        t.port (otherPort p) = s.port (otherPort p) ∧ (t.port p).slot = .pending ∧ (t.port p).discard = false ∧
        (t.port p).events = (s.port p).events ∧ (t.port p).mask = (s.port p).mask ∧
        t.arbiter.access p = some x ∧ t.arbiter.access (otherPort p) = s.arbiter.access (otherPort p) ∧
        (s.arbiter.grant.isSome → t.arbiter.grant = s.arbiter.grant ∧ t.arbiter.lastPort = s.arbiter.lastPort) ∧
        (s.arbiter.grant = none → s.arbiter.fetchWaiting = false → s.arbiter.access (otherPort p) = none →
          t.arbiter.grant = some (.port p) ∧ t.arbiter.lastPort = p))

/-- R25: when a grant ends, the next is the builder's fetch, then the port other than the last port granted where both
wait, then the one port that waits, then the chunk. -/
def Obligations.GrantsFollowTheirOrder : Prop :=
  ∀ a : Arbiter, a.grant = none →
    (a.fetchWaiting = true → a.next.grant = some .builder ∧ a.next.lastPort = a.lastPort) ∧
    (a.fetchWaiting = false → a.accessM.isSome → a.accessD.isSome →
      a.next.grant = some (.port (otherPort a.lastPort)) ∧ a.next.lastPort = otherPort a.lastPort) ∧
    (∀ p, a.fetchWaiting = false → (a.access p).isSome → a.access (otherPort p) = none →
      a.next.grant = some (.port p) ∧ a.next.lastPort = p) ∧
    (a.fetchWaiting = false → a.accessM = none → a.accessD = none →
      a.next.grant = (if a.chunkWaiting then some .engine else none) ∧ a.next.lastPort = a.lastPort)

/-- READ_CELLS_GRANT (R21): the cells of the range in ascending order, and no cell changed; the grant that follows is the
one that the order of grants gives (R25). -/
def Obligations.ReadGrantReturnsTheCells : Prop :=
  ∀ (p : Port) (a n : Nat) (s : State), s.arbiter.grant = some (.port p) → s.arbiter.access p = some (.read a n) →
    a + n ≤ memorySize →
    ∃ t data, exec (.readCellsGrant p) s = .next t ∧
      t = { s with arbiter := t.arbiter, portM := t.portM, portD := t.portD } ∧ KeepsCells s t ∧
      t.arbiter.access p = none ∧ t.arbiter.grant ≠ some (.port p) ∧
      t.arbiter = ({ s.arbiter.setAccess p none with grant := none } : Arbiter).next ∧
      t.port p = { s.port p with slot := .ready { status := .ok, data := data } } ∧
      t.port (otherPort p) = s.port (otherPort p) ∧ data.length = 2 * n ∧
      ∀ i, i < n → fieldValue [data.getD (2 * i) 0, data.getD (2 * i + 1) 0] = (readCell s.memory (a + i)).toNat

/-- WRITE_CELLS_GRANT (R22, R23, R36): the tests at the grant in their order; a write that passes lands whole, changes
no other cell, and clears the verified flags of the mappings whose extents hold a written cell; a write that is
refused changes no cell and no flag (WriteOutcome); the grant that follows is the one that the order of grants gives
(R25). That the access is judged in its grant row is the model's reading (log entry 6). -/
def Obligations.WriteGrantLandsWholeOrNotAtAll : Prop :=
  ∀ (p : Port) (a : Nat) (cells : List Cell) (s : State), MemoryWf s.memory →
    s.arbiter.grant = some (.port p) → s.arbiter.access p = some (.write a cells) → cells ≠ [] →
    a + cells.length ≤ memorySize →
    ∃ t status, exec (.writeCellsGrant p) s = .next t ∧
      t = { s with
        memory := t.memory, segments := t.segments, arbiter := t.arbiter, portM := t.portM, portD := t.portD } ∧
      t.arbiter.access p = none ∧ t.arbiter.grant ≠ some (.port p) ∧
      t.arbiter = ({ s.arbiter.setAccess p none with grant := none } : Arbiter).next ∧
      t.port p = { s.port p with slot := .ready { status := status, data := [] } } ∧
      t.port (otherPort p) = s.port (otherPort p) ∧ WriteOutcome p a cells status s t

/-- REGION_SET and REGION_CLEAR (R28, R29): their tests in order, and their effects. IN_USE is the model's reading of
an extent that lies in a range (log entry 28). -/
def Obligations.RegionsAreSetAndCleared : Prop :=
  ∀ (p : Port) (n base size : Nat) (s : State), s.accepts p →
    (∃ t, exec (.regionSet p n base size) s = .next t ∧
      if 15 < n ∨ size ∉ [4096, 8192, 16384, 32768, 65536, 131072, 262144, 524288, 1048576] ∨ 1048575 < base ∨
          base % size ≠ 0 then Refuses p .badValue s t
      else if (s.region n).valid ∧ (s.region n).holder.isSome then Refuses p .locked s t
      else if (s.region n).valid ∧ ∃ x ∈ s.extents, x.within (s.region n).range then Refuses p .inUse s t
      else if ((s.region n).valid ∧ ∃ x ∈ s.busyExtents, (s.region n).range.meets x) ∨
          (∃ x ∈ s.busyExtents, Extent.meets { first := base, count := size } x) then Refuses p .busyRegion s t
      else if ∃ i ∈ List.range 16, i ≠ n ∧ (s.region i).valid ∧
          Extent.meets { first := base, count := size } (s.region i).range then Refuses p .overlap s t
      else
        let r : Region := { valid := true, base := base, size := size, holder := none, lockDown := false }
        Accepts p { s with regions := s.regions.set n r } t) ∧
    (∃ t, exec (.regionClear p n) s = .next t ∧
      if 15 < n then Refuses p .badValue s t
      else if (s.region n).valid = false then Refuses p .noRegion s t
      else if (s.region n).holder.isSome then Refuses p .locked s t
      else if ∃ x ∈ s.extents, x.within (s.region n).range then Refuses p .inUse s t
      else if ∃ x ∈ s.busyExtents, (s.region n).range.meets x then Refuses p .busyRegion s t
      else Accepts p { s with regions := s.regions.set n { s.region n with valid := false } } t)

/-- REGION_GET, MAP_GET and SEQ_GET (R30, R46, R58): what they return, in the widths of section 10.8. The numbering of
enumerations and the in-use flag are the model's readings (log entries 20, 28). -/
def Obligations.TablesAreReadBack : Prop :=
  ∀ (p : Port) (n : Nat) (s : State), s.accepts p →
    (∃ t, exec (.regionGet p n) s = .next t ∧
      if 15 < n then Refuses p .badValue s t
      else Answers p .ok
        (fieldFlag (s.region n).valid ++ field3 (s.region n).base ++ field3 (s.region n).size ++
          field1 (match (s.region n).holder with
            | none => 0
            | some .m => 1
            | some .d => 2) ++
          fieldFlag (s.region n).lockDown ++
          fieldFlag (decide ((s.region n).valid ∧ ∃ x ∈ s.extents, x.within (s.region n).range)) ++
          fieldFlag (decide ((s.region n).valid ∧ ∃ x ∈ s.busyExtents, (s.region n).range.meets x))) s t) ∧
    (∃ t, exec (.mapGet p n) s = .next t ∧
      if 63 < n then Refuses p .badValue s t
      else ∃ data, Answers p .ok data s t ∧ data.length = 22 ∧
        (∀ c x, s.segment n = .mapped c x →
          data.take 10 = fieldFlag true ++ field3 c.base ++ field2 c.courses ++ field1 c.bars ++
            field2 c.expected.toNat ++ fieldFlag c.verified ∧
          (∀ m, x = some m → (data.drop 10).take 10 = fieldFlag true ++ field3 m.base ++ field2 m.courses ++
            field1 m.bars ++ field2 m.expected.toNat ++ fieldFlag m.verified) ∧
          (x = none → (data.drop 10).take 10 = List.replicate 10 0)) ∧
        (s.segment n = .empty → data.take 20 = List.replicate 20 0) ∧
        data.drop 20 = fieldFlag (s.segmentLive n) ++ field1 (match s.checking n with
          | none => 0
          | some .current => 1
          | some .pending => 2)) ∧
    (∃ t, exec (.seqGet p n) s = .next t ∧
      if 63 < n then Refuses p .badValue s t
      else Answers p .ok
        (field1 (s.seqEntry n).segment ++ field2 (s.seqEntry n).repeats ++ fieldFlag (s.seqEntry n).markEach ++
          fieldFlag (s.seqEntry n).markEnd ++ field1 s.sequence.length ++
          field1 (match s.sequence.endMode with
            | .wrap => 0
            | .stop => 1) ++
          fieldFlag (n < s.sequence.length) ++
          field2 (if s.run.state = .halted then 1
            else if s.sequence.length ≤ n ∨ s.builder.ended ∨ n < s.builder.position.entry then 0
            else if n = s.builder.position.entry then s.builder.position.iteration + 1
            else 1)) s t)

/-- LOCK and UNLOCK (R32, R33): the tests in order, STARTING first, and their effects. -/
def Obligations.RegionsAreLockedAndUnlocked : Prop :=
  ∀ (p : Port) (n : Nat) (s : State), s.takes p →
    (∃ t, exec (.lock p n) s = .next t ∧
      if s.filling then Refuses p .starting s t
      else if 15 < n then Refuses p .badValue s t
      else if (s.region n).valid = false then Refuses p .noRegion s t
      else if (s.region n).lockDown then Refuses p .lockedDown s t
      else if (s.region n).holder = some (otherPort p) then Refuses p .locked s t
      else Accepts p { s with regions := s.regions.set n { s.region n with holder := some p } } t) ∧
    (∃ t, exec (.unlock p n) s = .next t ∧
      if s.filling then Refuses p .starting s t
      else if 15 < n then Refuses p .badValue s t
      else if (s.region n).valid = false then Refuses p .noRegion s t
      else if (s.region n).lockDown then Refuses p .lockedDown s t
      else if (s.region n).holder = some (otherPort p) then Refuses p .notHolder s t
      else Accepts p { s with regions := s.regions.set n { s.region n with holder := none } } t)

/-- LOCK_DOWN (R34): its tests in order on port M, RIGHTS on port D, and its effect. -/
def Obligations.LockedRegionsAreLockedDown : Prop :=
  ∀ (p : Port) (n : Nat) (s : State), s.takes p →
    ∃ t, exec (.lockDown p n) s = .next t ∧
      if s.filling then Refuses p .starting s t
      else if p = .d then Refuses p .rights s t
      else if 15 < n then Refuses p .badValue s t
      else if (s.region n).valid = false then Refuses p .noRegion s t
      else if (s.region n).holder = none then Refuses p .state s t
      else Accepts p { s with regions := s.regions.set n { s.region n with lockDown := true } } t

/-! ### Segment map and sequence table (03, 04) -/

/-- MAP (R41, R42, R43): its tests in order; a segment that is not live gets a new unverified current mapping and loses
its pending one, a live one keeps its current mapping and gets the new one as pending. -/
def Obligations.MapMakesUnverifiedMappings : Prop :=
  ∀ (p : Port) (g base courses bars : Nat) (expected : Check) (s : State), s.accepts p →
    ∃ t, exec (.map p g base courses bars expected) s = .next t ∧
      if 63 < g ∨ 1048575 < base ∨ courses = 0 ∨ bars = 0 ∨ 48 < bars then Refuses p .badValue s t
      else match s.regions.find? fun r => r.valid && r.range.holds base with
        | none => Refuses p .noRegion s t
        | some r =>
          if ¬r.range.holds (base + courses * bars - 1) then Refuses p .span s t
          else if (∃ x ∈ s.busyExtents, Extent.meets { first := base, count := courses * bars } x) ∨
              (s.checking g).isSome then Refuses p .busyRegion s t
          else
            let m : Mapping :=
              { base := base, courses := courses, bars := bars, expected := expected, verified := false }
            (s.segmentLive g = false → Accepts p { s with segments := s.segments.set g (.mapped m none) } t) ∧
            (∀ c x, s.segmentLive g = true → s.segment g = .mapped c x →
              Accepts p { s with segments := s.segments.set g (.mapped c (some m)) } t)

/-- MAP_CANCEL and MAP_CLEAR (R44, R45): the tests in order, and their effects. -/
def Obligations.MappingsAreCancelledAndCleared : Prop :=
  ∀ (p : Port) (g : Nat) (s : State), s.accepts p →
    (∃ t, exec (.mapCancel p g) s = .next t ∧
      if 63 < g then Refuses p .badValue s t
      else if (s.checking g).isSome then Refuses p .busyRegion s t
      else match s.segment g with
        | .empty => Accepts p s t
        | .mapped c _ => Accepts p { s with segments := s.segments.set g (.mapped c none) } t) ∧
    (∃ t, exec (.mapClear p g) s = .next t ∧
      if 63 < g then Refuses p .badValue s t
      else if s.segmentLive g then Refuses p .live s t
      else if (s.checking g).isSome then Refuses p .busyRegion s t
      else Accepts p { s with segments := s.segments.set g .empty } t)

/-- SEQ_WRITE and SEQ_FORM (R56, R57): the tests in order, STARTING first, and their effects. -/
def Obligations.SequenceIsWrittenInHalted : Prop :=
  ∀ (p : Port) (e g n flags mode : Nat) (s : State), s.takes p →
    (∃ t, exec (.seqWrite p e g n flags) s = .next t ∧
      if s.filling then Refuses p .starting s t
      else if s.run.state ≠ .halted then Refuses p .state s t
      else if 63 < e ∨ 63 < g ∨ n = 0 ∨ 4095 < n ∨ 3 < flags then Refuses p .badValue s t
      else
        let x : SeqEntry := { segment := g, repeats := n, markEach := flags % 2 == 1, markEnd := flags / 2 == 1 }
        Accepts p { s with sequence := { s.sequence with entries := s.sequence.entries.set e x } } t) ∧
    (∃ t, exec (.seqForm p n mode) s = .next t ∧
      if s.filling then Refuses p .starting s t
      else if s.run.state ≠ .halted then Refuses p .state s t
      else if 64 < n ∨ 1 < mode then Refuses p .badValue s t
      else
        let q : SequenceTable := { s.sequence with length := n, endMode := if mode = 0 then .stop else .wrap }
        Accepts p { s with sequence := q } t)

/-- SEQ_REPEAT (R65, R66): its tests against the builder position, and its effect. -/
def Obligations.RepeatCountsChangeAheadOfTheBuilder : Prop :=
  ∀ (p : Port) (e n : Nat) (s : State), s.takes p →
    ∃ t, exec (.seqRepeat p e n) s = .next t ∧
      let at_ := if s.builder.ended then s.sequence.length else s.builder.position.entry
      if s.filling then Refuses p .starting s t
      else if 63 < e ∨ n = 0 ∨ 4095 < n then Refuses p .badValue s t
      else if s.run.state ≠ .halted ∧ s.sequence.length ≤ e then Refuses p .badValue s t
      else if s.run.state ≠ .halted ∧ e < at_ then Refuses p .passed s t
      else if s.run.state ≠ .halted ∧ e = at_ ∧ n ≤ s.builder.position.iteration then Refuses p .passed s t
      else
        let entries := s.sequence.entries.set e { s.seqEntry e with repeats := n }
        Accepts p { s with sequence := { s.sequence with entries := entries } } t

/-- R61: the advance of the builder position, and the marks that go with it. -/
def Obligations.BuilderWalksTheArticle : Prop :=
  ∀ (t : SequenceTable) (k : Nat) (p : Position),
    let e := t.entries.getD p.entry SeqEntry.initial
    let iterationEnds : Prop := ¬p.course + 1 < k
    let entryEnds : Prop := iterationEnds ∧ ¬p.iteration + 1 < e.repeats
    let tableEnds : Prop := entryEnds ∧ ¬p.entry + 1 < t.length
    (¬iterationEnds → (t.advance k p).position = { p with course := p.course + 1 }) ∧
    (iterationEnds → ¬entryEnds →
      (t.advance k p).position = { entry := p.entry, iteration := p.iteration + 1, course := 0 }) ∧
    (entryEnds → ¬tableEnds → (t.advance k p).position = { entry := p.entry + 1, iteration := 0, course := 0 }) ∧
    (tableEnds → t.endMode = .wrap → (t.advance k p).position = { entry := 0, iteration := 0, course := 0 }) ∧
    (tableEnds → t.endMode = .stop → (t.advance k p).position = { entry := t.length, iteration := 0, course := 0 }) ∧
    ((t.advance k p).ended = true ↔ tableEnds ∧ t.endMode = .stop) ∧
    ((t.advance k p).articleEnd = true ↔ tableEnds ∧ t.endMode = .stop) ∧
    ((t.advance k p).stopMark = true ↔ (iterationEnds ∧ e.markEach) ∨ (entryEnds ∧ e.markEnd))

/-! ### The shaft (01) -/

/-- ENCODER_COUNT (R1, R2, R8, R9, R113, R114, R135): what a count does to the tracker, whose fields it leaves alone, and the
hard fault DISTURBED in PLACING. While the angle is invalid nothing else follows. A forward count that does not cross the
wrap leaves the period measurement as it was. One that crosses O_e or U_e sets LATE and raises it where an outstanding
order has that deadline, and removes the deadline; one that finds no such order sets no cause LATE. A count, forward or
reverse, that enters no zone, or that is taken in HALTED, ENDED or FAULTED or with a retreat backlog above 0, posts no
order (R113): but for the deadlines removed, and the purge of a hard fault at the boundary, the bars and lanes stand as
they stood. -/
def Obligations.EncoderCountsMoveTheCounter : Prop :=
  ∀ (e : Edge) (time : Nat) (s : State), s.resetHeld = false → s.now ≤ time →
    ∃ t, exec (.encoderCount e time) s = .next t ∧ OnlyShaftSide { s with now := time } t ∧
      (s.tracker.source = .simulated ∨ e = .together → t = { s with now := time }) ∧
      (s.tracker.source = .encoder → e ≠ .together →
        (e = .forward →
          t.tracker.counter = (if s.tracker.counter + 1 < s.constants.counts then s.tracker.counter + 1 else 0) ∧
          t.tracker.motion = .forward) ∧
        (e = .reverse →
          t.tracker.counter = (if s.tracker.counter = 0 then s.constants.counts - 1 else s.tracker.counter - 1) ∧
          t.tracker.motion = .reverse ∧ t.tracker.startTime = none ∧ t.tracker.period = none) ∧
        t.tracker.stillTimer = some time ∧
        { t.tracker with
          counter := s.tracker.counter, motion := s.tracker.motion, stillTimer := s.tracker.stillTimer,
          startTime := s.tracker.startTime, period := s.tracker.period } = s.tracker ∧
        (s.run.state = .placing → t.run.state = .faulted ∧ BothShow .fault t ∧ ∃ more angle, t.run.fault = some
          { kind := .disturbed, bar := none, course := s.headCourse, angle := angle, more := more }) ∧
        (s.tracker.angleValid = false → s.run.state ≠ .placing →
          t = { s with now := time, tracker := t.tracker } ∧ (e = .forward →
            t.tracker.startTime = s.tracker.startTime ∧ t.tracker.period = s.tracker.period)) ∧
        (e = .forward → s.tracker.angleValid = true → s.tracker.counter + 1 < s.constants.counts →
          t.tracker.startTime = s.tracker.startTime ∧ t.tracker.period = s.tracker.period) ∧
        (e = .forward → s.tracker.angleValid = true → s.run.state ≠ .placing → validConstants s.constants = true →
          let reached : Nat :=
            if s.tracker.counter + 1 < s.constants.counts then (s.tracker.counter + 1) * 4096 / s.constants.counts
            else 4096
          let crossed (d : Deadline) : Prop :=
            s.tracker.counter * 4096 / s.constants.counts < deadlineAngle s.constants d ∧
              deadlineAngle s.constants d ≤ reached
          (∀ d, crossed d →
            ((∃ b, b < s.bars.length ∧ (s.bar b).Due d) → t.run.causes.late = true ∧ BothShow .late t ∧
              (s.stopRequested = false → BothShow .stopRequest t)) ∧
            (∀ b, ¬(t.bar b).Due d) ∧
            (s.run.state ≠ .running ∨ 0 < s.queue.backlog →
              (s.tracker.counter + 1 < s.constants.counts → t.queue = s.queue ∧ t.run.state = s.run.state) ∧
              t.lanes = s.lanes ∧ ∀ b,
                (¬(s.bar b).Due d → t.bar b = s.bar b) ∧
                (∀ c, c.order.deadline = some d →
                  let c' : Chain := { c with order := { c.order with deadline := none } }
                  ((s.bar b).handshake = .posted c → t.bar b = { s.bar b with handshake := .posted c' }) ∧
                  ((s.bar b).handshake = .moving c → t.bar b = { s.bar b with handshake := .moving c' })))) ∧
          ((∀ d b, crossed d → b < s.bars.length → ¬(s.bar b).Due d) →
            t.run.causes.late = s.run.causes.late ∧
            (s.run.state ≠ .running ∨ 0 < s.queue.backlog ∨ (∀ g, g < 4 →
                let entered (start : Nat) : Prop :=
                  s.tracker.counter * 4096 / s.constants.counts < start ∧ start ≤ reached
                ¬entered (s.constants.overlapStart + g * s.constants.stagger) ∧
                  ¬entered (s.constants.underlapStart + g * s.constants.stagger)) →
              (s.run.state = .running → t.run.state ≠ .faulted) → t.bars = s.bars ∧ t.lanes = s.lanes))) ∧
        (e = .reverse → s.tracker.angleValid = true → s.run.state ≠ .placing → validConstants s.constants = true →
          (s.run.state ≠ .running ∨ 0 < s.queue.backlog ∨ (∀ g, g < 4 →
              let left (start : Nat) : Prop :=
                (s.tracker.counter - 1) * 4096 / s.constants.counts < start ∧
                  start ≤ s.tracker.counter * 4096 / s.constants.counts
              ¬left (s.constants.overlapStart + g * s.constants.stagger) ∧
                ¬left (s.constants.underlapStart + g * s.constants.stagger)) →
            (s.run.state = .running → t.run.state ≠ .faulted) → t.bars = s.bars ∧ t.lanes = s.lanes)))

/-- Zone crossings in RUNNING with a retreat backlog of 0 (R98, R113, R115). Forward, an enabled bar of the group is
ordered to the head's p2 at the entry to Z1, and at the entry to Z2 to the next record's p1, or to the head's p2 where
the head is alone and carries ARTICLE_END; the order has its deadline, and RISK is raised where the last measured period
is shorter than the shog's required period. Backward, the bar is ordered to the head's p2 on coming back to Z1 and to its
p1 on coming back to Z0, with no deadline and no RISK. A bar that is IDLE, POSTED or MOVING and does not stand at the
target has the order posted by its state (R117, Ordered); one that stands at it, or is bound for it, or is LOST, is left
alone. A forward entry to Z2 that finds no targets is the hard fault QUEUE_DRY. The premise Transmits is R116's law, which
every step keeps (StepsKeepTheBarAndLaneLaws). When an entry counts as sent, and the angle in a fault record, are the
model's readings (log entries 11, 14). -/
def Obligations.ZoneEntriesOrderTheBars : Prop :=
  ∀ (time g : Nat) (s : State), s.resetHeld = false → s.now ≤ time →
    s.tracker.source = .encoder → s.tracker.angleValid = true → s.run.state = .running → s.queue.backlog = 0 →
    validConstants s.constants = true → g < 4 →
    (∀ b, b < 48 → b < s.bars.length → (s.bar b).enabled = true → (s.bar b).lane = g → g < s.lanes.length →
      let entries (x : State) : List LaneEntry := (x.lane g).queue.filter fun e => e.bar == b
      (∀ (target need : Nat) (d : Deadline), EntersZone g b target need d s →
        ∃ t, exec (.encoderCount .forward time) s = .next t ∧ t.run.state = .running ∧ t.queue = s.queue ∧
          t.builder = s.builder ∧ t.arbiter = s.arbiter ∧
          ((s.bar b).standing = some target → entries t = entries s ∧ (t.bar b).standing = some target ∧
            (¬(s.bar b).Due .overlapEnd → t.bar b = s.bar b)) ∧
          ((s.bar b).handshake = .lost → t.bar b = s.bar b) ∧
          ((s.bar b).handshake = .idle ∨ (s.bar b).outstanding = true → (s.bar b).standing ≠ some target →
            ((∀ c, (s.bar b).handshake = .posted c → (s.lane g).Transmits) →
              Ordered b { kind := .move, target := target, deadline := some d } s t) ∧
            (∀ x, s.tracker.period = some x → x < need → BothShow .risk t))) ∧
      ∀ target : Nat, s.tracker.counter ≠ 0 →
        (∃ start r rest,
          (s.tracker.counter - 1) * 4096 / s.constants.counts < start ∧
          start ≤ s.tracker.counter * 4096 / s.constants.counts ∧ s.queue.records = r :: rest ∧
          ((start = s.constants.underlapStart + g * s.constants.stagger ∧ target = (r.pair b).p2) ∨
            (start = s.constants.overlapStart + g * s.constants.stagger ∧ target = (r.pair b).p1))) →
        ∃ t, exec (.encoderCount .reverse time) s = .next t ∧ t.run = s.run ∧ t.queue = s.queue ∧
          t.builder = s.builder ∧ t.arbiter = s.arbiter ∧ (∀ p, (t.port p).events = (s.port p).events) ∧
          ((s.bar b).standing = some target ∨ (s.bar b).handshake = .lost →
            entries t = entries s ∧ t.bar b = s.bar b) ∧
          ((s.bar b).handshake = .idle ∨ (s.bar b).outstanding = true → (s.bar b).standing ≠ some target →
            (∀ c, (s.bar b).handshake = .posted c → (s.lane g).Transmits) →
            Ordered b { kind := .move, target := target, deadline := none } s t)) ∧
    (s.tracker.counter + 1 < s.constants.counts →
      s.tracker.counter * 4096 / s.constants.counts < s.constants.underlapStart + g * s.constants.stagger →
      s.constants.underlapStart + g * s.constants.stagger ≤ (s.tracker.counter + 1) * 4096 / s.constants.counts →
      s.queue.records = [] ∨ (∃ r, s.queue.records = [r] ∧ r.articleEnd = false) →
      ∃ t, exec (.encoderCount .forward time) s = .next t ∧ t.queue = s.queue ∧ t.builder = s.builder ∧
        t.arbiter = s.arbiter ∧ t.run.state = .faulted ∧ BothShow .fault t ∧
        t.run.fault = some
          { kind := .queueDry, bar := none, course := s.headCourse,
            angle := some ((s.tracker.counter + 1) * 4096 / s.constants.counts), more := false } ∧
        (s.stopRequested = false → BothShow .stopRequest t) ∧
        (∀ n, (t.lane n).queue = [] ∧ (t.lane n).awaiting = false) ∧ ∀ n, (t.bar n).outstanding = false)

/-- A forward boundary (R4, R9, R93, R94, R95, R96, R102, R104): the period measurement, and what the queue does in
each sequencer state. In PLACING the count has been the hard fault DISTURBED first (R135). The angle in a fault record
is the model's reading (log entry 11). -/
def Obligations.ForwardBoundariesAdvanceTheQueue : Prop :=
  ∀ (time : Nat) (s : State), s.resetHeld = false → s.now ≤ time → s.tracker.source = .encoder →
    s.tracker.angleValid = true → validConstants s.constants = true →
    s.tracker.counter + 1 = s.constants.counts →
    ∃ t, exec (.encoderCount .forward time) s = .next t ∧ OnlyShaftSide { s with now := time } t ∧
      t.builder = s.builder ∧ t.arbiter = s.arbiter ∧ t.tracker.counter = 0 ∧ t.tracker.startTime = some time ∧
      t.tracker.period = (match s.tracker.startTime with
        | none => s.tracker.period
        | some t0 => some (min (time - t0) 16777215)) ∧
      (s.run.state = .running → t.run.state = .running → t.governingCeiling < s.governingCeiling →
        BothShow .ceilingDrop t) ∧
      (s.run.state = .halted → t.queue = s.queue) ∧
      (s.run.state = .ended →
        t.queue = { s.queue with overrun := min 255 (s.queue.overrun + 1) } ∧ t.run.state = .ended ∧
        t.run.causes.overrun = true ∧ BothShow .overrun t) ∧
      (s.run.state = .placing ∨ s.run.state = .running ∨ s.run.state = .faulted →
        (0 < s.queue.backlog →
          t.queue = { s.queue with backlog := s.queue.backlog - 1 } ∧
          (s.run.state = .running → t.run.state = .running)) ∧
        (s.queue.backlog = 0 →
          (∀ r n rest, s.queue.records = r :: n :: rest →
            t.queue = { s.queue with records := n :: rest, history := (r :: s.queue.history).take 8 } ∧
            (r.stopMark = true → t.run.causes.mark = true) ∧ (s.run.state = .running → t.run.state = .running)) ∧
          (∀ r, s.queue.records = [r] →
            t.queue.records = [] ∧ t.queue.history = (r :: s.queue.history).take 8 ∧ t.queue.backlog = 0 ∧
            t.queue.overrun =
              (if s.builder.ended = true ∧ s.run.state = .running then 0 else s.queue.overrun) ∧
            (r.stopMark = true → t.run.causes.mark = true) ∧
            (s.run.state = .running → s.builder.ended = true → t.run.state = .ended ∧ BothShow .ended t) ∧
            (s.run.state = .running → s.builder.ended = false → t.run.state = .faulted ∧ BothShow .fault t ∧
              t.run.fault = some
                { kind := .queueDry, bar := none, course := some r.number, angle := some 0, more := false })) ∧
          (s.queue.records = [] → s.builder.ended = true →
            t.queue = { s.queue with overrun := min 255 (s.queue.overrun + 1) } ∧ t.run.causes.overrun = true ∧
            BothShow .overrun t) ∧
          (s.queue.records = [] → s.builder.ended = false → t.queue = s.queue ∧
            (s.run.state = .running → t.run.state = .faulted ∧ t.run.fault = some
              { kind := .queueDry, bar := none, course := none, angle := some 0, more := false })) ∧
          (s.queue.records.length ≤ 1 → s.builder.ended = false → s.run.state = .faulted →
            t.run.fault = s.run.fault.map fun f => { f with more := true })))

/-- A backward boundary (R4, R70, R87, R99, R100, R101, R102): the newest history record comes back to the head; a
queue brought to 16 abandons the build, one of 17 discards its tail, whose origin becomes the builder position, and
reopens the new tail; with the history empty the retreat backlog rises with BACKOFF; past the end the overrun count
falls first. The angle in a fault record is the model's reading (log entry 11). -/
def Obligations.BackwardBoundariesRestoreTheHistory : Prop :=
  ∀ (time : Nat) (s : State), s.resetHeld = false → s.now ≤ time → s.tracker.source = .encoder →
    s.tracker.angleValid = true → validConstants s.constants = true → s.tracker.counter = 0 →
    ∃ t, exec (.encoderCount .reverse time) s = .next t ∧ OnlyShaftSide { s with now := time } t ∧
      t.tracker.counter = s.constants.counts - 1 ∧ t.tracker.startTime = none ∧ t.tracker.period = none ∧
      (s.run.state = .running → t.run.state = .running → t.governingCeiling < s.governingCeiling →
        BothShow .ceilingDrop t) ∧
      (s.run.state = .halted → t.queue = s.queue ∧ t.builder = s.builder) ∧
      (s.run.state ≠ .halted → s.run.state = .ended ∨ (s.queue.records = [] ∧ s.builder.ended = true) →
        0 < s.queue.overrun →
        t.queue = { s.queue with overrun := s.queue.overrun - 1 } ∧ t.builder = s.builder ∧
        (s.run.state ≠ .placing → t.run = s.run)) ∧
      (s.run.state = .ended → s.queue.overrun = 0 → s.queue.history = [] →
        t.queue = s.queue ∧ t.builder = s.builder ∧ t.run = s.run) ∧
      (s.run.state = .running ∨ s.run.state = .faulted ∨ s.run.state = .placing →
        ¬(s.queue.records = [] ∧ s.builder.ended = true ∧ 0 < s.queue.overrun) → s.queue.history = [] →
        t.queue = { s.queue with backlog := min 255 (s.queue.backlog + 1) } ∧ t.builder = s.builder ∧
        t.arbiter = s.arbiter ∧ t.run.causes.backoff = true ∧ BothShow .backoff t ∧
        (s.run.state = .running → s.queue.backlog < 255 → t.run.state = .running) ∧
        (s.run.state = .running → s.queue.backlog = 255 → t.run.state = .faulted ∧ BothShow .fault t ∧
          t.run.fault = some
            { kind := .backlogFull, bar := none, course := s.headCourse,
              angle := some ((s.constants.counts - 1) * 4096 / s.constants.counts), more := false }) ∧
        (s.run.state = .faulted → s.queue.backlog = 255 →
          t.run.fault = s.run.fault.map fun f => { f with more := true })) ∧
      (∀ r rest, s.run.state ≠ .halted → s.queue.history = r :: rest →
        (s.run.state = .ended → s.queue.overrun = 0) →
        ¬(s.queue.records = [] ∧ s.builder.ended = true ∧ 0 < s.queue.overrun) →
        (s.run.state = .ended → t.run = { s.run with state := .running }) ∧
        (s.run.state = .running ∨ s.run.state = .faulted → t.run = s.run) ∧
        (s.queue.records.length < 15 →
          t.queue = { s.queue with records := r :: s.queue.records, history := rest } ∧ t.builder = s.builder ∧
          t.arbiter = s.arbiter) ∧
        (s.queue.records.length = 15 →
          t.queue = { s.queue with records := r :: s.queue.records, history := rest } ∧
          t.builder = { s.builder with build := none, buffer := [] } ∧
          t.arbiter = { s.arbiter with fetchWaiting := false }) ∧
        (∀ front last tail, r :: s.queue.records = front ++ [last, tail] → s.queue.records.length = 16 →
          (let c := ceilingFor s.constants last.overlapPeriod
           let q := { last with underlapPeriod := none, isOpen := true, ceiling := c.1, longShog := c.2 }
           t.queue = { s.queue with records := front ++ [if last.articleEnd then last else q], history := rest }) ∧
          t.builder = { position := tail.origin, ended := false, build := none, buffer := [] } ∧
          t.arbiter = { s.arbiter with fetchWaiting := false }))

/-- ENCODER_INDEX, STILL_TIMER_EXPIRY and SIMULATED_COUNT (R2, R3, R8, R12, R136): an index makes an invalid angle
valid at counter 0, passes within one count of 0, and is a SLIP elsewhere; the still timer's 250 ms; the schedule's
next count at floor(n × 60,000,000 / (rate × C)) µs after its start. A simulated count does all that the encoder's forward
count at its time does (CountsAs), its orders answered at once (R129), and the simulated index at the wrap makes an
invalid angle valid. The time of a simulated count and the angle of a SLIP are the model's readings (log entries 10,
11). -/
def Obligations.IndexStillTimerAndSchedule : Prop :=
  ∀ s : State, s.resetHeld = false →
    (∃ t, exec .encoderIndex s = .next t ∧ OnlyShaftSide s t ∧
      (s.tracker.source = .simulated → t = s) ∧
      (s.tracker.source = .encoder → s.tracker.angleValid = false →
        t = { s with tracker := { s.tracker with counter := 0, angleValid := true, startTime := none } }) ∧
      (s.tracker.source = .encoder → s.tracker.angleValid = true →
        (min s.tracker.counter (s.constants.counts - s.tracker.counter) ≤ 1 → t = s) ∧
        (1 < min s.tracker.counter (s.constants.counts - s.tracker.counter) →
          t.tracker = { s.tracker with counter := 0, startTime := none, period := none } ∧ BothShow .slip t ∧
          t.queue = s.queue ∧ t.builder = s.builder ∧ t.arbiter = s.arbiter ∧
          (s.run.state ≠ .running → t.run = s.run ∧ t.bars = s.bars ∧ t.lanes = s.lanes) ∧
          (s.run.state = .running →
            TakesHardFault
              { kind := .slip, bar := none, course := s.headCourse, angle := some 0, more := false } s t)))) ∧
    ∀ time, s.now ≤ time →
      (∃ t, exec (.stillTimerExpiry time) s = .next t ∧
        ((∃ t0, s.tracker.stillTimer = some t0 ∧ t0 + 250000 ≤ time) →
          t = { s with
            now := time
            tracker := { s.tracker with motion := .still, stillTimer := none, startTime := none, period := none } }) ∧
        ((∀ t0, s.tracker.stillTimer = some t0 → time < t0 + 250000) → t = { s with now := time })) ∧
      (∃ t, exec (.simulatedCount time) s = .next t ∧ OnlyShaftSide { s with now := time } t ∧
        (∀ x due, s.tracker.source = .simulated → s.tracker.simGate = true → s.tracker.schedule = some x →
          due = x.start + (x.given + 1) * 60000000 / (s.tracker.simRate * s.constants.counts) →
          (time < due → t = { s with now := time }) ∧
          (due ≤ time →
            t.tracker.schedule = some { x with given := x.given + 1 } ∧
            t.tracker.counter = (if s.tracker.counter + 1 < s.constants.counts then s.tracker.counter + 1 else 0) ∧
            t.tracker.motion = .forward ∧ t.tracker.stillTimer = some due ∧
            (s.tracker.counter + 1 < s.constants.counts → t.tracker.angleValid = s.tracker.angleValid) ∧
            (s.constants.counts ≤ s.tracker.counter + 1 → t.tracker.angleValid = true) ∧
            (s.tracker.angleValid = true → s.constants.counts ≤ s.tracker.counter + 1 →
              t.tracker.startTime = some due) ∧
            (validConstants s.constants = true →
              ∃ u, exec (.encoderCount .forward due)
                  { s with now := due, tracker := { s.tracker with source := .encoder } } = .next u ∧
                CountsAs s u t ∧
                t.tracker = { u.tracker with
                  source := .simulated, schedule := some { x with given := x.given + 1 }
                  angleValid := s.tracker.angleValid || decide (s.constants.counts ≤ s.tracker.counter + 1)
                  startTime := if s.tracker.angleValid = false ∧ s.constants.counts ≤ s.tracker.counter + 1 then none
                    else u.tracker.startTime }))) ∧
        (s.tracker.source = .encoder ∨ s.tracker.simGate = false ∨ s.tracker.schedule = none →
          t = { s with now := time }))

/-! ### Drive lanes (07) -/

/-- ORDER_FRAME_SENT and TAKEN (R116, R118, R120, R123, R127): the take timer starts when the head's frame has been
sent; TAKEN takes the head out of the lane's queue and starts the move timer with its limit, or, where the order has
been held back and differs from the one taken, posts it anew at the tail. A TAKEN that no POSTED bar awaits changes
nothing, nor does one that ends while the lane itself transmits (R164). That the lane transmits from the start of its
frame until ORDER_FRAME_SENT is the model's reading (log entry 14). So is the frame of a purged order, on the line while
the lane does not await a TAKEN: its end starts no take timer, and the lane transmits its head only then (log entry 15,
which reads it from R127). -/
def Obligations.OrdersAreSentAndTaken : Prop :=
  ∀ (g time : Nat) (s : State), s.resetHeld = false → s.now ≤ time → g < s.lanes.length →
    (∃ t, exec (.orderFrameSent g time) s = .next t ∧ t = { s with now := time, bars := t.bars, lanes := t.lanes } ∧
      (∀ n, n ≠ g → t.lane n = s.lane n) ∧
      ((s.lane g).frame = none → t = { s with now := time }) ∧
      (∀ f, (s.lane g).frame = some f → (s.lane g).awaiting = false →
        t.bars = s.bars ∧ t.lane g = s.laneWith (s.lane g).queue) ∧
      (∀ f e rest c, (s.lane g).frame = some f → (s.lane g).awaiting = true → (s.lane g).queue = e :: rest →
        e.bar < s.bars.length → (s.bar e.bar).handshake = .posted c →
        t.lane g = { s.lane g with frame := none } ∧ (∀ n, n ≠ e.bar → t.bar n = s.bar n) ∧
        t.bar e.bar = { s.bar e.bar with handshake := .posted { c with takeTimer := some time } })) ∧
    ∀ address, ∃ t, exec (.taken g address time) s = .next t ∧
      t = { s with now := time, bars := t.bars, lanes := t.lanes } ∧ (∀ n, n ≠ g → t.lane n = s.lane n) ∧
      ((∀ n, n < 48 → ¬((s.bar n).enabled ∧ (s.bar n).lane = g ∧ (s.bar n).address = address)) →
        t = { s with now := time }) ∧
      ((s.lane g).frame.isSome → t = { s with now := time }) ∧
      ∀ b, b < 48 → b < s.bars.length →
        (∀ n, n < 48 → (((s.bar n).enabled ∧ (s.bar n).lane = g ∧ (s.bar n).address = address) ↔ n = b)) →
        ((∀ c, (s.bar b).handshake ≠ .posted c) ∨ (s.lane g).awaiting = false → t = { s with now := time }) ∧
        ∀ c e rest, (s.bar b).handshake = .posted c → (s.lane g).awaiting = true → (s.lane g).queue = e :: rest →
          (e.bar ≠ b → t = { s with now := time }) ∧
          (e.bar = b → (s.lane g).frame = none →
            (∀ n, n ≠ b → t.bar n = s.bar n) ∧
            (c.held = true → ¬(c.order.kind = e.kind ∧ c.order.target = e.target) →
              (let c' := { c with takeTimer := none, lastTaken := some e.target, held := false }
               t.bar b = { s.bar b with handshake := .posted c' }) ∧
              t.lane g = s.laneWith (rest ++ [{ bar := b, kind := c.order.kind, target := c.order.target }])) ∧
            (c.held = false ∨ (c.order.kind = e.kind ∧ c.order.target = e.target) →
              t.lane g = s.laneWith rest ∧
              ∃ limit, (let timer : MoveTimer := { start := time, limit := limit }
                        let c' := { c with takeTimer := none, lastTaken := some e.target, held := false, moveTimer := timer }
                        t.bar b = { s.bar b with handshake := .moving c' }) ∧
                (c.order.kind = .home → limit = 10000000) ∧
                (∀ o, c.order.kind = .move → c.origin = some o →
                  limit = moveTime (s.driveClass (s.bar b).cls)
                    (match c.lastTaken with
                      | none => distance c.order.target o
                      | some x => max (distance c.order.target o) (distance c.order.target x)) +
                    s.constants.slack)))

/-- IN_POSITION, FAULT and REPLY_FRAME_IGNORED (R121, R122, R123, R124, R134, R164): the move's end at its target, the
hard faults MISMATCH and DRIVE_FAULT with the bar LOST, and the replies that change nothing, those that end while the lane
itself transmits among them (R164). That the lane transmits from the start of its frame until ORDER_FRAME_SENT is the
model's reading (log entry 14). -/
def Obligations.RepliesEndTheMove : Prop :=
  ∀ (g address : Nat) (s : State), s.resetHeld = false →
    (∀ (time : Nat) (f : ReplyFrame),
      f.cutOff = true ∨ f.check ≠ f.head ^^^ f.value ^^^ 0x5A#8 ∨ ¬(1 ≤ f.head.toNat % 16 ∧ f.head.toNat % 16 ≤ 3) ∨
        (f.head.toNat % 16 = 2 ∧ 127 < f.value.toNat) ∨ (f.head.toNat % 16 = 3 ∧ f.value.toNat = 0) →
      exec (.replyFrameIgnored g f time) s = .next s) ∧
    ((s.lane g).frame.isSome →
      (∀ x, exec (.inPosition g address x) s = .next s) ∧ ∀ x, exec (.fault g address x) s = .next s) ∧
    ((∀ n, n < 48 → ¬((s.bar n).enabled ∧ (s.bar n).lane = g ∧ (s.bar n).address = address)) →
      (∀ x, exec (.inPosition g address x) s = .next s) ∧ ∀ x, exec (.fault g address x) s = .next s) ∧
    ∀ b, b < 48 → b < s.bars.length → (s.lane g).frame = none →
      (∀ n, n < 48 → (((s.bar n).enabled ∧ (s.bar n).lane = g ∧ (s.bar n).address = address) ↔ n = b)) →
      (∀ x, x ≤ 127 → ∃ t, exec (.inPosition g address x) s = .next t ∧ OnlyRunSide s t ∧
        ((∀ c, (s.bar b).handshake ≠ .moving c) → t = s) ∧
        (∀ c, (s.bar b).handshake = .moving c → x = c.order.target →
          t.bar b = { s.bar b with handshake := .idle, known := some x } ∧ (∀ n, n ≠ b → t.bar n = s.bar n) ∧
          t.lanes = s.lanes ∧ (s.run.state ≠ .placing → t.run = s.run) ∧
          (s.run.state = .placing → ∀ z targets, s.run.placement = some { zones := z, targets := some targets } →
            (t.allPlaced targets → t.run = { s.run with state := .running, placement := none } ∧ BothShow .placed t) ∧
            (¬t.allPlaced targets → t.run = s.run))) ∧
        (∀ c, (s.bar b).handshake = .moving c → x ≠ c.order.target →
          t.bar b = { s.bar b with handshake := .lost, known := some x } ∧ BothShow .barLost t ∧
          TakesHardFault
            { kind := .mismatch, bar := some b, course := s.headCourse, angle := s.angle, more := false } s t)) ∧
      (∀ x, 1 ≤ x → x ≤ 255 → ∃ t, exec (.fault g address x) s = .next t ∧ OnlyRunSide s t ∧
        ((s.bar b).outstanding = false → t = s) ∧
        ((s.bar b).outstanding = true →
          t.bar b = { s.bar b with handshake := .lost, known := none, driveCode := x } ∧ BothShow .barLost t ∧
          (∀ e ∈ (t.lane g).queue, e.bar ≠ b) ∧
          (s.run.state = .halted ∨ s.run.state = .faulted →
            (t.lane g).queue = (s.lane g).queue.filter (fun e => e.bar != b) ∧ ∀ n, n ≠ g → t.lane n = s.lane n) ∧
          TakesHardFault
            { kind := .driveFault, bar := some b, course := s.headCourse, angle := s.angle, more := false } s t))

/-- TAKE_LIMIT_EXPIRY and MOVE_LIMIT_EXPIRY (R119, R120, R124): 2,000 µs after the take timer's start, or at the move time
limit, the bar goes LOST with its position UNKNOWN, and the hard fault is taken; before that nothing happens. -/
def Obligations.SilentAndLateDrivesAreLost : Prop :=
  ∀ (b time : Nat) (s : State), s.resetHeld = false → s.now ≤ time → b < s.bars.length →
    (∃ t, exec (.takeLimitExpiry b time) s = .next t ∧ OnlyRunSide { s with now := time } t ∧
      (∀ c t0, (s.bar b).handshake = .posted c → c.takeTimer = some t0 →
        (time < t0 + 2000 → t = { s with now := time }) ∧
        (t0 + 2000 ≤ time →
          t.bar b = { s.bar b with handshake := .lost, known := none } ∧ BothShow .barLost t ∧
          (∀ e ∈ (t.lane (s.bar b).lane).queue, e.bar ≠ b) ∧
          TakesHardFault
            { kind := .driveSilent, bar := some b, course := s.headCourse, angle := s.angle, more := false } s t)) ∧
      ((∀ c t0, (s.bar b).handshake = .posted c → c.takeTimer ≠ some t0) → t = { s with now := time })) ∧
    (∃ t, exec (.moveLimitExpiry b time) s = .next t ∧ OnlyRunSide { s with now := time } t ∧
      (∀ c m, (s.bar b).handshake = .moving c → c.moveTimer = some m →
        (time < m.start + m.limit → t = { s with now := time }) ∧
        (m.start + m.limit ≤ time →
          t.bar b = { s.bar b with handshake := .lost, known := none } ∧ BothShow .barLost t ∧
          TakesHardFault
            { kind := .driveTimeout, bar := some b, course := s.headCourse, angle := s.angle, more := false } s t)) ∧
      ((∀ c m, (s.bar b).handshake = .moving c → c.moveTimer ≠ some m) → t = { s with now := time }))

/-! ### Course builder (05) -/

/-- BUILD_BEGIN and BUILDER_FETCH (R25, R49, R50, R51, R64, R68, R69, R71, R86): the conditions of a build; the switch or
the hold of a pending mapping at course 0 and the request for the fetch (BeginsCourse); the closure of an iteration cut
short, which marks the tail and goes on at the new position or ends the article; and the fetch, which reads the course's
cells and, for a build that was abandoned, discards them, with the grant that follows it. What the closure does with the
queue empty is the model's reading (log entry 13). -/
def Obligations.BuildsBeginAndFetch : Prop :=
  ∀ s : State, s.resetHeld = false →
    (∃ t, exec .buildBegin s = .next t ∧ KeepsCells s t ∧ OnlyRaises s t ∧
      t = { s with
        segments := t.segments, builder := t.builder, queue := t.queue, arbiter := t.arbiter, engine := t.engine,
        portM := t.portM, portD := t.portD } ∧
      (s.run.state = .halted ∨ s.run.state = .ended ∨ s.builder.ended = true ∨ 16 ≤ s.queue.records.length ∨
        s.builder.build.isSome → t = s) ∧
      ∀ (g : Nat) (m : Mapping) (x : Option Mapping) (a : Advance),
        g = (s.seqEntry s.builder.position.entry).segment → g < s.segments.length → s.segment g = .mapped m x →
        (s.run.state = .placing ∨ s.run.state = .running ∨ s.run.state = .faulted) → s.builder.ended = false →
        s.queue.records.length < 16 → s.builder.build = none →
        (∀ r, s.queue.records.getLast? = some r ∨ (s.queue.records = [] ∧ s.queue.history.head? = some r) →
          r.number < 4294967295) →
        a = s.sequence.endIteration s.builder.position →
        (s.builder.position.course < m.courses → t.queue = s.queue ∧ BeginsCourse s.builder.position s t) ∧
        (m.courses ≤ s.builder.position.course → (s.queue.records = [] → t.queue = s.queue) ∧
          (a.ended = true →
            t.segments = s.segments ∧ t.engine = s.engine ∧ t.arbiter = s.arbiter ∧
            t.builder = { s.builder with position := a.position, ended := true } ∧
            ∀ front r, s.queue.records = front ++ [r] →
              let c := (ceilingFor s.constants r.overlapPeriod).1
              let q : Record := { r with
                stopMark := r.stopMark || a.stopMark, articleEnd := true, isOpen := false, underlapPeriod := none,
                ceiling := c }
              t.queue = { s.queue with records := front ++ [q] }) ∧
          (a.ended = false →
            t.builder.position = a.position ∧ t.builder.ended = false ∧ BeginsCourse a.position s t ∧
            ∀ front r, s.queue.records = front ++ [r] →
              t.queue = { s.queue with records := front ++ [{ r with stopMark := r.stopMark || a.stopMark }] }))) ∧
    ∃ t, (s.arbiter.grant ≠ some .builder → exec .builderFetch s = .next s) ∧
      (s.arbiter.grant = some .builder →
        (∀ b, s.builder.build = some b → b.fetched = false → s.arbiter.fetchWaiting = false →
          b.base + b.bars ≤ memorySize →
          exec .builderFetch s = .next t ∧ t = { s with builder := t.builder, arbiter := t.arbiter } ∧
          t.arbiter.grant ≠ some .builder ∧ t.arbiter = ({ s.arbiter with grant := none } : Arbiter).next ∧
          t.builder.position = s.builder.position ∧
          t.builder.ended = s.builder.ended ∧ t.builder.build = some { b with fetched := true } ∧
          t.builder.buffer.length = b.bars ∧
          ∀ i, i < b.bars → t.builder.buffer.getD i 0 = readCell s.memory (b.base + i)) ∧
        (s.builder.build = none ∨ s.arbiter.fetchWaiting = true →
          exec .builderFetch s = .next t ∧
            t = { s with arbiter := ({ s.arbiter with grant := none } : Arbiter).next }))

/-- APPEND (R61, R72, R73, R74, R75, R80 to R86, R97): the new record at the tail, its 48 pairs, number, flags and
provisional ceiling; the finalization of the tail, or of the OPEN newest history record when the queue is empty, with
LONG_SHOG where it sets that flag; and the advance of the builder position. Outside PLACING nothing else changes but the
events it raises. In PLACING a placement that has no targets yet takes them as soon as every enabled bar has one: from
the head's p1 while the retreat backlog is not 0, and otherwise by the zone of the bar's group (R98, R133); each bar that
does not stand at its target has a MOVE posted without a deadline (R117, Ordered; at once IDLE there with the source
SIMULATED, R129), and the sequencer is RUNNING, with PLACED, exactly where every enabled bar is IDLE at its target
(R134). The premise Transmits is R116's law, which every step keeps (StepsKeepTheBarAndLaneLaws). When an entry counts as
sent is the model's reading (log entry 14). -/
def Obligations.AppendsJoinTheQueue : Prop :=
  ∀ (b : Build) (s : State), s.resetHeld = false → s.builder.build = some b → b.fetched = true → s.bars.length = 48 →
    ∃ t r, exec .append s = .next t ∧ OnlyShaftSide s t ∧ t.tracker = s.tracker ∧ t.arbiter = s.arbiter ∧
      (s.run.state ≠ .placing → t.run = s.run ∧ t.bars = s.bars ∧ t.lanes = s.lanes) ∧
      (∀ a, a = s.sequence.advance (s.courseCount s.buildSegment) s.builder.position →
        t.builder = { position := a.position, ended := a.ended, build := none, buffer := [] } ∧
        r.stopMark = a.stopMark ∧ r.articleEnd = a.articleEnd ∧ r.isOpen = !a.articleEnd) ∧
      r.origin = s.builder.position ∧ r.segment = (s.seqEntry s.builder.position.entry).segment ∧
      r.segmentStart = decide (s.builder.position.course = 0) ∧ r.remapped = b.remapped ∧ r.underlapPeriod = none ∧
      r.pairs.length = 48 ∧ r.overlapPeriod = s.overlapPeriod r.pairs ∧
      r.ceiling = (ceilingFor s.constants r.overlapPeriod).1 ∧
      r.longShog = (ceilingFor s.constants r.overlapPeriod).2 ∧
      (∀ n, n < 48 → (s.bar n).enabled = true → n < b.bars →
        r.pair n =
          { p1 := min ((s.builder.buffer.getD n 0).toNat % 256) (s.bar n).limit
            p2 := min ((s.builder.buffer.getD n 0).toNat / 256) (s.bar n).limit }) ∧
      (∀ n, n < 48 → (s.bar n).enabled = false ∨ b.bars ≤ n → ∀ x,
        (match s.queue.records.getLast? with
          | some q => x = (q.pair n).p2
          | none => match s.queue.history.head? with
            | some q => x = (q.pair n).p2
            | none => x = min ((s.bar n).known.getD 0) (s.bar n).limit) →
        r.pair n = { p1 := x, p2 := x }) ∧
      (r.clamped = true ↔ ∃ n, n < 48 ∧
        (((s.bar n).enabled = true ∧ n < b.bars ∧
            ((s.bar n).limit < (s.builder.buffer.getD n 0).toNat % 256 ∨
              (s.bar n).limit < (s.builder.buffer.getD n 0).toNat / 256)) ∨
          (((s.bar n).enabled = false ∨ b.bars ≤ n) ∧ s.queue.records = [] ∧ s.queue.history = [] ∧
            (s.bar n).limit < (s.bar n).known.getD 0))) ∧
      (r.clamped = true → BothShow .clamped t) ∧ (r.longShog = true → BothShow .longShog t) ∧
      t.queue.backlog = s.queue.backlog ∧ t.queue.overrun = s.queue.overrun ∧
      (∀ front q, s.queue.records = front ++ [q] →
        r.number = q.number + 1 ∧ t.queue.history = s.queue.history ∧
        (q.articleEnd = false → t.queue.records = front ++ [q.finalized s r, r])) ∧
      (s.queue.records = [] → t.queue.records = [r] ∧
        (s.queue.history = [] → r.number = 0 ∧ t.queue.history = []) ∧
        ∀ q rest, s.queue.history = q :: rest → r.number = q.number + 1 ∧
          (q.isOpen = false → t.queue.history = s.queue.history) ∧
          (q.isOpen = true → q.articleEnd = false → t.queue.history = q.finalized s r :: rest)) ∧
      (∀ q, q.articleEnd = false → q.longShog = false → (q.finalized s r).longShog = true →
        s.queue.records.getLast? = some q ∨
          (s.queue.records = [] ∧ s.queue.history.head? = some q ∧ q.isOpen = true) → BothShow .longShog t) ∧
      (s.run.state = .running → t.governingCeiling < s.governingCeiling → BothShow .ceilingDrop t) ∧
      (∀ z targets, s.run.state = .placing → s.run.placement = some { zones := z, targets := some targets } →
        t.run = s.run ∧ t.bars = s.bars ∧ t.lanes = s.lanes) ∧
      ∀ (z : List Zone) (target : Nat → Option Nat), s.run.state = .placing →
        s.run.placement = some { zones := z, targets := none } →
        (∀ n, target n = if 0 < s.queue.backlog then t.queue.records.head?.map fun q => (q.pair n).p1
          else t.queue.zoneTarget (z.getD (s.bar n).lane .z0) n) →
        PlacesBars z target s.run s t

/-- The shog arithmetic (R76 to R80): move times, effective windows, the required period as the least period in which
the move fits its window, and P_o and P_u as the largest over the enabled bars. -/
def Obligations.RequiredPeriodsAreLeast : Prop :=
  (∀ (c : DriveClass) (d : Nat), moveTime c d = if d = 0 then 0 else c.base + c.perSpace * d) ∧
  (∀ t w p : Nat, 0 < w → (t * 4096 ≤ p * w ↔ requiredPeriod t w ≤ p)) ∧
  (∀ (k : MachineConstants) (g : Nat), validConstants k = true → g < 4 →
    64 ≤ overlapWindow k g ∧ overlapWindow k g + g * k.stagger = k.overlapEnd - k.overlapStart ∧
    64 ≤ underlapWindow k g ∧ underlapWindow k g + g * k.stagger = k.underlapEnd - k.underlapStart) ∧
  ∀ (s : State) (pairs next : List Pair) (p : Nat), s.bars.length = 48 → pairs.length = 48 → next.length = 48 →
    (s.overlapPeriod pairs ≤ p ↔ ∀ n, n < 48 → (s.bar n).enabled = true → ∀ x, pairs[n]? = some x →
      requiredPeriod (moveTime (s.driveClass (s.bar n).cls) (distance x.p1 x.p2))
        (overlapWindow s.constants (s.bar n).lane) ≤ p) ∧
    (s.underlapPeriod pairs next ≤ p ↔ ∀ n, n < 48 → (s.bar n).enabled = true →
      ∀ x y, pairs[n]? = some x → next[n]? = some y →
      requiredPeriod (moveTime (s.driveClass (s.bar n).cls) (distance x.p2 y.p1))
        (underlapWindow s.constants (s.bar n).lane) ≤ p)

/-- Ceilings (R81, R103): a record's ceiling lies in crawl rpm..max rpm; for P* = 0 it is max rpm; otherwise it is crawl rpm,
as a long shog, where even crawl rpm is above what P* allows, and else the largest speed, at most max rpm, whose product with
P* is at most 60,000,000; and in RUNNING with a record at the head the
governing ceiling is 0 where a marked record or the article's end lies inside the look-ahead, and otherwise the least
ceiling of the records there; in every other state it is 0. -/
def Obligations.CeilingsGovern : Prop :=
  (∀ (k : MachineConstants) (p : Nat), validConstants k = true →
    k.crawlRpm ≤ (ceilingFor k p).1 ∧ (ceilingFor k p).1 ≤ k.maxRpm ∧ (p = 0 → ceilingFor k p = (k.maxRpm, false)) ∧
    (0 < p →
      ((ceilingFor k p).2 = true ↔ 60000000 / p < k.crawlRpm) ∧
      ((ceilingFor k p).2 = true → (ceilingFor k p).1 = k.crawlRpm) ∧
      ((ceilingFor k p).2 = false → ∀ x, x ≤ (ceilingFor k p).1 ↔ x ≤ k.maxRpm ∧ x * p ≤ 60000000))) ∧
  ∀ s : State, validConstants s.constants = true →
    (s.run.state ≠ .running ∨ s.queue.records = [] → s.governingCeiling = 0) ∧
    (s.run.state = .running → s.queue.records ≠ [] →
      ((∃ i r, i + 1 < s.constants.lookAhead ∧ s.queue.records[i]? = some r ∧
          (r.stopMark = true ∨ r.articleEnd = true)) → s.governingCeiling = 0) ∧
      (s.builder.ended = true → s.queue.records.length < s.constants.lookAhead → s.governingCeiling = 0) ∧
      ((∀ i r, i + 1 < s.constants.lookAhead → s.queue.records[i]? = some r →
          r.stopMark = false ∧ r.articleEnd = false) →
        (s.builder.ended = true → s.constants.lookAhead ≤ s.queue.records.length) →
        ∀ x, x ≤ s.governingCeiling ↔ ∀ r ∈ s.queue.records.take s.constants.lookAhead, x ≤ r.ceiling) ∧
      (s.CeilingLaw → s.governingCeiling = 0 ∨
        (s.constants.crawlRpm ≤ s.governingCeiling ∧ s.governingCeiling ≤ s.constants.maxRpm)))

/-! ### Long operations (09) -/

/-- CHUNK (R25, R147, R148, R149, R150, R151, R153, R155): the cells of the chunk in its grant, in ascending order, and
no other cell; the progress; at the end of the operation, or of an aborted one, the release of the busy extents, the
result, the verified flag of a checked mapping, and OP_DONE to the owner alone; at the end of a chunk that the reset input
found in its grant, an IDLE engine of no kind with no result, and no OP_DONE; at the end of the start-up fill, the same;
and the grant that follows. The check register after those two is the model's choice (log entry 26) and is not stated. -/
def Obligations.ChunksDoTheirCells : Prop :=
  ∀ (op : Operation) (n : Nat) (s : State), MemoryWf s.memory → s.arbiter.grant = some .engine →
    s.engine.op = some op → s.engine.state ≠ .idle →
    n = min 256 (op.total - op.progress) → op.progress ≤ op.total →
    (match op.kind with
      | .fill _ _ => ∃ x, s.engine.extents = [x] ∧ x.first + op.total ≤ memorySize
      | .copy src dst => src + op.total ≤ memorySize ∧ dst + op.total ≤ memorySize ∧
          (src + op.total ≤ dst ∨ dst + op.total ≤ src)
      | .check _ _ m => m.base + op.total ≤ memorySize
      | .startUp => op.total ≤ memorySize) →
    ∃ t, exec .chunk s = .next t ∧
      t = { s with
        memory := t.memory, engine := t.engine, arbiter := t.arbiter, segments := t.segments, portM := t.portM,
        portD := t.portD } ∧
      (∀ a, readCell t.memory a = match op.kind with
        | .fill _ v => if (s.engine.extents.head?.map Extent.first).getD 0 + op.progress ≤ a ∧
            a < (s.engine.extents.head?.map Extent.first).getD 0 + op.progress + n then v else readCell s.memory a
        | .copy src dst => if dst + op.progress ≤ a ∧ a < dst + op.progress + n then readCell s.memory (src + (a - dst))
            else readCell s.memory a
        | .check _ _ _ => readCell s.memory a
        | .startUp => if op.progress ≤ a ∧ a < op.progress + n then 0 else readCell s.memory a) ∧
      (let goesOn : Prop := s.engine.resetStop = false ∧ s.engine.abortRequested = false ∧ op.progress + n < op.total
       (goesOn → s.engine.state = .active →
          t.arbiter = ({ s.arbiter with grant := none, chunkWaiting := true } : Arbiter).next) ∧
        (¬(goesOn ∧ s.engine.state = .active) → t.arbiter = ({ s.arbiter with grant := none } : Arbiter).next)) ∧
      (s.engine.resetStop = true →
        t.engine.state = .idle ∧ t.engine.op = none ∧ t.engine.result = .none ∧ t.engine.computed = none ∧
        t.busyExtents = [] ∧ t.engine.abortRequested = false ∧ t.engine.resetStop = false ∧
        t.segments = s.segments ∧ t.portM = s.portM ∧ t.portD = s.portD) ∧
      (s.engine.resetStop = false →
        (∀ g w m, op.kind = .check g w m → t.engine.register =
          ((List.range n).map fun i => readCell s.memory (m.base + op.progress + i)).foldl checkCell
            s.engine.register) ∧
        (s.engine.abortRequested = false → op.progress + n < op.total →
          t.engine.state = s.engine.state ∧ t.engine.op = some { op with progress := op.progress + n } ∧
          t.engine.extents = s.engine.extents ∧ t.engine.abortRequested = false ∧ t.engine.result = s.engine.result ∧
          t.segments = s.segments ∧ t.portM = s.portM ∧ t.portD = s.portD) ∧
        (s.engine.abortRequested = true ∨ op.progress + n = op.total →
          t.engine.state = .idle ∧ t.busyExtents = [] ∧ t.engine.abortRequested = false) ∧
        (∀ p, s.engine.abortRequested = true → op.owner = some p →
          t.engine.result = .aborted ∧ t.engine.op = some { op with progress := op.progress + n } ∧
          t.segments = s.segments ∧ t.port p = { s.port p with events := (s.port p).events ||| Event.opDone.flag } ∧
          t.port (otherPort p) = s.port (otherPort p)) ∧
        (∀ p, s.engine.abortRequested = false → op.progress + n = op.total → op.owner = some p → op.kind ≠ .startUp →
          t.engine.op = some { op with progress := op.total } ∧
          t.port p = { s.port p with events := (s.port p).events ||| Event.opDone.flag } ∧
          t.port (otherPort p) = s.port (otherPort p) ∧
          ((∀ g w m, op.kind ≠ .check g w m) → t.engine.result = .ok ∧ t.segments = s.segments) ∧
          ∀ g w m, op.kind = .check g w m →
            t.engine.computed = some t.engine.register ∧
            t.engine.result = (if t.engine.register = m.expected then .ok else .mismatch) ∧
            (s.engine.bound = none → t.segments = s.segments) ∧
            (∀ c x, g < s.segments.length → s.segment g = .mapped c x → s.engine.bound = some .current →
              t.segment g = .mapped { c with verified := decide (t.engine.register = m.expected) } x) ∧
            (∀ c x, g < s.segments.length → s.segment g = .mapped c (some x) → s.engine.bound = some .pending →
              t.segment g = .mapped c (some { x with verified := decide (t.engine.register = m.expected) })) ∧
            ∀ i, i ≠ g → t.segment i = s.segment i) ∧
        (s.engine.abortRequested = false → op.progress + n = op.total → op.kind = .startUp →
          t.engine.op = none ∧ t.engine.result = .none ∧ t.engine.computed = none ∧
          t.segments = s.segments ∧ t.portM = s.portM ∧ t.portD = s.portD))

/-- OP_FILL, OP_COPY and OP_CHECK (R48, R147, R148, R149, R150): their tests in order; an accepted operation is ACTIVE with
its busy extents and its first chunk asked for, and a FILL or COPY clears the verified flags of the mappings whose
extents meet its destination. -/
def Obligations.OperationsStart : Prop :=
  ∀ (p : Port) (s : State), s.accepts p →
    (∀ n v, ∃ t, exec (.opFill p n v) s = .next t ∧
      if 15 < n then Refuses p .badValue s t
      else if s.engine.state ≠ .idle then Refuses p .busy s t
      else if (s.region n).valid = false then Refuses p .noRegion s t
      else if (s.region n).lockDown ∨ (s.region n).holder = some (otherPort p) then Refuses p .locked s t
      else if ∃ x ∈ s.liveExtents, (s.region n).range.meets x then Refuses p .live s t
      else Accepts p { s with engine := t.engine, segments := t.segments, arbiter := t.arbiter } t ∧
        t.busyExtents = [(s.region n).range] ∧ t.engine.state = .active ∧ t.engine.abortRequested = false ∧
        t.engine.result = .none ∧ t.engine.computed = none ∧
        t.engine.op = some { kind := .fill n v, owner := some p, total := (s.region n).size, progress := 0 } ∧
        (∀ g, t.segment g = (s.segment g).unverifyIn (s.region n).range) ∧
        (0 < (s.region n).size → t.arbiter.chunkWaiting = true ∨ t.arbiter.grant = some .engine)) ∧
    (∀ src dst n, ∃ t, exec (.opCopy p src dst n) s = .next t ∧
      if n = 0 ∨ 65536 < n ∨ 1048575 < src ∨ 1048575 < dst ∨ 1048576 < src + n ∨ 1048576 < dst + n ∨
          (src < dst + n ∧ dst < src + n) then Refuses p .badValue s t
      else if s.engine.state ≠ .idle then Refuses p .busy s t
      else match s.regions.find? fun r => r.valid && r.range.holds dst with
        | none => Refuses p .noRegion s t
        | some r =>
          if ¬r.range.holds (dst + n - 1) then Refuses p .span s t
          else if r.lockDown ∨ r.holder = some (otherPort p) then Refuses p .locked s t
          else if ∃ x ∈ s.liveExtents, Extent.meets { first := dst, count := n } x then Refuses p .live s t
          else Accepts p { s with engine := t.engine, segments := t.segments, arbiter := t.arbiter } t ∧
            t.busyExtents = [{ first := src, count := n }, { first := dst, count := n }] ∧
            t.engine.state = .active ∧ t.engine.abortRequested = false ∧ t.engine.result = .none ∧
            t.engine.computed = none ∧
            t.engine.op = some { kind := .copy src dst, owner := some p, total := n, progress := 0 } ∧
            (∀ g, t.segment g = (s.segment g).unverifyIn { first := dst, count := n }) ∧
            (t.arbiter.chunkWaiting = true ∨ t.arbiter.grant = some .engine)) ∧
    ∀ g w, ∃ t, exec (.opCheck p g w) s = .next t ∧
      if 63 < g ∨ 1 < w then Refuses p .badValue s t
      else if s.engine.state ≠ .idle then Refuses p .busy s t
      else match (if w = 0 then (s.segment g).current else (s.segment g).pending) with
        | none => Refuses p .state s t
        | some m => Accepts p { s with engine := t.engine, arbiter := t.arbiter } t ∧
            t.busyExtents = [{ first := m.base, count := m.courses * m.bars }] ∧ t.engine.state = .active ∧
            t.engine.abortRequested = false ∧ t.engine.result = .none ∧ t.engine.computed = none ∧
            t.engine.register = 0xFFFF#16 ∧
            t.engine.bound = some (if w = 0 then .current else .pending) ∧
            (let kind := OpKind.check g (if w = 0 then .current else .pending) m
             t.engine.op = some { kind := kind, owner := some p, total := m.courses * m.bars, progress := 0 }) ∧
            (0 < m.courses * m.bars → t.arbiter.chunkWaiting = true ∨ t.arbiter.grant = some .engine)

/-- OP_SUSPEND, OP_RESUME and OP_ABORT (R152, R153): their tests in order; a suspended operation asks for no chunk and
lets the one in its grant end; an abort waits for the chunk in its grant, and otherwise ends the operation at once. -/
def Obligations.OperationsAreSuspendedResumedAndAborted : Prop :=
  ∀ (p : Port) (s : State), s.accepts p →
    (∃ t, exec (.opSuspend p) s = .next t ∧
      if s.engine.state = .idle then Refuses p .state s t
      else if ¬∃ op, s.engine.op = some op ∧ op.owner = some p then Refuses p .notOwner s t
      else if s.engine.abortRequested then Refuses p .state s t
      else if s.engine.state = .suspended then Accepts p s t
      else Accepts p { s with
        engine := { s.engine with state := .suspended }, arbiter := { s.arbiter with chunkWaiting := false } } t) ∧
    (∃ t, exec (.opResume p) s = .next t ∧
      if s.engine.state = .idle then Refuses p .state s t
      else if ¬∃ op, s.engine.op = some op ∧ op.owner = some p then Refuses p .notOwner s t
      else if s.engine.abortRequested then Refuses p .state s t
      else if s.engine.state = .active then Accepts p s t
      else Accepts p { s with engine := { s.engine with state := .active }, arbiter := t.arbiter } t ∧
        ∀ op, s.engine.op = some op → op.progress < op.total →
          t.arbiter.chunkWaiting = true ∨ t.arbiter.grant = some .engine) ∧
    (∃ t, exec (.opAbort p) s = .next t ∧
      if s.engine.state = .idle then Refuses p .state s t
      else if ¬∃ op, s.engine.op = some op ∧ op.owner = some p then Refuses p .notOwner s t
      else if s.engine.abortRequested then Accepts p s t
      else if s.arbiter.grant = some .engine then
        Accepts p { s with engine := { s.engine with abortRequested := true } } t
      else
        Accepts p { s.setPort p { s.port p with events := (s.port p).events ||| Event.opDone.flag } with
          engine := t.engine, arbiter := { s.arbiter with chunkWaiting := false } } t ∧
        t.engine.state = .idle ∧ t.engine.result = .aborted ∧ t.engine.op = s.engine.op ∧ t.busyExtents = [] ∧
        t.engine.computed = s.engine.computed ∧ t.engine.abortRequested = false)

/-- OP_STATUS (R154) in the layout of log entry 23: the state, the abort flag, the kind with the owner and the arguments,
the busy extents, the total and the progress, the last result and the computed check. That FILL's value takes two bytes
is the model's choice (log entry 41). -/
def Obligations.OperationStatusIsReported : Prop :=
  ∀ (p : Port) (s : State), s.accepts p →
    ∃ t data, exec (.opStatus p) s = .next t ∧ Answers p .ok data s t ∧
      data.take 2 = field1 (match s.engine.state with
        | .idle => 0
        | .active => 1
        | .suspended => 2) ++ fieldFlag s.engine.abortRequested ∧
      ∃ kind tail : List Byte, data.drop 2 = kind ++ tail ∧
        (∀ op owner, s.engine.op = some op →
          owner = (match op.owner with
            | some .m => 0
            | some .d => 1
            | none => 2) →
          kind = (match op.kind with
            | .fill n v => field1 0 ++ field1 owner ++ field1 n ++ field2 v.toNat
            | .copy src dst => field1 1 ++ field1 owner ++ field3 src ++ field3 dst ++ field3 op.total
            | .check g w m => field1 2 ++ field1 owner ++ field1 g ++ field1 (if w = .current then 0 else 1) ++
                field3 m.base ++ field2 m.courses ++ field1 m.bars ++ field2 m.expected.toNat
            | .startUp => field1 3 ++ field1 owner) ∧
          tail = (s.busyExtents.flatMap fun x => field3 x.first ++ field3 x.count) ++
            (field3 op.total ++ field3 op.progress) ++ field1 s.engine.result.code ++
            (match s.engine.computed with
              | some c => field2 c.toNat
              | none => [])) ∧
        (s.engine.op = none → kind.length = 1 ∧
          tail = (s.busyExtents.flatMap fun x => field3 x.first ++ field3 x.count) ++ field1 s.engine.result.code ++
            (match s.engine.computed with
              | some c => field2 c.toNat
              | none => []))

/-! ### Bars and classes (07) -/

/-- SET_CLASS and SET_BAR (R108, R109, R110): their tests in order, and the new class record and bar configuration, with
the bar OFF when disabled and LOST when it is enabled anew or moved to another lane or address. -/
def Obligations.ClassesAndBarsAreConfigured : Prop :=
  ∀ s : State, s.accepts .m →
    (∀ c base perSpace, ∃ t, exec (.setClass .m c base perSpace) s = .next t ∧
      if s.run.state ≠ .halted then Refuses .m .state s t
      else if 3 < c ∨ 20000 < base ∨ perSpace = 0 ∨ 20000 < perSpace then Refuses .m .badValue s t
      else Accepts .m { s with classes := s.classes.set c { base := base, perSpace := perSpace } } t) ∧
    ∀ b enabled lane address cls limit, ∃ t, exec (.setBar .m b enabled lane address cls limit) s = .next t ∧
      if s.run.state ≠ .halted then Refuses .m .state s t
      else if 47 < b ∨ 3 < lane ∨ 15 < address ∨ 3 < cls ∨ limit = 0 ∨ 127 < limit ∨ 1 < enabled then
        Refuses .m .badValue s t
      else if (s.bar b).outstanding = true then Refuses .m .busy s t
      else if enabled = 1 ∧ 16 ≤ ((List.range 48).filter fun n =>
          n != b && (s.bar n).enabled && (s.bar n).lane == lane).length then Refuses .m .badValue s t
      else if enabled = 1 ∧ ∃ n ∈ List.range 48, n ≠ b ∧ (s.bar n).enabled = true ∧ (s.bar n).lane = lane ∧
          (s.bar n).address = address then Refuses .m .duplicate s t
      else
        let lost := (s.bar b).enabled = false ∨ (s.bar b).lane ≠ lane ∨ (s.bar b).address ≠ address
        let x : Bar := { s.bar b with lane := lane, address := address, cls := cls, limit := limit }
        (enabled = 0 → Accepts .m (s.setBar b { x with enabled := false, handshake := .off }) t) ∧
        (enabled = 1 → lost → Accepts .m (s.setBar b { x with enabled := true, handshake := .lost, known := none }) t) ∧
        (enabled = 1 → ¬lost → Accepts .m (s.setBar b { x with enabled := true }) t)

/-- GET_BAR and QUEUE_READ (R106, R111): what they return, in the widths of section 10.8. The order fields follow only
while an order is outstanding (log entry 22). The numbering of enumerations is the model's reading (log entry 20). -/
def Obligations.BarsAndRecordsAreReadBack : Prop :=
  ∀ (p : Port) (s : State), s.accepts p →
    (∀ b, ∃ t, exec (.getBar p b) s = .next t ∧
      if 47 < b then Refuses p .badValue s t
      else ∃ rest, Answers p .ok
        (fieldFlag (s.bar b).enabled ++ field1 (s.bar b).lane ++ field1 (s.bar b).address ++ field1 (s.bar b).cls ++
          field1 (s.bar b).limit ++ field1 ((s.bar b).known.getD 0xFF) ++
          field1 (match (s.bar b).handshake with
            | .off => 0
            | .idle => 1
            | .posted _ => 2
            | .moving _ => 3
            | .lost => 4) ++ field1 (s.bar b).driveCode ++ rest) s t ∧
        ((s.bar b).outstanding = false → rest = []) ∧
        ∀ c, (s.bar b).handshake = .posted c ∨ (s.bar b).handshake = .moving c →
          rest = field1 (if c.order.kind = .move then 0 else 1) ++ field1 c.order.target ++
            field1 (match c.order.deadline with
              | some .overlapEnd => 0
              | some .underlapEnd => 1
              | none => 2) ++ fieldFlag c.held ++ field1 (c.origin.getD 0xFF) ++ field1 (c.lastTaken.getD 0xFF) ++
            field1 ((if c.takeTimer.isSome then 1 else 0) + (if c.moveTimer.isSome then 2 else 0))) ∧
    ∀ list index records, records = (if list = 0 then s.queue.records else s.queue.history) →
      ∃ t, exec (.queueRead p list index) s = .next t ∧
      (1 < list ∨ records.length ≤ index → Refuses p .badValue s t) ∧
      ∀ r, list ≤ 1 → records[index]? = some r → Answers p .ok
        (field1 records.length ++ (field4 r.number ++ field1 r.origin.entry ++ field2 r.origin.iteration ++
          field2 r.origin.course ++ field1 r.segment ++ (r.pairs.flatMap fun x => field1 x.p1 ++ field1 x.p2) ++
          field4 r.overlapPeriod ++ field4 (r.underlapPeriod.getD 0xFFFFFFFF) ++ field2 r.ceiling ++
          field1 ((if r.isOpen then 1 else 0) + (if r.segmentStart then 2 else 0) + (if r.stopMark then 4 else 0) +
            (if r.articleEnd then 8 else 0) + (if r.remapped then 16 else 0) + (if r.clamped then 32 else 0) +
            (if r.longShog then 64 else 0)))) s t

/-- HOME and PLACE_BAR (R117, R125, R126, R129): each completes in every state in which port M's command is judged, with
its tests in their order. With the source ENCODER a HOME is posted to the bar, or to every enabled bar, by the bar's
state (Ordered): from IDLE and LOST a chain begins and an entry joins the lane's queue; an unsent entry is replaced in
place; a sent one is held behind; a move is superseded. With the source SIMULATED the bar is IDLE at the target at
once. A chain's origin at a HOME is the model's reading (log entry 17), as are when an entry is sent (log entry 14) and
the byte that names the bar in PLACE_BAR's NOT_HOMED (log entry 39). Where several bars of a lane are ordered at once, the
premise Transmits is R116's law, which every step keeps (StepsKeepTheBarAndLaneLaws). -/
def Obligations.BarsAreHomedAndPlaced : Prop :=
  ∀ (b : Nat) (s : State), s.accepts .m →
    (∃ t, exec (.home .m b) s = .next t ∧
      if s.run.state ≠ .halted ∧ s.run.state ≠ .faulted then Refuses .m .state s t
      else if 47 < b ∧ b ≠ 255 then Refuses .m .badValue s t
      else if b ≠ 255 ∧ (s.bar b).enabled = false then Refuses .m .state s t
      else Accepts .m { s with bars := t.bars, lanes := t.lanes } t ∧
        (∀ n, n < 48 → n < s.bars.length → (n = b ∨ (b = 255 ∧ (s.bar n).enabled = true)) →
          (s.bar n).handshake ≠ .off →
          (s.tracker.source = .simulated → t.bar n = { s.bar n with known := some 0, handshake := .idle }) ∧
          (s.tracker.source = .encoder → (s.bar n).lane < s.lanes.length →
            (b = 255 → ∀ c, (s.bar n).handshake = .posted c → (s.lane (s.bar n).lane).Transmits) →
            Ordered n { kind := .home, target := 0, deadline := none } s t)) ∧
        (∀ g, b ≠ 255 → s.tracker.source = .encoder → g = (s.bar b).lane → g < s.lanes.length →
          (s.bar b).handshake ≠ .off → (∀ i, i ≠ g → t.lane i = s.lane i) ∧
          (∀ c, (s.bar b).handshake = .posted c →
            ((s.lane g).sentIs b = true → t.lane g = s.lane g) ∧
            ((s.lane g).sentIs b = false → t.lane g = { s.lane g with
              queue := (s.lane g).queue.map fun e => if e.bar = b then { e with kind := .home, target := 0 } else e })) ∧
          ((∀ c, (s.bar b).handshake ≠ .posted c) →
            (t.lane g).queue = (s.lane g).queue ++ [{ bar := b, kind := .home, target := 0 }])) ∧
        (s.tracker.source = .simulated → t.lanes = s.lanes) ∧
        (∀ n, ¬(n = b ∨ (b = 255 ∧ (s.bar n).enabled = true ∧ n < 48)) → t.bar n = s.bar n)) ∧
    ∀ x, ∃ t, exec (.placeBar .m b x) s = .next t ∧
      if s.run.state ≠ .halted then Refuses .m .state s t
      else if 47 < b ∨ (s.bar b).limit < x then Refuses .m .badValue s t
      else if (s.bar b).enabled = false then Refuses .m .state s t
      else if (s.bar b).handshake = .lost then Answers .m .notHomed (field1 b) s t
      else if (s.bar b).outstanding = true then Refuses .m .busy s t
      else (s.bar b).handshake = .idle →
        ((s.bar b).known = some x → Accepts .m s t) ∧
        ((s.bar b).known ≠ some x → s.tracker.source = .simulated →
          Accepts .m (s.setBar b { s.bar b with known := some x, handshake := .idle }) t) ∧
        ((s.bar b).known ≠ some x → s.tracker.source = .encoder →
          Accepts .m { s with bars := t.bars, lanes := t.lanes } t ∧ (∀ n, n ≠ b → t.bar n = s.bar n) ∧
          (b < s.bars.length →
            (let order : Order := { kind := .move, target := x, deadline := none }
             t.bar b = { s.bar b with handshake := .posted (.begin order (s.bar b).known) })) ∧
          ((s.bar b).lane < s.lanes.length →
            (t.lane (s.bar b).lane).queue =
              (s.lane (s.bar b).lane).queue ++ [{ bar := b, kind := .move, target := x }]))

/-! ### Run control (08) -/

/-- ARM and RESUME (R6, R59, R98, R131 to R134, R138): their tests in order, with the bar or segment that a refusal names; an
accepted ARM sets the builder position and enters PLACING with every group in Z0 and no targets; an accepted RESUME
empties the fault record and begins a placement from the present angle, which keeps the queue, the builder and the stop
causes, and waits while the queue is empty. The zones are R6's at that angle; the targets are the head's p1 while the
retreat backlog is not 0 and for a group in Z0, its p2 in Z1, and in Z2 the second record's p1, or the head's p2 where it is
alone and carries ARTICLE_END (R98); and the orders that follow, with the entry to RUNNING, are those of PlacesBars (R133,
R134). The premises Transmits and lane < 4 are laws that every step keeps (StepsKeepTheBarAndLaneLaws). -/
def Obligations.RunsAreArmedAndResumed : Prop :=
  (∀ (e r c : Nat) (s : State), s.accepts .m →
    ∃ t, exec (.arm .m e r c) s = .next t ∧
      if s.run.state ≠ .halted then Refuses .m .state s t
      else if s.tracker.motion ≠ .still then Refuses .m .moving s t
      else if s.angle = none ∨ ∃ a ∈ s.angle.toList, s.constants.overlapStart ≤ a then Refuses .m .angle s t
      else if s.sequence.length ≤ e ∨ (s.seqEntry e).repeats ≤ r ∨
          (∃ m ∈ (s.segment (s.seqEntry e).segment).current.toList, m.courses ≤ c) then Refuses .m .badValue s t
      else match s.sequence.segments.find? fun g => match s.segment g with
          | .empty => true
          | .mapped m _ => !m.verified with
        | some g => Answers .m .unverified (field1 g) s t
        | none =>
          if ∀ b ∈ List.range 48, (s.bar b).enabled = false then Refuses .m .badValue s t
          else match (List.range 48).find? fun b => (s.bar b).enabled && !(s.bar b).homed with
            | some b => Answers .m .notHomed (field1 b) s t
            | none =>
              if ∃ b ∈ List.range 48, (s.bar b).enabled = true ∧ (s.bar b).outstanding = true then
                Refuses .m .busy s t
              else if ∃ x ∈ s.articleExtents, ∃ y ∈ s.busyExtents, x.meets y then Refuses .m .busyRegion s t
              else
                let position : Position := { entry := e, iteration := r, course := c }
                let placement : Placement := { zones := [.z0, .z0, .z0, .z0], targets := none }
                s.queue.records = [] → Accepts .m { s with
                  builder := { s.builder with position := position, ended := false }
                  run := { s.run with state := .placing, placement := some placement } } t) ∧
  ∀ s : State, s.accepts .m →
    ∃ t, exec (.resume .m) s = .next t ∧
      if s.run.state ≠ .faulted then Refuses .m .state s t
      else if s.tracker.motion ≠ .still then Refuses .m .moving s t
      else if s.angle = none then Refuses .m .angle s t
      else if s.queue.records = [] ∧ s.builder.ended = true then Refuses .m .state s t
      else match (List.range 48).find? fun b => (s.bar b).enabled && !(s.bar b).homed with
        | some b => Answers .m .notHomed (field1 b) s t
        | none =>
          t = { s with run := t.run, bars := t.bars, lanes := t.lanes, portM := t.portM, portD := t.portD } ∧
          KeepsCells s t ∧ (t.port .m).slot = .ready { status := .ok, data := [] } ∧ t.run.fault = none ∧
          t.run.causes = s.run.causes ∧ (t.run.state = .placing ∨ (t.run.state = .running ∧ BothShow .placed t)) ∧
          (t.run.state = .placing → ∃ x, t.run.placement = some x ∧
            ∀ a, s.angle = some a → x.zones = (List.range 4).map fun g =>
              if a < s.constants.overlapStart + g * s.constants.stagger then .z0
              else if a < s.constants.underlapStart + g * s.constants.stagger then .z1 else .z2) ∧
          (s.queue.records = [] → (∃ b, b < 48 ∧ (s.bar b).enabled = true) →
            t.run.state = .placing ∧ t.bars = s.bars ∧ t.lanes = s.lanes) ∧
          (∀ r, s.queue.records.head? = some r → 0 < s.queue.backlog → s.bars.length = 48 →
            (∀ b, b < 48 → (s.bar b).enabled = true → (s.bar b).handshake = .idle) →
            ∀ b, b < 48 → (s.bar b).enabled = true → (t.bar b).standing = some (r.pair b).p1) ∧
          ∀ (a : Nat) (zones : List Zone) (target : Nat → Option Nat), s.angle = some a →
            (∀ n, n < 48 → (s.bar n).enabled = true → (s.bar n).lane < 4) →
            zones = ((List.range 4).map fun g =>
              if a < s.constants.overlapStart + g * s.constants.stagger then .z0
              else if a < s.constants.underlapStart + g * s.constants.stagger then .z1 else .z2) →
            (∀ n, target n = match s.queue.records with
              | [] => none
              | r :: rest =>
                if 0 < s.queue.backlog ∨ a < s.constants.overlapStart + (s.bar n).lane * s.constants.stagger then
                  some (r.pair n).p1
                else if a < s.constants.underlapStart + (s.bar n).lane * s.constants.stagger then some (r.pair n).p2
                else match rest with
                  | next :: _ => some (next.pair n).p1
                  | [] => if r.articleEnd = true then some (r.pair n).p2 else none) →
            (let placing : Placement := { zones := zones, targets := none }
             PlacesBars zones target { s.run with state := .placing, placement := some placing, fault := none } s t)

/-- DISARM, RESTART, CLEAR_STOP and CONTINUE (R92, R105, R127, R139, R140, R142, R144): the tests in order, the return to
HALTED, the purge that RESTART makes, the emptied stop cause set, and the first mark from the head cleared, which raises
no event. What the taking of the command does to port M itself, the record of the bytes shifted out among it, is the
model's (log entry 19). -/
def Obligations.RunsAreLeftAndContinued : Prop :=
  ∀ (q : CourseQueue) (builder : Builder) (run : RunControl) (arbiter : Arbiter) (s : State), s.accepts .m →
    q = { records := [], history := [], backlog := 0, overrun := 0 } →
    builder = { position := { entry := 0, iteration := 0, course := 0 }, ended := false, build := none, buffer := [] } →
    run = { state := .halted, placement := none, causes := .empty, fault := none } →
    arbiter = { s.arbiter with fetchWaiting := false } →
    (∃ t, exec (.disarm .m) s = .next t ∧
      if s.run.state = .halted ∨ s.run.state = .placing then Refuses .m .state s t
      else if s.tracker.motion ≠ .still then Refuses .m .moving s t
      else if ∃ b ∈ List.range 48, (s.bar b).enabled = true ∧ (s.bar b).outstanding = true then Refuses .m .busy s t
      else Accepts .m { s with queue := q, builder := builder, run := run, arbiter := arbiter } t) ∧
    (∃ t, exec (.restart .m) s = .next t ∧ (t.port .m).slot = .ready { status := .ok, data := [] } ∧
      OnlyRaises { s with portM := { s.portM with
        transaction := t.portM.transaction, slot := t.portM.slot, discard := t.portM.discard,
        shiftedOut := t.portM.shiftedOut } } t ∧
      KeepsCells s t ∧
      t = { s with
        queue := q, builder := builder, run := run, arbiter := arbiter, bars := t.bars, lanes := t.lanes,
        portM := t.portM, portD := t.portD } ∧
      (∀ b, t.bar b =
        if (s.bar b).outstanding then { s.bar b with handshake := .lost, known := none } else s.bar b) ∧
      (∀ g, t.lane g = { s.lane g with queue := [], awaiting := false }) ∧
      ((∃ b, b < s.bars.length ∧ (s.bar b).outstanding = true) → BothShow .barLost t)) ∧
    (∃ t, exec (.clearStop .m) s = .next t ∧
      Accepts .m { s with run := { s.run with
        causes := { late := false, mark := false, overrun := false, backoff := false } } } t) ∧
    ∃ t, exec (.continueRun .m) s = .next t ∧
      ((∀ r ∈ s.queue.records, r.stopMark = false) → Accepts .m s t) ∧
      ∀ front r rest, s.queue.records = front ++ r :: rest → (∀ x ∈ front, x.stopMark = false) → r.stopMark = true →
        Accepts .m { s with queue := { s.queue with
          records := front ++ { r with stopMark := false } :: rest } } t

/-! ### Laws that every step keeps -/

/-- Every step keeps pattern memory in its canonical form, inside 0..1,048,575 (R19). -/
def Obligations.StepsKeepTheMemoryCanonical : Prop :=
  ∀ s t : State, MemoryWf s.memory → step s = .next t → MemoryWf t.memory

/-- Every step keeps the law of the queue (R89), the law of the backlog (R101) and the law of course numbers (R91). -/
def Obligations.StepsKeepTheQueueLaws : Prop :=
  ∀ s t : State, step s = .next t →
    (s.QueueLaw → t.QueueLaw) ∧ (s.BacklogLaw → t.BacklogLaw) ∧ (s.CourseNumberLaw → t.CourseNumberLaw)

/-- Every step keeps valid regions apart (R28) and lock-down on valid held regions (R27); and only POWER_UP releases a
region that is locked down (R34). -/
def Obligations.StepsKeepTheRegionLaws : Prop :=
  ∀ s t : State, step s = .next t →
    (s.RegionLaw → t.RegionLaw) ∧ (s.LockLaw → t.LockLaw) ∧
    (s.LockLaw → ∀ n, (s.region n).lockDown = true → (∀ rest, s.pending ≠ .powerUp :: rest) → t.region n = s.region n)

/-- Every step keeps the machine constants valid with the counter inside the revolution (R1, R13, R17), the queue and
the builder cleared in HALTED (R92), and every record's ceiling between crawl rpm and max rpm (R81). -/
def Obligations.StepsKeepConstantsAndCeilings : Prop :=
  ∀ s t : State, step s = .next t →
    (s.TrackerLaw → t.TrackerLaw) ∧ (s.HaltedLaw → t.HaltedLaw) ∧
    (s.TrackerLaw → s.HaltedLaw → s.CeilingLaw → t.CeilingLaw)

/-- Every step keeps the configuration law of the bars (R109) and the law of the lane queues (R116); no step leaves a lane
free with entries in its queue (R116); and every step keeps the tables' sizes (log entry 27) and every bar on one of the
four lanes (R107). -/
def Obligations.StepsKeepTheBarAndLaneLaws : Prop :=
  ∀ s t : State, step s = .next t →
    (s.BarLaw → s.LaneLaw → s.LaneEntriesLaw → t.BarLaw ∧ t.LaneLaw ∧ t.LaneEntriesLaw) ∧
    (s.LaneTransmitsLaw → t.LaneTransmitsLaw) ∧ (s.TableLaw → t.TableLaw)

/-- The live guard (R36): every step keeps what guards the live extents, and no step but POWER_UP changes a cell of a
live extent. -/
def Obligations.StepsGuardTheLiveExtents : Prop :=
  ∀ s t : State, s.EngineLaw → step s = .next t →
    t.EngineLaw ∧ ((∀ rest, s.pending ≠ .powerUp :: rest) → ∀ a, ∀ x ∈ s.liveExtents, x.holds a = true →
      readCell t.memory a = readCell s.memory a)

/-- R143: a step raises STOP_REQUEST in both ports when it takes the stop-request output from released to asserted, and
sets its flag on no other step. -/
def Obligations.StopRequestIsRaisedOnAssertion : Prop :=
  ∀ s t : State, step s = .next t →
    (s.stopRequested = false → t.stopRequested = true → BothShow .stopRequest t) ∧
    ∀ p, Event.stopRequest.isIn (s.port p).events = false → Event.stopRequest.isIn (t.port p).events = true →
      s.stopRequested = false ∧ t.stopRequested = true

/-- R161: an event flag stays set until an EVENTS_CLEAR of its own port names it, or the reset input or POWER_UP. -/
def Obligations.EventFlagsStayUntilCleared : Prop :=
  ∀ (c : Instr) (p : Port) (e : Event) (s t : State), exec c s = .next t → e.isIn (s.port p).events = true →
    e.isIn (t.port p).events = false →
    c = .powerUp ∨ c = .resetInput ∨ ∃ mask, c = .eventsClear p mask ∧ e.isIn mask = true
end

