-- ==== Sys2Proof/Laws/Frames.lean ====
section
/-! SUPPORT. Fields of command frames: their lengths, and that each field reads back as the number it was made from. -/

namespace Sys2Proof.Machine

@[simp] theorem field1_length (n : Nat) : (field1 n).length = 1 := rfl
@[simp] theorem field2_length (n : Nat) : (field2 n).length = 2 := rfl
@[simp] theorem field3_length (n : Nat) : (field3 n).length = 3 := rfl
@[simp] theorem field4_length (n : Nat) : (field4 n).length = 4 := rfl

/-- Each cell takes two bytes. -/
@[simp] theorem cellBytes_length (cells : List Cell) : (cellBytes cells).length = 2 * cells.length := by
  induction cells with
  | nil => rfl
  | cons c rest ih =>
    simp only [cellBytes, List.flatMap_cons, List.length_append, field2_length, List.length_cons] at ih ⊢
    omega

/-- A number below 256 reads back from its one-byte field. -/
theorem fieldValue_field1 {n : Nat} (h : n < 256) : fieldValue (field1 n) = n := by
  simp only [field1, fieldValue, List.foldl_cons, List.foldl_nil, BitVec.toNat_ofNat]
  omega

/-- A number below 65,536 reads back from its two-byte field. -/
theorem fieldValue_field2 {n : Nat} (h : n < 65536) : fieldValue (field2 n) = n := by
  simp only [field2, fieldValue, List.foldl_cons, List.foldl_nil, BitVec.toNat_ofNat]
  omega

/-- A number below 16,777,216 reads back from its three-byte field. -/
theorem fieldValue_field3 {n : Nat} (h : n < 16777216) : fieldValue (field3 n) = n := by
  simp only [field3, field2, fieldValue, List.foldl_cons, List.foldl_nil, BitVec.toNat_ofNat]
  omega

/-- Cells read back from their bytes. -/
@[simp] theorem cellsOfBytes_cellBytes (cells : List Cell) : cellsOfBytes (cellBytes cells) = cells := by
  induction cells with
  | nil => rfl
  | cons c rest ih =>
    have h : cellBytes (c :: rest) = BitVec.ofNat 8 (c.toNat / 256) :: BitVec.ofNat 8 c.toNat :: cellBytes rest := rfl
    rw [h]
    simp only [cellsOfBytes, ih]
    have v := fieldValue_field2 c.isLt
    simp only [field2] at v
    rw [v]
    simp

end Sys2Proof.Machine
end

