-- ==== Sys2Proof/Laws/State.lean ====
section
/-! SUPPORT. What each update of the state leaves in each field: one lemma per field per update, so that no later proof
unfolds a record update; and what the ports hold after each update. -/

namespace Sys2Proof.Machine

/-! ### Reading one part of the state -/

theorem State.port_m (s : State) : s.port .m = s.portM := rfl
theorem State.port_d (s : State) : s.port .d = s.portD := rfl

@[simp] theorem otherPort_m : otherPort .m = .d := rfl
@[simp] theorem otherPort_d : otherPort .d = .m := rfl
@[simp] theorem otherPort_ne (p : Port) : otherPort p ≠ p := by cases p <;> decide
@[simp] theorem ne_otherPort (p : Port) : p ≠ otherPort p := by cases p <;> decide
@[simp] theorem otherPort_otherPort (p : Port) : otherPort (otherPort p) = p := by cases p <;> rfl

/-- A port is `p` or the other one. -/
theorem port_cases (p q : Port) : q = p ∨ q = otherPort p := by cases p <;> cases q <;> decide

/-! ### Ports -/

@[simp] theorem State.setPort_pending (p : Port) (x : PortState) (s : State) : (State.setPort p x s).pending = s.pending := by cases p <;> rfl
@[simp] theorem State.setPort_now (p : Port) (x : PortState) (s : State) : (State.setPort p x s).now = s.now := by cases p <;> rfl
@[simp] theorem State.setPort_resetHeld (p : Port) (x : PortState) (s : State) : (State.setPort p x s).resetHeld = s.resetHeld := by cases p <;> rfl
@[simp] theorem State.setPort_tracker (p : Port) (x : PortState) (s : State) : (State.setPort p x s).tracker = s.tracker := by cases p <;> rfl
@[simp] theorem State.setPort_constants (p : Port) (x : PortState) (s : State) : (State.setPort p x s).constants = s.constants := by cases p <;> rfl
@[simp] theorem State.setPort_memory (p : Port) (x : PortState) (s : State) : (State.setPort p x s).memory = s.memory := by cases p <;> rfl
@[simp] theorem State.setPort_arbiter (p : Port) (x : PortState) (s : State) : (State.setPort p x s).arbiter = s.arbiter := by cases p <;> rfl
@[simp] theorem State.setPort_regions (p : Port) (x : PortState) (s : State) : (State.setPort p x s).regions = s.regions := by cases p <;> rfl
@[simp] theorem State.setPort_segments (p : Port) (x : PortState) (s : State) : (State.setPort p x s).segments = s.segments := by cases p <;> rfl
@[simp] theorem State.setPort_sequence (p : Port) (x : PortState) (s : State) : (State.setPort p x s).sequence = s.sequence := by cases p <;> rfl
@[simp] theorem State.setPort_builder (p : Port) (x : PortState) (s : State) : (State.setPort p x s).builder = s.builder := by cases p <;> rfl
@[simp] theorem State.setPort_queue (p : Port) (x : PortState) (s : State) : (State.setPort p x s).queue = s.queue := by cases p <;> rfl
@[simp] theorem State.setPort_bars (p : Port) (x : PortState) (s : State) : (State.setPort p x s).bars = s.bars := by cases p <;> rfl
@[simp] theorem State.setPort_classes (p : Port) (x : PortState) (s : State) : (State.setPort p x s).classes = s.classes := by cases p <;> rfl
@[simp] theorem State.setPort_lanes (p : Port) (x : PortState) (s : State) : (State.setPort p x s).lanes = s.lanes := by cases p <;> rfl
@[simp] theorem State.setPort_run (p : Port) (x : PortState) (s : State) : (State.setPort p x s).run = s.run := by cases p <;> rfl
@[simp] theorem State.setPort_engine (p : Port) (x : PortState) (s : State) : (State.setPort p x s).engine = s.engine := by cases p <;> rfl

@[simp] theorem State.setPort_port (p : Port) (x : PortState) (s : State) : (s.setPort p x).port p = x := by cases p <;> rfl
@[simp] theorem State.setPort_port_other (p : Port) (x : PortState) (s : State) :
    (s.setPort p x).port (otherPort p) = s.port (otherPort p) := by cases p <;> rfl
@[simp] theorem State.setPort_setPort (p : Port) (x y : PortState) (s : State) :
    (s.setPort p x).setPort p y = s.setPort p y := by cases p <;> rfl
@[simp] theorem State.setPort_same (p : Port) (s : State) : s.setPort p (s.port p) = s := by cases p <;> rfl

/-! ### A whole frame has arrived -/

@[simp] theorem State.receive_pending (p : Port) (f : List Byte) (s : State) : (State.receive p f s).pending = s.pending := by cases p <;> rfl
@[simp] theorem State.receive_now (p : Port) (f : List Byte) (s : State) : (State.receive p f s).now = s.now := by cases p <;> rfl
@[simp] theorem State.receive_resetHeld (p : Port) (f : List Byte) (s : State) : (State.receive p f s).resetHeld = s.resetHeld := by cases p <;> rfl
@[simp] theorem State.receive_tracker (p : Port) (f : List Byte) (s : State) : (State.receive p f s).tracker = s.tracker := by cases p <;> rfl
@[simp] theorem State.receive_constants (p : Port) (f : List Byte) (s : State) : (State.receive p f s).constants = s.constants := by cases p <;> rfl
@[simp] theorem State.receive_memory (p : Port) (f : List Byte) (s : State) : (State.receive p f s).memory = s.memory := by cases p <;> rfl
@[simp] theorem State.receive_arbiter (p : Port) (f : List Byte) (s : State) : (State.receive p f s).arbiter = s.arbiter := by cases p <;> rfl
@[simp] theorem State.receive_regions (p : Port) (f : List Byte) (s : State) : (State.receive p f s).regions = s.regions := by cases p <;> rfl
@[simp] theorem State.receive_segments (p : Port) (f : List Byte) (s : State) : (State.receive p f s).segments = s.segments := by cases p <;> rfl
@[simp] theorem State.receive_sequence (p : Port) (f : List Byte) (s : State) : (State.receive p f s).sequence = s.sequence := by cases p <;> rfl
@[simp] theorem State.receive_builder (p : Port) (f : List Byte) (s : State) : (State.receive p f s).builder = s.builder := by cases p <;> rfl
@[simp] theorem State.receive_queue (p : Port) (f : List Byte) (s : State) : (State.receive p f s).queue = s.queue := by cases p <;> rfl
@[simp] theorem State.receive_bars (p : Port) (f : List Byte) (s : State) : (State.receive p f s).bars = s.bars := by cases p <;> rfl
@[simp] theorem State.receive_classes (p : Port) (f : List Byte) (s : State) : (State.receive p f s).classes = s.classes := by cases p <;> rfl
@[simp] theorem State.receive_lanes (p : Port) (f : List Byte) (s : State) : (State.receive p f s).lanes = s.lanes := by cases p <;> rfl
@[simp] theorem State.receive_run (p : Port) (f : List Byte) (s : State) : (State.receive p f s).run = s.run := by cases p <;> rfl
@[simp] theorem State.receive_engine (p : Port) (f : List Byte) (s : State) : (State.receive p f s).engine = s.engine := by cases p <;> rfl

/-! ### The reply slot -/

@[simp] theorem State.setSlot_pending (p : Port) (x : Slot) (s : State) : (State.setSlot p x s).pending = s.pending := by cases p <;> rfl
@[simp] theorem State.setSlot_now (p : Port) (x : Slot) (s : State) : (State.setSlot p x s).now = s.now := by cases p <;> rfl
@[simp] theorem State.setSlot_resetHeld (p : Port) (x : Slot) (s : State) : (State.setSlot p x s).resetHeld = s.resetHeld := by cases p <;> rfl
@[simp] theorem State.setSlot_tracker (p : Port) (x : Slot) (s : State) : (State.setSlot p x s).tracker = s.tracker := by cases p <;> rfl
@[simp] theorem State.setSlot_constants (p : Port) (x : Slot) (s : State) : (State.setSlot p x s).constants = s.constants := by cases p <;> rfl
@[simp] theorem State.setSlot_memory (p : Port) (x : Slot) (s : State) : (State.setSlot p x s).memory = s.memory := by cases p <;> rfl
@[simp] theorem State.setSlot_arbiter (p : Port) (x : Slot) (s : State) : (State.setSlot p x s).arbiter = s.arbiter := by cases p <;> rfl
@[simp] theorem State.setSlot_regions (p : Port) (x : Slot) (s : State) : (State.setSlot p x s).regions = s.regions := by cases p <;> rfl
@[simp] theorem State.setSlot_segments (p : Port) (x : Slot) (s : State) : (State.setSlot p x s).segments = s.segments := by cases p <;> rfl
@[simp] theorem State.setSlot_sequence (p : Port) (x : Slot) (s : State) : (State.setSlot p x s).sequence = s.sequence := by cases p <;> rfl
@[simp] theorem State.setSlot_builder (p : Port) (x : Slot) (s : State) : (State.setSlot p x s).builder = s.builder := by cases p <;> rfl
@[simp] theorem State.setSlot_queue (p : Port) (x : Slot) (s : State) : (State.setSlot p x s).queue = s.queue := by cases p <;> rfl
@[simp] theorem State.setSlot_bars (p : Port) (x : Slot) (s : State) : (State.setSlot p x s).bars = s.bars := by cases p <;> rfl
@[simp] theorem State.setSlot_classes (p : Port) (x : Slot) (s : State) : (State.setSlot p x s).classes = s.classes := by cases p <;> rfl
@[simp] theorem State.setSlot_lanes (p : Port) (x : Slot) (s : State) : (State.setSlot p x s).lanes = s.lanes := by cases p <;> rfl
@[simp] theorem State.setSlot_run (p : Port) (x : Slot) (s : State) : (State.setSlot p x s).run = s.run := by cases p <;> rfl
@[simp] theorem State.setSlot_engine (p : Port) (x : Slot) (s : State) : (State.setSlot p x s).engine = s.engine := by cases p <;> rfl

/-! ### Events -/

@[simp] theorem State.raise_pending (e : Event) (s : State) : (State.raise e s).pending = s.pending := rfl
@[simp] theorem State.raise_now (e : Event) (s : State) : (State.raise e s).now = s.now := rfl
@[simp] theorem State.raise_resetHeld (e : Event) (s : State) : (State.raise e s).resetHeld = s.resetHeld := rfl
@[simp] theorem State.raise_tracker (e : Event) (s : State) : (State.raise e s).tracker = s.tracker := rfl
@[simp] theorem State.raise_constants (e : Event) (s : State) : (State.raise e s).constants = s.constants := rfl
@[simp] theorem State.raise_memory (e : Event) (s : State) : (State.raise e s).memory = s.memory := rfl
@[simp] theorem State.raise_arbiter (e : Event) (s : State) : (State.raise e s).arbiter = s.arbiter := rfl
@[simp] theorem State.raise_regions (e : Event) (s : State) : (State.raise e s).regions = s.regions := rfl
@[simp] theorem State.raise_segments (e : Event) (s : State) : (State.raise e s).segments = s.segments := rfl
@[simp] theorem State.raise_sequence (e : Event) (s : State) : (State.raise e s).sequence = s.sequence := rfl
@[simp] theorem State.raise_builder (e : Event) (s : State) : (State.raise e s).builder = s.builder := rfl
@[simp] theorem State.raise_queue (e : Event) (s : State) : (State.raise e s).queue = s.queue := rfl
@[simp] theorem State.raise_bars (e : Event) (s : State) : (State.raise e s).bars = s.bars := rfl
@[simp] theorem State.raise_classes (e : Event) (s : State) : (State.raise e s).classes = s.classes := rfl
@[simp] theorem State.raise_lanes (e : Event) (s : State) : (State.raise e s).lanes = s.lanes := rfl
@[simp] theorem State.raise_run (e : Event) (s : State) : (State.raise e s).run = s.run := rfl
@[simp] theorem State.raise_engine (e : Event) (s : State) : (State.raise e s).engine = s.engine := rfl

/-! ### Conditional events -/

@[simp] theorem State.raiseIf_pending (c : Bool) (e : Event) (s : State) : (State.raiseIf c e s).pending = s.pending := by cases c <;> rfl
@[simp] theorem State.raiseIf_now (c : Bool) (e : Event) (s : State) : (State.raiseIf c e s).now = s.now := by cases c <;> rfl
@[simp] theorem State.raiseIf_resetHeld (c : Bool) (e : Event) (s : State) : (State.raiseIf c e s).resetHeld = s.resetHeld := by cases c <;> rfl
@[simp] theorem State.raiseIf_tracker (c : Bool) (e : Event) (s : State) : (State.raiseIf c e s).tracker = s.tracker := by cases c <;> rfl
@[simp] theorem State.raiseIf_constants (c : Bool) (e : Event) (s : State) : (State.raiseIf c e s).constants = s.constants := by cases c <;> rfl
@[simp] theorem State.raiseIf_memory (c : Bool) (e : Event) (s : State) : (State.raiseIf c e s).memory = s.memory := by cases c <;> rfl
@[simp] theorem State.raiseIf_arbiter (c : Bool) (e : Event) (s : State) : (State.raiseIf c e s).arbiter = s.arbiter := by cases c <;> rfl
@[simp] theorem State.raiseIf_regions (c : Bool) (e : Event) (s : State) : (State.raiseIf c e s).regions = s.regions := by cases c <;> rfl
@[simp] theorem State.raiseIf_segments (c : Bool) (e : Event) (s : State) : (State.raiseIf c e s).segments = s.segments := by cases c <;> rfl
@[simp] theorem State.raiseIf_sequence (c : Bool) (e : Event) (s : State) : (State.raiseIf c e s).sequence = s.sequence := by cases c <;> rfl
@[simp] theorem State.raiseIf_builder (c : Bool) (e : Event) (s : State) : (State.raiseIf c e s).builder = s.builder := by cases c <;> rfl
@[simp] theorem State.raiseIf_queue (c : Bool) (e : Event) (s : State) : (State.raiseIf c e s).queue = s.queue := by cases c <;> rfl
@[simp] theorem State.raiseIf_bars (c : Bool) (e : Event) (s : State) : (State.raiseIf c e s).bars = s.bars := by cases c <;> rfl
@[simp] theorem State.raiseIf_classes (c : Bool) (e : Event) (s : State) : (State.raiseIf c e s).classes = s.classes := by cases c <;> rfl
@[simp] theorem State.raiseIf_lanes (c : Bool) (e : Event) (s : State) : (State.raiseIf c e s).lanes = s.lanes := by cases c <;> rfl
@[simp] theorem State.raiseIf_run (c : Bool) (e : Event) (s : State) : (State.raiseIf c e s).run = s.run := by cases c <;> rfl
@[simp] theorem State.raiseIf_engine (c : Bool) (e : Event) (s : State) : (State.raiseIf c e s).engine = s.engine := by cases c <;> rfl

/-! ### Bars -/

@[simp] theorem State.setBar_pending (b : Nat) (x : Bar) (s : State) : (State.setBar b x s).pending = s.pending := rfl
@[simp] theorem State.setBar_now (b : Nat) (x : Bar) (s : State) : (State.setBar b x s).now = s.now := rfl
@[simp] theorem State.setBar_resetHeld (b : Nat) (x : Bar) (s : State) : (State.setBar b x s).resetHeld = s.resetHeld := rfl
@[simp] theorem State.setBar_tracker (b : Nat) (x : Bar) (s : State) : (State.setBar b x s).tracker = s.tracker := rfl
@[simp] theorem State.setBar_constants (b : Nat) (x : Bar) (s : State) : (State.setBar b x s).constants = s.constants := rfl
@[simp] theorem State.setBar_memory (b : Nat) (x : Bar) (s : State) : (State.setBar b x s).memory = s.memory := rfl
@[simp] theorem State.setBar_arbiter (b : Nat) (x : Bar) (s : State) : (State.setBar b x s).arbiter = s.arbiter := rfl
@[simp] theorem State.setBar_regions (b : Nat) (x : Bar) (s : State) : (State.setBar b x s).regions = s.regions := rfl
@[simp] theorem State.setBar_segments (b : Nat) (x : Bar) (s : State) : (State.setBar b x s).segments = s.segments := rfl
@[simp] theorem State.setBar_sequence (b : Nat) (x : Bar) (s : State) : (State.setBar b x s).sequence = s.sequence := rfl
@[simp] theorem State.setBar_builder (b : Nat) (x : Bar) (s : State) : (State.setBar b x s).builder = s.builder := rfl
@[simp] theorem State.setBar_queue (b : Nat) (x : Bar) (s : State) : (State.setBar b x s).queue = s.queue := rfl
@[simp] theorem State.setBar_classes (b : Nat) (x : Bar) (s : State) : (State.setBar b x s).classes = s.classes := rfl
@[simp] theorem State.setBar_lanes (b : Nat) (x : Bar) (s : State) : (State.setBar b x s).lanes = s.lanes := rfl
@[simp] theorem State.setBar_run (b : Nat) (x : Bar) (s : State) : (State.setBar b x s).run = s.run := rfl
@[simp] theorem State.setBar_engine (b : Nat) (x : Bar) (s : State) : (State.setBar b x s).engine = s.engine := rfl
@[simp] theorem State.setBar_portM (b : Nat) (x : Bar) (s : State) : (State.setBar b x s).portM = s.portM := rfl
@[simp] theorem State.setBar_portD (b : Nat) (x : Bar) (s : State) : (State.setBar b x s).portD = s.portD := rfl

/-! ### Lanes -/

@[simp] theorem State.setLane_pending (g : Nat) (x : Lane) (s : State) : (State.setLane g x s).pending = s.pending := rfl
@[simp] theorem State.setLane_now (g : Nat) (x : Lane) (s : State) : (State.setLane g x s).now = s.now := rfl
@[simp] theorem State.setLane_resetHeld (g : Nat) (x : Lane) (s : State) : (State.setLane g x s).resetHeld = s.resetHeld := rfl
@[simp] theorem State.setLane_tracker (g : Nat) (x : Lane) (s : State) : (State.setLane g x s).tracker = s.tracker := rfl
@[simp] theorem State.setLane_constants (g : Nat) (x : Lane) (s : State) : (State.setLane g x s).constants = s.constants := rfl
@[simp] theorem State.setLane_memory (g : Nat) (x : Lane) (s : State) : (State.setLane g x s).memory = s.memory := rfl
@[simp] theorem State.setLane_arbiter (g : Nat) (x : Lane) (s : State) : (State.setLane g x s).arbiter = s.arbiter := rfl
@[simp] theorem State.setLane_regions (g : Nat) (x : Lane) (s : State) : (State.setLane g x s).regions = s.regions := rfl
@[simp] theorem State.setLane_segments (g : Nat) (x : Lane) (s : State) : (State.setLane g x s).segments = s.segments := rfl
@[simp] theorem State.setLane_sequence (g : Nat) (x : Lane) (s : State) : (State.setLane g x s).sequence = s.sequence := rfl
@[simp] theorem State.setLane_builder (g : Nat) (x : Lane) (s : State) : (State.setLane g x s).builder = s.builder := rfl
@[simp] theorem State.setLane_queue (g : Nat) (x : Lane) (s : State) : (State.setLane g x s).queue = s.queue := rfl
@[simp] theorem State.setLane_bars (g : Nat) (x : Lane) (s : State) : (State.setLane g x s).bars = s.bars := rfl
@[simp] theorem State.setLane_classes (g : Nat) (x : Lane) (s : State) : (State.setLane g x s).classes = s.classes := rfl
@[simp] theorem State.setLane_run (g : Nat) (x : Lane) (s : State) : (State.setLane g x s).run = s.run := rfl
@[simp] theorem State.setLane_engine (g : Nat) (x : Lane) (s : State) : (State.setLane g x s).engine = s.engine := rfl
@[simp] theorem State.setLane_portM (g : Nat) (x : Lane) (s : State) : (State.setLane g x s).portM = s.portM := rfl
@[simp] theorem State.setLane_portD (g : Nat) (x : Lane) (s : State) : (State.setLane g x s).portD = s.portD := rfl

/-! ### Segments -/

@[simp] theorem State.setSegment_pending (g : Nat) (x : MapEntry) (s : State) : (State.setSegment g x s).pending = s.pending := rfl
@[simp] theorem State.setSegment_now (g : Nat) (x : MapEntry) (s : State) : (State.setSegment g x s).now = s.now := rfl
@[simp] theorem State.setSegment_resetHeld (g : Nat) (x : MapEntry) (s : State) : (State.setSegment g x s).resetHeld = s.resetHeld := rfl
@[simp] theorem State.setSegment_tracker (g : Nat) (x : MapEntry) (s : State) : (State.setSegment g x s).tracker = s.tracker := rfl
@[simp] theorem State.setSegment_constants (g : Nat) (x : MapEntry) (s : State) : (State.setSegment g x s).constants = s.constants := rfl
@[simp] theorem State.setSegment_memory (g : Nat) (x : MapEntry) (s : State) : (State.setSegment g x s).memory = s.memory := rfl
@[simp] theorem State.setSegment_arbiter (g : Nat) (x : MapEntry) (s : State) : (State.setSegment g x s).arbiter = s.arbiter := rfl
@[simp] theorem State.setSegment_regions (g : Nat) (x : MapEntry) (s : State) : (State.setSegment g x s).regions = s.regions := rfl
@[simp] theorem State.setSegment_sequence (g : Nat) (x : MapEntry) (s : State) : (State.setSegment g x s).sequence = s.sequence := rfl
@[simp] theorem State.setSegment_builder (g : Nat) (x : MapEntry) (s : State) : (State.setSegment g x s).builder = s.builder := rfl
@[simp] theorem State.setSegment_queue (g : Nat) (x : MapEntry) (s : State) : (State.setSegment g x s).queue = s.queue := rfl
@[simp] theorem State.setSegment_bars (g : Nat) (x : MapEntry) (s : State) : (State.setSegment g x s).bars = s.bars := rfl
@[simp] theorem State.setSegment_classes (g : Nat) (x : MapEntry) (s : State) : (State.setSegment g x s).classes = s.classes := rfl
@[simp] theorem State.setSegment_lanes (g : Nat) (x : MapEntry) (s : State) : (State.setSegment g x s).lanes = s.lanes := rfl
@[simp] theorem State.setSegment_run (g : Nat) (x : MapEntry) (s : State) : (State.setSegment g x s).run = s.run := rfl
@[simp] theorem State.setSegment_engine (g : Nat) (x : MapEntry) (s : State) : (State.setSegment g x s).engine = s.engine := rfl
@[simp] theorem State.setSegment_portM (g : Nat) (x : MapEntry) (s : State) : (State.setSegment g x s).portM = s.portM := rfl
@[simp] theorem State.setSegment_portD (g : Nat) (x : MapEntry) (s : State) : (State.setSegment g x s).portD = s.portD := rfl

/-! ### Verified flags -/

@[simp] theorem State.unverify_pending (e : Extent) (s : State) : (State.unverify e s).pending = s.pending := rfl
@[simp] theorem State.unverify_now (e : Extent) (s : State) : (State.unverify e s).now = s.now := rfl
@[simp] theorem State.unverify_resetHeld (e : Extent) (s : State) : (State.unverify e s).resetHeld = s.resetHeld := rfl
@[simp] theorem State.unverify_tracker (e : Extent) (s : State) : (State.unverify e s).tracker = s.tracker := rfl
@[simp] theorem State.unverify_constants (e : Extent) (s : State) : (State.unverify e s).constants = s.constants := rfl
@[simp] theorem State.unverify_memory (e : Extent) (s : State) : (State.unverify e s).memory = s.memory := rfl
@[simp] theorem State.unverify_arbiter (e : Extent) (s : State) : (State.unverify e s).arbiter = s.arbiter := rfl
@[simp] theorem State.unverify_regions (e : Extent) (s : State) : (State.unverify e s).regions = s.regions := rfl
@[simp] theorem State.unverify_sequence (e : Extent) (s : State) : (State.unverify e s).sequence = s.sequence := rfl
@[simp] theorem State.unverify_builder (e : Extent) (s : State) : (State.unverify e s).builder = s.builder := rfl
@[simp] theorem State.unverify_queue (e : Extent) (s : State) : (State.unverify e s).queue = s.queue := rfl
@[simp] theorem State.unverify_bars (e : Extent) (s : State) : (State.unverify e s).bars = s.bars := rfl
@[simp] theorem State.unverify_classes (e : Extent) (s : State) : (State.unverify e s).classes = s.classes := rfl
@[simp] theorem State.unverify_lanes (e : Extent) (s : State) : (State.unverify e s).lanes = s.lanes := rfl
@[simp] theorem State.unverify_run (e : Extent) (s : State) : (State.unverify e s).run = s.run := rfl
@[simp] theorem State.unverify_engine (e : Extent) (s : State) : (State.unverify e s).engine = s.engine := rfl
@[simp] theorem State.unverify_portM (e : Extent) (s : State) : (State.unverify e s).portM = s.portM := rfl
@[simp] theorem State.unverify_portD (e : Extent) (s : State) : (State.unverify e s).portD = s.portD := rfl

/-! ### The arbiter -/

@[simp] theorem State.arbitrate_pending (s : State) : (State.arbitrate s).pending = s.pending := rfl
@[simp] theorem State.arbitrate_now (s : State) : (State.arbitrate s).now = s.now := rfl
@[simp] theorem State.arbitrate_resetHeld (s : State) : (State.arbitrate s).resetHeld = s.resetHeld := rfl
@[simp] theorem State.arbitrate_tracker (s : State) : (State.arbitrate s).tracker = s.tracker := rfl
@[simp] theorem State.arbitrate_constants (s : State) : (State.arbitrate s).constants = s.constants := rfl
@[simp] theorem State.arbitrate_memory (s : State) : (State.arbitrate s).memory = s.memory := rfl
@[simp] theorem State.arbitrate_regions (s : State) : (State.arbitrate s).regions = s.regions := rfl
@[simp] theorem State.arbitrate_segments (s : State) : (State.arbitrate s).segments = s.segments := rfl
@[simp] theorem State.arbitrate_sequence (s : State) : (State.arbitrate s).sequence = s.sequence := rfl
@[simp] theorem State.arbitrate_builder (s : State) : (State.arbitrate s).builder = s.builder := rfl
@[simp] theorem State.arbitrate_queue (s : State) : (State.arbitrate s).queue = s.queue := rfl
@[simp] theorem State.arbitrate_bars (s : State) : (State.arbitrate s).bars = s.bars := rfl
@[simp] theorem State.arbitrate_classes (s : State) : (State.arbitrate s).classes = s.classes := rfl
@[simp] theorem State.arbitrate_lanes (s : State) : (State.arbitrate s).lanes = s.lanes := rfl
@[simp] theorem State.arbitrate_run (s : State) : (State.arbitrate s).run = s.run := rfl
@[simp] theorem State.arbitrate_engine (s : State) : (State.arbitrate s).engine = s.engine := rfl
@[simp] theorem State.arbitrate_portM (s : State) : (State.arbitrate s).portM = s.portM := rfl
@[simp] theorem State.arbitrate_portD (s : State) : (State.arbitrate s).portD = s.portD := rfl

/-! ### The end of a grant -/

@[simp] theorem State.endGrant_pending (s : State) : (State.endGrant s).pending = s.pending := rfl
@[simp] theorem State.endGrant_now (s : State) : (State.endGrant s).now = s.now := rfl
@[simp] theorem State.endGrant_resetHeld (s : State) : (State.endGrant s).resetHeld = s.resetHeld := rfl
@[simp] theorem State.endGrant_tracker (s : State) : (State.endGrant s).tracker = s.tracker := rfl
@[simp] theorem State.endGrant_constants (s : State) : (State.endGrant s).constants = s.constants := rfl
@[simp] theorem State.endGrant_memory (s : State) : (State.endGrant s).memory = s.memory := rfl
@[simp] theorem State.endGrant_regions (s : State) : (State.endGrant s).regions = s.regions := rfl
@[simp] theorem State.endGrant_segments (s : State) : (State.endGrant s).segments = s.segments := rfl
@[simp] theorem State.endGrant_sequence (s : State) : (State.endGrant s).sequence = s.sequence := rfl
@[simp] theorem State.endGrant_builder (s : State) : (State.endGrant s).builder = s.builder := rfl
@[simp] theorem State.endGrant_queue (s : State) : (State.endGrant s).queue = s.queue := rfl
@[simp] theorem State.endGrant_bars (s : State) : (State.endGrant s).bars = s.bars := rfl
@[simp] theorem State.endGrant_classes (s : State) : (State.endGrant s).classes = s.classes := rfl
@[simp] theorem State.endGrant_lanes (s : State) : (State.endGrant s).lanes = s.lanes := rfl
@[simp] theorem State.endGrant_run (s : State) : (State.endGrant s).run = s.run := rfl
@[simp] theorem State.endGrant_engine (s : State) : (State.endGrant s).engine = s.engine := rfl
@[simp] theorem State.endGrant_portM (s : State) : (State.endGrant s).portM = s.portM := rfl
@[simp] theorem State.endGrant_portD (s : State) : (State.endGrant s).portD = s.portD := rfl

/-! ### The timebase -/

@[simp] theorem State.elapse_pending (t : Nat) (s : State) : (State.elapse t s).pending = s.pending := rfl
@[simp] theorem State.elapse_resetHeld (t : Nat) (s : State) : (State.elapse t s).resetHeld = s.resetHeld := rfl
@[simp] theorem State.elapse_tracker (t : Nat) (s : State) : (State.elapse t s).tracker = s.tracker := rfl
@[simp] theorem State.elapse_constants (t : Nat) (s : State) : (State.elapse t s).constants = s.constants := rfl
@[simp] theorem State.elapse_memory (t : Nat) (s : State) : (State.elapse t s).memory = s.memory := rfl
@[simp] theorem State.elapse_arbiter (t : Nat) (s : State) : (State.elapse t s).arbiter = s.arbiter := rfl
@[simp] theorem State.elapse_regions (t : Nat) (s : State) : (State.elapse t s).regions = s.regions := rfl
@[simp] theorem State.elapse_segments (t : Nat) (s : State) : (State.elapse t s).segments = s.segments := rfl
@[simp] theorem State.elapse_sequence (t : Nat) (s : State) : (State.elapse t s).sequence = s.sequence := rfl
@[simp] theorem State.elapse_builder (t : Nat) (s : State) : (State.elapse t s).builder = s.builder := rfl
@[simp] theorem State.elapse_queue (t : Nat) (s : State) : (State.elapse t s).queue = s.queue := rfl
@[simp] theorem State.elapse_bars (t : Nat) (s : State) : (State.elapse t s).bars = s.bars := rfl
@[simp] theorem State.elapse_classes (t : Nat) (s : State) : (State.elapse t s).classes = s.classes := rfl
@[simp] theorem State.elapse_lanes (t : Nat) (s : State) : (State.elapse t s).lanes = s.lanes := rfl
@[simp] theorem State.elapse_run (t : Nat) (s : State) : (State.elapse t s).run = s.run := rfl
@[simp] theorem State.elapse_engine (t : Nat) (s : State) : (State.elapse t s).engine = s.engine := rfl
@[simp] theorem State.elapse_portM (t : Nat) (s : State) : (State.elapse t s).portM = s.portM := rfl
@[simp] theorem State.elapse_portD (t : Nat) (s : State) : (State.elapse t s).portD = s.portD := rfl

/-! ### An abandoned build -/

@[simp] theorem State.abandonBuild_pending (s : State) : (State.abandonBuild s).pending = s.pending := rfl
@[simp] theorem State.abandonBuild_now (s : State) : (State.abandonBuild s).now = s.now := rfl
@[simp] theorem State.abandonBuild_resetHeld (s : State) : (State.abandonBuild s).resetHeld = s.resetHeld := rfl
@[simp] theorem State.abandonBuild_tracker (s : State) : (State.abandonBuild s).tracker = s.tracker := rfl
@[simp] theorem State.abandonBuild_constants (s : State) : (State.abandonBuild s).constants = s.constants := rfl
@[simp] theorem State.abandonBuild_memory (s : State) : (State.abandonBuild s).memory = s.memory := rfl
@[simp] theorem State.abandonBuild_regions (s : State) : (State.abandonBuild s).regions = s.regions := rfl
@[simp] theorem State.abandonBuild_segments (s : State) : (State.abandonBuild s).segments = s.segments := rfl
@[simp] theorem State.abandonBuild_sequence (s : State) : (State.abandonBuild s).sequence = s.sequence := rfl
@[simp] theorem State.abandonBuild_queue (s : State) : (State.abandonBuild s).queue = s.queue := rfl
@[simp] theorem State.abandonBuild_bars (s : State) : (State.abandonBuild s).bars = s.bars := rfl
@[simp] theorem State.abandonBuild_classes (s : State) : (State.abandonBuild s).classes = s.classes := rfl
@[simp] theorem State.abandonBuild_lanes (s : State) : (State.abandonBuild s).lanes = s.lanes := rfl
@[simp] theorem State.abandonBuild_run (s : State) : (State.abandonBuild s).run = s.run := rfl
@[simp] theorem State.abandonBuild_engine (s : State) : (State.abandonBuild s).engine = s.engine := rfl
@[simp] theorem State.abandonBuild_portM (s : State) : (State.abandonBuild s).portM = s.portM := rfl
@[simp] theorem State.abandonBuild_portD (s : State) : (State.abandonBuild s).portD = s.portD := rfl

/-! ### The return to HALTED -/

@[simp] theorem State.clearRun_pending (s : State) : (State.clearRun s).pending = s.pending := rfl
@[simp] theorem State.clearRun_now (s : State) : (State.clearRun s).now = s.now := rfl
@[simp] theorem State.clearRun_resetHeld (s : State) : (State.clearRun s).resetHeld = s.resetHeld := rfl
@[simp] theorem State.clearRun_tracker (s : State) : (State.clearRun s).tracker = s.tracker := rfl
@[simp] theorem State.clearRun_constants (s : State) : (State.clearRun s).constants = s.constants := rfl
@[simp] theorem State.clearRun_memory (s : State) : (State.clearRun s).memory = s.memory := rfl
@[simp] theorem State.clearRun_regions (s : State) : (State.clearRun s).regions = s.regions := rfl
@[simp] theorem State.clearRun_segments (s : State) : (State.clearRun s).segments = s.segments := rfl
@[simp] theorem State.clearRun_sequence (s : State) : (State.clearRun s).sequence = s.sequence := rfl
@[simp] theorem State.clearRun_bars (s : State) : (State.clearRun s).bars = s.bars := rfl
@[simp] theorem State.clearRun_classes (s : State) : (State.clearRun s).classes = s.classes := rfl
@[simp] theorem State.clearRun_lanes (s : State) : (State.clearRun s).lanes = s.lanes := rfl
@[simp] theorem State.clearRun_engine (s : State) : (State.clearRun s).engine = s.engine := rfl
@[simp] theorem State.clearRun_portM (s : State) : (State.clearRun s).portM = s.portM := rfl
@[simp] theorem State.clearRun_portD (s : State) : (State.clearRun s).portD = s.portD := rfl

@[simp] theorem State.clearRun_builder (s : State) : s.clearRun.builder = Builder.initial := rfl
@[simp] theorem State.clearRun_queue (s : State) : s.clearRun.queue = CourseQueue.initial := rfl
@[simp] theorem State.clearRun_run (s : State) : s.clearRun.run = RunControl.initial := rfl
@[simp] theorem State.elapse_now (t : Nat) (s : State) : (s.elapse t).now = max s.now t := rfl
@[simp] theorem State.setBar_bars (b : Nat) (x : Bar) (s : State) : (s.setBar b x).bars = s.bars.set b x := rfl
@[simp] theorem State.setLane_lanes (g : Nat) (x : Lane) (s : State) : (s.setLane g x).lanes = s.lanes.set g x := rfl

/-! ### Ports after an update -/

@[simp] theorem State.receive_port_other (p : Port) (f : List Byte) (s : State) :
    (s.receive p f).port (otherPort p) = s.port (otherPort p) := by cases p <;> rfl
@[simp] theorem State.receive_slot (p : Port) (f : List Byte) (s : State) :
    ((s.receive p f).port p).slot = (s.port p).slot := by cases p <;> rfl
@[simp] theorem State.receive_discard (p : Port) (f : List Byte) (s : State) :
    ((s.receive p f).port p).discard = false := by cases p <;> rfl
@[simp] theorem State.receive_events (p q : Port) (f : List Byte) (s : State) :
    ((s.receive p f).port q).events = (s.port q).events := by cases p <;> cases q <;> rfl
@[simp] theorem State.receive_mask (p q : Port) (f : List Byte) (s : State) :
    ((s.receive p f).port q).mask = (s.port q).mask := by cases p <;> cases q <;> rfl
@[simp] theorem State.receive_deaf (p : Port) (f : List Byte) (s : State) :
    ((s.receive p f).port p).deaf = (s.port p).deaf := by cases p <;> rfl
@[simp] theorem State.receive_transaction (p : Port) (f : List Byte) (s : State) :
    ((s.receive p f).port p).transaction = (s.port p).transaction.map (Transaction.receive f) := by cases p <;> rfl
@[simp] theorem State.setSlot_port_other (p : Port) (x : Slot) (s : State) :
    (s.setSlot p x).port (otherPort p) = s.port (otherPort p) := by cases p <;> rfl
@[simp] theorem State.setSlot_slot (p : Port) (x : Slot) (s : State) : ((s.setSlot p x).port p).slot = x := by
  cases p <;> rfl
@[simp] theorem State.setSlot_discard (p : Port) (x : Slot) (s : State) :
    ((s.setSlot p x).port p).discard = (s.port p).discard := by cases p <;> rfl
@[simp] theorem State.setSlot_events (p q : Port) (x : Slot) (s : State) :
    ((s.setSlot p x).port q).events = (s.port q).events := by cases p <;> cases q <;> rfl
@[simp] theorem State.setSlot_mask (p q : Port) (x : Slot) (s : State) :
    ((s.setSlot p x).port q).mask = (s.port q).mask := by cases p <;> cases q <;> rfl
@[simp] theorem State.setSlot_deaf (p : Port) (x : Slot) (s : State) :
    ((s.setSlot p x).port p).deaf = (s.port p).deaf := by cases p <;> rfl
@[simp] theorem State.setSlot_transaction (p : Port) (x : Slot) (s : State) :
    ((s.setSlot p x).port p).transaction = (s.port p).transaction := by cases p <;> rfl
@[simp] theorem State.setSlot_shiftedOut (p : Port) (x : Slot) (s : State) :
    ((s.setSlot p x).port p).shiftedOut = (s.port p).shiftedOut := by cases p <;> rfl
@[simp] theorem State.raise_port (e : Event) (s : State) (p : Port) : (s.raise e).port p = (s.port p).raise e := by
  cases p <;> rfl
@[simp] theorem PortState.raise_events (e : Event) (x : PortState) : (x.raise e).events = x.events ||| e.flag := rfl
@[simp] theorem PortState.raise_slot (e : Event) (x : PortState) : (x.raise e).slot = x.slot := rfl
@[simp] theorem PortState.raise_discard (e : Event) (x : PortState) : (x.raise e).discard = x.discard := rfl
@[simp] theorem PortState.raise_mask (e : Event) (x : PortState) : (x.raise e).mask = x.mask := rfl
@[simp] theorem PortState.raise_transaction (e : Event) (x : PortState) :
    (x.raise e).transaction = x.transaction := rfl
@[simp] theorem PortState.raise_deaf (e : Event) (x : PortState) : (x.raise e).deaf = x.deaf := rfl
@[simp] theorem PortState.raise_shiftedOut (e : Event) (x : PortState) : (x.raise e).shiftedOut = x.shiftedOut := rfl

/-- A raised event's flag stands set. -/
theorem Event.isIn_raise (e : Event) (x : PortState) : e.isIn (x.raise e).events = true := by
  have h : e.isIn e.flag = true := by cases e <;> decide
  simp only [Event.isIn] at h
  simp [Event.isIn, h]

/-! ### One bar and one lane after an update -/

@[simp] theorem State.bar_setBar_ne (s : State) {b n : Nat} (x : Bar) (h : b ≠ n) : (s.setBar b x).bar n = s.bar n := by
  simp [State.bar, State.setBar, List.getD_eq_getElem?_getD, List.getElem?_set_ne h]

/-- In the table, a bar holds what was set. -/
theorem State.bar_setBar (s : State) {b : Nat} (x : Bar) (h : b < s.bars.length) : (s.setBar b x).bar b = x := by
  simp [State.bar, State.setBar, List.getD_eq_getElem?_getD, h]

@[simp] theorem State.lane_setLane_ne (s : State) {g n : Nat} (x : Lane) (h : g ≠ n) :
    (s.setLane g x).lane n = s.lane n := by
  simp [State.lane, State.setLane, List.getD_eq_getElem?_getD, List.getElem?_set_ne h]

/-- Among the lanes, a lane holds what was set. -/
theorem State.lane_setLane (s : State) {g : Nat} (x : Lane) (h : g < s.lanes.length) : (s.setLane g x).lane g = x := by
  simp [State.lane, State.setLane, List.getD_eq_getElem?_getD, h]

@[simp] theorem State.bar_setLane (s : State) (g : Nat) (x : Lane) (n : Nat) : (s.setLane g x).bar n = s.bar n := rfl
@[simp] theorem State.lane_setBar (s : State) (b : Nat) (x : Bar) (n : Nat) : (s.setBar b x).lane n = s.lane n := rfl

end Sys2Proof.Machine
end

