-- ==== Sys2Proof/Laws/Memory.lean ====
section
/-! SUPPORT. Pattern memory: what a cell reads after a write, and that every memory operation keeps the canonical form. -/

namespace Sys2Proof.Machine

/-- A cell below every listed address reads 0. -/
theorem readCell_below {mem : List (Nat × Cell)} {a : Nat} (h : ∀ c ∈ mem, a < c.1) : readCell mem a = 0#16 := by
  induction mem with
  | nil => rfl
  | cons x rest ih =>
    have hx := h x (by simp)
    simp only [readCell]
    rw [if_neg (by omega)]
    exact ih fun c hc => h c (by simp [hc])

/-- Every cell listed after a write is the written one or was listed before. -/
theorem mem_writeCell {mem : List (Nat × Cell)} {a : Nat} {v : Cell} {c : Nat × Cell} (h : c ∈ writeCell mem a v) :
    (c = (a, v) ∧ v ≠ 0#16) ∨ c ∈ mem := by
  induction mem with
  | nil => by_cases hv : v = 0#16 <;> simp_all [writeCell]
  | cons x rest ih =>
    simp only [writeCell] at h
    split at h
    · split at h <;> simp_all
    · split at h
      · split at h <;> simp_all
        rcases h with h | h <;> simp_all
      · rcases List.mem_cons.mp h with h | h
        · simp [h]
        · rcases ih h with h | h <;> simp [h]

/-- A write keeps the canonical form. -/
theorem writeCell_wf {mem : List (Nat × Cell)} {a : Nat} {v : Cell} (h : MemoryWf mem) (ha : a < memorySize) :
    MemoryWf (writeCell mem a v) := by
  refine ⟨?_, fun c hc => ?_⟩
  · obtain ⟨hp, -⟩ := h
    induction mem with
    | nil => by_cases hv : v = 0#16 <;> simp [writeCell, hv]
    | cons x rest ih =>
      obtain ⟨hx, hr⟩ := List.pairwise_cons.mp hp
      simp only [writeCell]
      split
      · split
        · exact hp
        · refine List.pairwise_cons.mpr ⟨fun y hy => ?_, hp⟩
          rcases List.mem_cons.mp hy with rfl | hy
          · assumption
          · have := hx y hy; simp only at *; omega
      · split
        · split
          · exact hr
          · subst_vars
            exact List.pairwise_cons.mpr ⟨fun y hy => hx y hy, hr⟩
        · refine List.pairwise_cons.mpr ⟨fun y hy => ?_, ih hr⟩
          rcases mem_writeCell hy with ⟨rfl, -⟩ | hy
          · simp only at *; omega
          · exact hx y hy
  · rcases mem_writeCell hc with ⟨rfl, hv⟩ | hc
    · exact ⟨ha, hv⟩
    · exact h.2 c hc

/-- Read after write. -/
theorem readCell_writeCell {mem : List (Nat × Cell)} {a : Nat} {v : Cell} (h : MemoryWf mem) (b : Nat) :
    readCell (writeCell mem a v) b = if b = a then v else readCell mem b := by
  obtain ⟨hp, -⟩ := h
  induction mem with
  | nil => by_cases hv : v = 0#16 <;> by_cases hb : b = a <;> simp [writeCell, readCell, hv, hb]
  | cons x rest ih =>
    obtain ⟨hx, hr⟩ := List.pairwise_cons.mp hp
    obtain ⟨k, w⟩ := x
    have below : ∀ c, c ≤ k → readCell rest c = 0#16 := fun c hc =>
      readCell_below fun y hy => by have := hx y hy; simp only at this; omega
    simp only [writeCell]
    split
    · rename_i hlt
      have ha := below a (by omega)
      by_cases hb : b = a
      · subst hb
        by_cases hv : v = 0#16 <;> simp [readCell, hv, show b ≠ k by omega, ha]
      · by_cases hv : v = 0#16 <;> simp [readCell, hv, hb]
    · split
      · rename_i heq
        subst heq
        have := below a (by omega)
        by_cases hv : v = 0#16 <;> by_cases hb : b = a <;> simp_all [readCell]
      · simp only [readCell]
        by_cases hk : b = k
        · simp [hk, show k ≠ a by omega]
        · simp [hk, ih hr]

/-- Writing cells keeps the canonical form. -/
theorem writeCells_wf {cells : List Cell} {mem : List (Nat × Cell)} {a : Nat} (h : MemoryWf mem)
    (ha : a + cells.length ≤ memorySize) : MemoryWf (writeCells mem a cells) := by
  induction cells generalizing mem a with
  | nil => exact h
  | cons v rest ih =>
    simp only [List.length_cons] at ha
    exact ih (writeCell_wf h (by omega)) (by omega)

/-- What a cell reads after cells are written from `a`. -/
theorem readCell_writeCells {cells : List Cell} {mem : List (Nat × Cell)} {a : Nat} (h : MemoryWf mem)
    (ha : a + cells.length ≤ memorySize) (b : Nat) :
    readCell (writeCells mem a cells) b =
      if a ≤ b ∧ b < a + cells.length then cells.getD (b - a) 0#16 else readCell mem b := by
  induction cells generalizing mem a with
  | nil =>
    rw [if_neg (by simp)]
    rfl
  | cons v rest ih =>
    simp only [List.length_cons] at ha ⊢
    simp only [writeCells]
    rw [ih (writeCell_wf h (by omega)) (by omega), readCell_writeCell h]
    by_cases hb : b = a
    · subst hb
      simp
    · by_cases hin : a + 1 ≤ b ∧ b < a + 1 + rest.length
      · rw [if_pos hin, if_pos (by omega), show b - a = (b - (a + 1)) + 1 by omega]
        rfl
      · rw [if_neg hin, if_neg hb, if_neg (by omega)]

/-- Copying cells keeps the canonical form. -/
theorem copyCells_wf {n : Nat} {mem : List (Nat × Cell)} {src dst : Nat} (h : MemoryWf mem) (hd : dst + n ≤ memorySize) :
    MemoryWf (copyCells mem src dst n) := by
  induction n generalizing mem src dst with
  | zero => exact h
  | succ n ih => exact ih (writeCell_wf h (by omega)) (by omega)

/-- What a cell reads after a copy between ranges that share no cell. -/
theorem readCell_copyCells {n : Nat} {mem : List (Nat × Cell)} {src dst : Nat} (h : MemoryWf mem)
    (hd : dst + n ≤ memorySize) (apart : src + n ≤ dst ∨ dst + n ≤ src) (b : Nat) :
    readCell (copyCells mem src dst n) b =
      if dst ≤ b ∧ b < dst + n then readCell mem (src + (b - dst)) else readCell mem b := by
  induction n generalizing mem src dst with
  | zero =>
    rw [if_neg (by omega)]
    rfl
  | succ n ih =>
    simp only [copyCells]
    rw [ih (writeCell_wf h (by omega)) (by omega) (by omega)]
    simp only [readCell_writeCell h]
    by_cases hb : b = dst
    · subst hb
      rw [if_neg (by omega), if_pos rfl, if_pos (by omega)]
      simp
    · by_cases hin : dst + 1 ≤ b ∧ b < dst + 1 + n
      · rw [if_pos hin, if_neg (by omega), if_pos (by omega), show src + 1 + (b - (dst + 1)) = src + (b - dst) by omega]
      · rw [if_neg hin, if_neg hb, if_neg (by omega)]

/-- Outside the cells it copies to, a copy leaves every cell. -/
theorem readCell_copyCells_outside {n : Nat} {mem : List (Nat × Cell)} {src dst : Nat} (h : MemoryWf mem)
    (hd : dst + n ≤ memorySize) {b : Nat} (hb : b < dst ∨ dst + n ≤ b) :
    readCell (copyCells mem src dst n) b = readCell mem b := by
  induction n generalizing mem src dst with
  | zero => rfl
  | succ n ih =>
    simp only [copyCells]
    rw [ih (writeCell_wf h (by omega)) (by omega) (by omega), readCell_writeCell h, if_neg (by omega)]

end Sys2Proof.Machine
end

