-- ==== Sys2Proof/Laws/Ops.lean ====
section
/-! SUPPORT. For each shared operation, once, what it can change: the run side (run control, bars, lanes and the event
flags), the shaft side (with the tracker, the queue, the builder and the arbiter as well), or the arbiter alone. -/

namespace Sys2Proof.Machine

/-! ### Event flags are only raised -/

/-- Only event flags of a port have changed, and none was cleared. -/
structure Raised (x y : PortState) : Prop where
  transaction : y.transaction = x.transaction
  slot : y.slot = x.slot
  discard : y.discard = x.discard
  mask : y.mask = x.mask
  deaf : y.deaf = x.deaf
  shiftedOut : y.shiftedOut = x.shiftedOut
  events : ∀ e : Event, e.isIn x.events = true → e.isIn y.events = true

theorem Raised.refl (x : PortState) : Raised x x := ⟨rfl, rfl, rfl, rfl, rfl, rfl, fun _ h => h⟩

theorem Raised.trans {x y z : PortState} (h : Raised x y) (k : Raised y z) : Raised x z :=
  ⟨k.transaction.trans h.transaction, k.slot.trans h.slot, k.discard.trans h.discard, k.mask.trans h.mask,
    k.deaf.trans h.deaf, k.shiftedOut.trans h.shiftedOut, fun e he => k.events e (h.events e he)⟩

theorem PortState.raise_raised (e : Event) (x : PortState) : Raised x (x.raise e) :=
  ⟨rfl, rfl, rfl, rfl, rfl, rfl, fun e' h => by simp_all [Event.isIn]⟩

/-! ### The run side -/

/-- Only run control, the bars, the lanes and event flags have changed. -/
structure RunSide (s t : State) : Prop where
  pending : t.pending = s.pending
  now : t.now = s.now
  resetHeld : t.resetHeld = s.resetHeld
  tracker : t.tracker = s.tracker
  constants : t.constants = s.constants
  memory : t.memory = s.memory
  arbiter : t.arbiter = s.arbiter
  regions : t.regions = s.regions
  segments : t.segments = s.segments
  sequence : t.sequence = s.sequence
  builder : t.builder = s.builder
  queue : t.queue = s.queue
  classes : t.classes = s.classes
  engine : t.engine = s.engine
  ports : ∀ p, Raised (s.port p) (t.port p)

theorem RunSide.refl (s : State) : RunSide s s := by constructor <;> first | rfl | exact fun p => Raised.refl _

theorem RunSide.trans {s t u : State} (h : RunSide s t) (k : RunSide t u) : RunSide s u := by
  constructor
  case ports => exact fun p => (h.ports p).trans (k.ports p)
  all_goals first
    | exact k.pending.trans h.pending | exact k.now.trans h.now | exact k.resetHeld.trans h.resetHeld
    | exact k.tracker.trans h.tracker | exact k.constants.trans h.constants | exact k.memory.trans h.memory
    | exact k.arbiter.trans h.arbiter | exact k.regions.trans h.regions | exact k.segments.trans h.segments
    | exact k.sequence.trans h.sequence | exact k.builder.trans h.builder | exact k.queue.trans h.queue
    | exact k.classes.trans h.classes | exact k.engine.trans h.engine

/-- Updates of run control, bars and lanes alone. -/
theorem RunSide.update (s : State) (r : RunControl) (b : List Bar) (l : List Lane) :
    RunSide s { s with run := r, bars := b, lanes := l } := by
  constructor <;> first | rfl | exact fun p => by cases p <;> exact Raised.refl _

/-- A fold of steps on the run side stays there. -/
theorem RunSide.foldl {α : Type} {f : State → α → State} (h : ∀ s a, RunSide s (f s a)) (l : List α) (s : State) :
    RunSide s (l.foldl f s) := by
  induction l generalizing s with
  | nil => exact .refl s
  | cons a l ih => exact (h s a).trans (ih (f s a))

theorem raise_runSide (e : Event) (s : State) : RunSide s (s.raise e) := by
  constructor <;> first | rfl | exact fun p => by cases p <;> exact PortState.raise_raised e _

theorem raiseIf_runSide (c : Bool) (e : Event) (s : State) : RunSide s (s.raiseIf c e) := by
  cases c
  · exact .refl s
  · exact raise_runSide e s

theorem watchStop_runSide {f : State → State} (h : ∀ s, RunSide s (f s)) (s : State) : RunSide s (s.watchStop f) :=
  (h s).trans (raiseIf_runSide _ _ _)

theorem setCause_runSide (c : StopCause) (s : State) : RunSide s (s.setCause c) :=
  watchStop_runSide (fun s => .update s _ s.bars s.lanes) s

theorem setBar_runSide (b : Nat) (x : Bar) (s : State) : RunSide s (s.setBar b x) := .update s s.run _ s.lanes

theorem setLane_runSide (g : Nat) (x : Lane) (s : State) : RunSide s (s.setLane g x) := .update s s.run s.bars _

theorem transmit_runSide (g : Nat) (s : State) : RunSide s (s.transmit g) := by
  unfold State.transmit
  simp only
  split
  · exact .refl s
  · split
    · exact .refl s
    · exact setLane_runSide g _ s

theorem purge_runSide (s : State) : RunSide s s.purge :=
  (RunSide.update s s.run _ _).trans (raiseIf_runSide _ _ _)

theorem enterFaulted_runSide (k : FaultKind) (b c : Option Nat) (s : State) : RunSide s (s.enterFaulted k b c) :=
  ((watchStop_runSide (fun s => .update s _ s.bars s.lanes) s).trans (purge_runSide _)).trans (raise_runSide _ _)

theorem faultMore_runSide (s : State) : RunSide s s.faultMore := .update s _ s.bars s.lanes

/-- R136, R137: a hard fault changes the run side alone. -/
theorem hardFault_runSide (k : FaultKind) (b c : Option Nat) (s : State) : RunSide s (s.hardFault k b c) := by
  unfold State.hardFault
  split
  · exact enterFaulted_runSide k b c s
  · exact enterFaulted_runSide k b c s
  · split
    · exact enterFaulted_runSide k b c s
    · exact .refl s
  · exact faultMore_runSide s
  · exact .refl s

theorem barFault_runSide (k : FaultKind) (b : Nat) (s : State) : RunSide s (s.barFault k b) :=
  (raise_runSide _ s).trans (hardFault_runSide k _ _ _)

theorem enqueue_runSide (b : Nat) (o : Order) (s : State) : RunSide s (s.enqueue b o) :=
  (setLane_runSide _ _ s).trans (transmit_runSide _ _)

theorem dryAnswer_runSide (b : Nat) (o : Order) (s : State) : RunSide s (s.dryAnswer b o) := setBar_runSide b _ s

theorem setPosted_runSide (b : Nat) (o : Order) (c : Chain) (s : State) : RunSide s (s.setPosted b o c) :=
  setBar_runSide b _ s

theorem postWet_runSide (b : Nat) (o : Order) (s : State) : RunSide s (s.postWet b o) := by
  unfold State.postWet
  simp only
  split
  · exact .refl s
  · exact (setPosted_runSide b o _ s).trans (enqueue_runSide b o _)
  · exact (setPosted_runSide b o _ s).trans (enqueue_runSide b o _)
  · split
    · exact setPosted_runSide b o _ s
    · split
      · exact (setBar_runSide b _ s).trans (setLane_runSide _ _ _)
      · exact (setPosted_runSide b o _ s).trans (setLane_runSide _ _ _)
  · exact (setPosted_runSide b o _ s).trans (enqueue_runSide b o _)

/-- R117, R129: a posting changes the run side alone. -/
theorem post_runSide (b : Nat) (o : Order) (s : State) : RunSide s (s.post b o) := by
  unfold State.post
  split
  · split
    · exact dryAnswer_runSide b o s
    · exact postWet_runSide b o s
  · exact .refl s

theorem orderTo_runSide (b x : Nat) (d : Option Deadline) (s : State) : RunSide s (s.orderTo b x d) := by
  unfold State.orderTo
  split
  · exact .refl s
  · exact post_runSide b _ s

theorem completePlacement_runSide (s : State) : RunSide s s.completePlacement := by
  unfold State.completePlacement
  split
  · exact (RunSide.update s _ s.bars s.lanes).trans (raise_runSide _ _)
  · exact .refl s

theorem placeOne_runSide (ts : List (Option Nat)) (s : State) (b : Nat) : RunSide s (s.placeOne ts b) := by
  unfold State.placeOne
  split
  · split
    · exact orderTo_runSide b _ none s
    · exact .refl s
  · exact .refl s

/-- R133, R134: placement changes the run side alone. -/
theorem tryPlacement_runSide (s : State) : RunSide s s.tryPlacement := by
  unfold State.tryPlacement
  split
  · simp only
    split
    · exact ((RunSide.update s _ s.bars s.lanes).trans (.foldl (placeOne_runSide _) _ _)).trans
        (completePlacement_runSide _)
    · exact .refl s
  · exact .refl s

theorem beginPlacement_runSide (s : State) : RunSide s s.beginPlacement := .update s _ s.bars s.lanes

/-! ### Lane events -/

theorem deadlineCrossing_runSide (d : Deadline) (s : State) : RunSide s (s.deadlineCrossing d) := by
  unfold State.deadlineCrossing
  split
  · exact ((RunSide.update s s.run _ s.lanes).trans (setCause_runSide .late _)).trans (raise_runSide _ _)
  · exact .refl s

theorem orderAtCrossing_runSide (g : Nat) (x : Crossing) (s : State) (b : Nat) :
    RunSide s (s.orderAtCrossing g x b) := by
  unfold State.orderAtCrossing
  split
  · exact .refl s
  · split
    · exact (raiseIf_runSide _ _ s).trans (post_runSide b _ _)
    · exact .refl s

/-- R113: a zone crossing changes the run side alone. -/
theorem zoneCrossing_runSide (g : Nat) (x : Crossing) (s : State) : RunSide s (s.zoneCrossing g x) := by
  unfold State.zoneCrossing
  split
  · split
    · exact .foldl (orderAtCrossing_runSide g x) _ s
    · split
      · exact hardFault_runSide _ _ _ s
      · exact .refl s
  · exact .refl s

theorem replyTaken_runSide (b : Nat) (s : State) : RunSide s (s.replyTaken b) := by
  unfold State.replyTaken
  simp only
  split
  · split
    · split
      · exact ((setLane_runSide _ _ s).trans (setBar_runSide _ _ _)).trans (transmit_runSide _ _)
      · exact ((setLane_runSide _ _ s).trans (setBar_runSide _ _ _)).trans (enqueue_runSide _ _ _)
    · exact .refl s
  · exact .refl s

theorem replyInPosition_runSide (b x : Nat) (s : State) : RunSide s (s.replyInPosition b x) := by
  unfold State.replyInPosition
  split
  · split
    · exact (setBar_runSide _ _ s).trans (completePlacement_runSide _)
    · exact (setBar_runSide _ _ s).trans (barFault_runSide _ _ _)
  · exact .refl s

theorem loseFromLane_runSide (b : Nat) (s : State) : RunSide s (s.loseFromLane b) :=
  ((setBar_runSide _ _ s).trans (setLane_runSide _ _ _)).trans (transmit_runSide _ _)

theorem replyFault_runSide (b c : Nat) (s : State) : RunSide s (s.replyFault b c) := by
  unfold State.replyFault
  split
  · exact ((setBar_runSide _ _ s).trans (loseFromLane_runSide _ _)).trans (barFault_runSide _ _ _)
  · exact .refl s

/-- R118, R121, R122, R123: a reply changes the run side alone. -/
theorem driveReply_runSide (l a : Nat) (r : DriveReply) (s : State) : RunSide s (s.driveReply l a r) := by
  unfold State.driveReply
  split
  · exact .refl s
  · split
    · exact replyTaken_runSide _ s
    · exact replyInPosition_runSide _ _ s
    · exact replyFault_runSide _ _ s
    · exact .refl s

theorem frameSent_runSide (g : Nat) (s : State) : RunSide s (s.frameSent g) := by
  unfold State.frameSent
  simp only
  split
  · split
    · exact (setLane_runSide _ _ s).trans (setBar_runSide _ _ _)
    · exact (setLane_runSide _ _ s).trans (transmit_runSide _ _)
  · exact .refl s

theorem takeLimitReached_runSide (b : Nat) (s : State) : RunSide s (s.takeLimitReached b) := by
  unfold State.takeLimitReached
  split
  · split
    · split
      · exact (loseFromLane_runSide _ s).trans (barFault_runSide _ _ _)
      · exact .refl s
    · exact .refl s
  · exact .refl s

theorem moveLimitReached_runSide (b : Nat) (s : State) : RunSide s (s.moveLimitReached b) := by
  unfold State.moveLimitReached
  split
  · split
    · split
      · exact (setBar_runSide _ _ s).trans (barFault_runSide _ _ _)
      · exact .refl s
    · exact .refl s
  · exact .refl s

/-! ### HOME -/

theorem homeEffect_runSide (b : Nat) (s : State) : RunSide s (homeEffect b s) := by
  have h : ∀ s b, RunSide s (State.homeOne s b) := fun s b => by
    unfold State.homeOne
    split
    · exact post_runSide b _ s
    · exact .refl s
  unfold homeEffect
  split
  · exact .foldl h _ s
  · exact h s b

/-! ### The shaft side -/

/-- Only the tracker, the queue, the builder, the arbiter, run control, the bars, the lanes and event flags have
changed. -/
structure ShaftSide (s t : State) : Prop where
  pending : t.pending = s.pending
  now : t.now = s.now
  resetHeld : t.resetHeld = s.resetHeld
  constants : t.constants = s.constants
  memory : t.memory = s.memory
  regions : t.regions = s.regions
  segments : t.segments = s.segments
  sequence : t.sequence = s.sequence
  classes : t.classes = s.classes
  engine : t.engine = s.engine
  ports : ∀ p, Raised (s.port p) (t.port p)

theorem ShaftSide.refl (s : State) : ShaftSide s s := by constructor <;> first | rfl | exact fun p => Raised.refl _

theorem ShaftSide.trans {s t u : State} (h : ShaftSide s t) (k : ShaftSide t u) : ShaftSide s u := by
  constructor
  case ports => exact fun p => (h.ports p).trans (k.ports p)
  all_goals first
    | exact k.pending.trans h.pending | exact k.now.trans h.now | exact k.resetHeld.trans h.resetHeld
    | exact k.constants.trans h.constants | exact k.memory.trans h.memory | exact k.regions.trans h.regions
    | exact k.segments.trans h.segments | exact k.sequence.trans h.sequence | exact k.classes.trans h.classes
    | exact k.engine.trans h.engine

theorem RunSide.shaftSide {s t : State} (h : RunSide s t) : ShaftSide s t :=
  ⟨h.pending, h.now, h.resetHeld, h.constants, h.memory, h.regions, h.segments, h.sequence, h.classes, h.engine, h.ports⟩

/-- Updates of the tracker, the queue, the builder, the arbiter and run control alone. -/
theorem ShaftSide.update (s : State) (k : Tracker) (q : CourseQueue) (b : Builder) (a : Arbiter) (r : RunControl) :
    ShaftSide s { s with tracker := k, queue := q, builder := b, arbiter := a, run := r } := by
  constructor <;> first | rfl | exact fun p => by cases p <;> exact Raised.refl _

theorem ShaftSide.foldl {α : Type} {f : State → α → State} (h : ∀ s a, ShaftSide s (f s a)) (l : List α) (s : State) :
    ShaftSide s (l.foldl f s) := by
  induction l generalizing s with
  | nil => exact .refl s
  | cons a l ih => exact (h s a).trans (ih (f s a))

theorem overrunForward_shaftSide (s : State) : ShaftSide s s.overrunForward :=
  ((ShaftSide.update s s.tracker _ s.builder s.arbiter s.run).trans (setCause_runSide _ _).shaftSide).trans
    (raise_runSide _ _).shaftSide

theorem headLeaves_shaftSide (r : Record) (l : List Record) (s : State) : ShaftSide s (s.headLeaves r l) := by
  unfold State.headLeaves
  split
  · exact (ShaftSide.update s s.tracker _ s.builder s.arbiter s.run).trans (setCause_runSide _ _).shaftSide
  · exact .update s s.tracker _ s.builder s.arbiter s.run

theorem endArticle_shaftSide (s : State) : ShaftSide s s.endArticle := by
  unfold State.endArticle
  split
  · exact (ShaftSide.update s s.tracker _ s.builder s.arbiter _).trans (raise_runSide _ _).shaftSide
  · exact .refl s

theorem queueForward_shaftSide (s : State) : ShaftSide s s.queueForward := by
  have adv : ShaftSide s s.advanceQueue := by
    unfold State.advanceQueue
    split
    · split
      · exact overrunForward_shaftSide s
      · exact (hardFault_runSide _ _ _ s).shaftSide
    · split
      · exact (headLeaves_shaftSide _ _ s).trans (endArticle_shaftSide _)
      · exact (headLeaves_shaftSide _ _ s).trans (hardFault_runSide _ _ _ _).shaftSide
    · exact headLeaves_shaftSide _ _ s
  unfold State.queueForward
  split
  · exact .refl s
  · exact overrunForward_shaftSide s
  · split
    · exact .update s s.tracker _ s.builder s.arbiter s.run
    · exact adv

theorem discardTail_shaftSide (s : State) : ShaftSide s s.discardTail := by
  unfold State.discardTail
  split
  · exact .refl s
  · exact .update s s.tracker _ _ s.arbiter s.run

theorem abandonBuild_shaftSide (s : State) : ShaftSide s s.abandonBuild := .update s s.tracker s.queue _ _ s.run

theorem restore_shaftSide (s : State) : ShaftSide s s.restore := by
  unfold State.restore
  split
  · exact .refl s
  · simp only
    split
    · exact ((ShaftSide.update s s.tracker _ s.builder s.arbiter s.run).trans (discardTail_shaftSide _)).trans
        (abandonBuild_shaftSide _)
    · split
      · exact (ShaftSide.update s s.tracker _ s.builder s.arbiter s.run).trans (abandonBuild_shaftSide _)
      · exact .update s s.tracker _ s.builder s.arbiter s.run

theorem retreat_shaftSide (s : State) : ShaftSide s s.retreat := by
  have h := ((ShaftSide.update s s.tracker { s.queue with backlog := min 255 (s.queue.backlog + 1) } s.builder s.arbiter
    s.run).trans (setCause_runSide .backoff _).shaftSide).trans (raise_runSide .backoff _).shaftSide
  unfold State.retreat
  simp only
  split
  · exact h.trans (hardFault_runSide _ _ _ _).shaftSide
  · exact h

theorem overrunBackward_shaftSide (s : State) : ShaftSide s s.overrunBackward := by
  unfold State.overrunBackward
  split
  · exact .update s s.tracker _ s.builder s.arbiter s.run
  · split
    · exact .refl s
    · split
      · exact (restore_shaftSide s).trans (.update s.restore s.restore.tracker s.restore.queue s.restore.builder
          s.restore.arbiter _)
      · exact restore_shaftSide s

theorem queueBackward_shaftSide (s : State) : ShaftSide s s.queueBackward := by
  unfold State.queueBackward
  split
  · exact .refl s
  · exact overrunBackward_shaftSide s
  · split
    · exact overrunBackward_shaftSide s
    · split
      · exact retreat_shaftSide s
      · exact restore_shaftSide s

theorem watchCeiling_shaftSide {f : State → State} {s : State} (h : ShaftSide s (f s)) : ShaftSide s (s.watchCeiling f) :=
  h.trans (raiseIf_runSide _ _ _).shaftSide

theorem forwardBoundary_shaftSide (t : Nat) (s : State) : ShaftSide s (s.forwardBoundary t) :=
  (ShaftSide.update s _ s.queue s.builder s.arbiter s.run).trans (watchCeiling_shaftSide (queueForward_shaftSide _))

theorem backwardBoundary_shaftSide (s : State) : ShaftSide s s.backwardBoundary :=
  watchCeiling_shaftSide (queueBackward_shaftSide s)

theorem reportCount_runSide (s : State) : RunSide s s.reportCount := by
  unfold State.reportCount
  split
  · exact hardFault_runSide _ _ _ s
  · exact .refl s

theorem deadlinesFrom_runSide (a a' : Nat) (s : State) : RunSide s (s.deadlinesFrom a a') := by
  unfold State.deadlinesFrom
  simp only
  split <;> split <;>
    first
    | exact (deadlineCrossing_runSide _ s).trans (deadlineCrossing_runSide _ _)
    | exact deadlineCrossing_runSide _ s
    | exact .refl s

theorem zonesForward_runSide (a a' : Nat) (s : State) (g : Nat) : RunSide s (s.zonesForward a a' g) := by
  unfold State.zonesForward
  simp only
  split <;> split <;>
    first
    | exact (zoneCrossing_runSide _ _ s).trans (zoneCrossing_runSide _ _ _)
    | exact zoneCrossing_runSide _ _ s
    | exact .refl s

theorem zonesReverse_runSide (a a' : Nat) (s : State) (g : Nat) : RunSide s (s.zonesReverse a a' g) := by
  unfold State.zonesReverse
  simp only
  split <;> split <;>
    first
    | exact (zoneCrossing_runSide _ _ s).trans (zoneCrossing_runSide _ _ _)
    | exact zoneCrossing_runSide _ _ s
    | exact .refl s

theorem crossForward_shaftSide (c t : Nat) (s : State) : ShaftSide s (s.crossForward c t) := by
  have h : ∀ a a', ShaftSide s ((List.range 4).foldl (State.zonesForward a a') (s.deadlinesFrom a a')) := fun a a' =>
    ((deadlinesFrom_runSide a a' s).trans (.foldl (zonesForward_runSide a a') _ _)).shaftSide
  unfold State.crossForward
  simp only
  split
  · exact (h _ _).trans (forwardBoundary_shaftSide t _)
  · exact h _ _

theorem crossReverse_shaftSide (c : Nat) (s : State) : ShaftSide s (s.crossReverse c) := by
  unfold State.crossReverse
  simp only
  split
  · exact (backwardBoundary_shaftSide s).trans (RunSide.foldl (zonesReverse_runSide _ _) _ _).shaftSide
  · exact (RunSide.foldl (zonesReverse_runSide _ _) _ s).shaftSide

/-- R1: a count changes the shaft side alone. -/
theorem takeCount_shaftSide (d : Direction) (t : Nat) (s : State) : ShaftSide s (s.takeCount d t) := by
  have h : ∀ k, ShaftSide s (State.reportCount { s with tracker := k }) := fun k =>
    (ShaftSide.update s k s.queue s.builder s.arbiter s.run).trans (reportCount_runSide _).shaftSide
  unfold State.takeCount
  simp only
  split
  · split
    · exact (h _).trans (crossForward_shaftSide _ _ _)
    · exact (h _).trans (crossReverse_shaftSide _ _)
  · exact h _

/-- R3: an index changes the shaft side alone. -/
theorem takeIndex_shaftSide (s : State) : ShaftSide s s.takeIndex := by
  unfold State.takeIndex
  split
  · split
    · exact .refl s
    · unfold State.slip
      simp only
      have h := (ShaftSide.update s { s.tracker with counter := 0, startTime := none, period := none } s.queue s.builder
        s.arbiter s.run).trans (raise_runSide .slip _).shaftSide
      split
      · exact h.trans (hardFault_runSide _ _ _ _).shaftSide
      · exact h
  · exact .update s _ s.queue s.builder s.arbiter s.run

theorem simulate_shaftSide (t : Nat) (s : State) : ShaftSide s (s.simulate t) := by
  have h := (ShaftSide.update s s.tracker.giveCount s.queue s.builder s.arbiter s.run).trans
    (takeCount_shaftSide .forward t _)
  unfold State.simulate
  simp only
  split
  · exact h.trans (takeIndex_shaftSide _)
  · exact h

end Sys2Proof.Machine
end

