-- ==== Sys2Proof/Laws/Orders.lean ====
section
/-! SUPPORT. What transmitting, joining a lane's queue and posting an order can do, said once; and what a lane does with a
reply while it transmits itself. -/

namespace Sys2Proof.Machine

/-! ### Transmitting -/

@[simp] theorem State.transmit_bars (g : Nat) (s : State) : (s.transmit g).bars = s.bars := by
  unfold State.transmit
  dsimp only
  split
  · rfl
  · split <;> rfl

@[simp] theorem State.transmit_bar (g b : Nat) (s : State) : (s.transmit g).bar b = s.bar b := by
  unfold State.bar
  rw [State.transmit_bars]

/-- A lane beyond the table has the empty queue. -/
theorem State.lane_beyond (s : State) {g : Nat} (h : s.lanes.length ≤ g) : s.lane g = Lane.initial := by
  simp [State.lane, List.getD_eq_getElem?_getD, List.getElem?_eq_none h]

@[simp] theorem State.transmit_lane_queue (g n : Nat) (s : State) : ((s.transmit g).lane n).queue = (s.lane n).queue := by
  unfold State.transmit
  dsimp only
  split
  · rfl
  · split
    · rfl
    · by_cases hn : g = n
      · subst hn
        by_cases hg : g < s.lanes.length
        · rw [State.lane_setLane s _ hg]
        · have h : (s.lane g).queue = [] := by rw [s.lane_beyond (Nat.le_of_not_lt hg)]; rfl
          simp_all
      · rw [State.lane_setLane_ne s _ hn]

/-- A lane other than the one that transmits is as it was. -/
theorem State.transmit_lane_ne {g n : Nat} (s : State) (h : g ≠ n) : (s.transmit g).lane n = s.lane n := by
  unfold State.transmit
  dsimp only
  split
  · rfl
  · split
    · rfl
    · exact State.lane_setLane_ne s _ h

/-- A lane that has transmitted does not stand free with entries in its queue (R116). -/
theorem State.transmit_transmits (g : Nat) (s : State) : ((s.transmit g).lane g).Transmits := by
  unfold State.transmit
  dsimp only
  split
  · next h => exact fun hq => absurd h hq
  · next h =>
    split
    · next hf => exact fun _ => by simpa using hf
    · by_cases hg : g < s.lanes.length
      · rw [State.lane_setLane s _ hg]
        exact fun _ => .inl rfl
      · rw [s.lane_beyond (Nat.le_of_not_lt hg)] at h
        exact absurd h (by simp [Lane.initial])

/-! ### Joining a lane's queue -/

@[simp] theorem State.enqueue_bars (b : Nat) (o : Order) (s : State) : (s.enqueue b o).bars = s.bars := by
  simp [State.enqueue, State.setLane]

@[simp] theorem State.enqueue_bar (b n : Nat) (o : Order) (s : State) : (s.enqueue b o).bar n = s.bar n := by
  unfold State.bar
  rw [State.enqueue_bars]

/-- An entry joins the tail of its lane's queue. -/
theorem State.enqueue_queue {b : Nat} (o : Order) (s : State) (h : (s.bar b).lane < s.lanes.length) :
    ((s.enqueue b o).lane (s.bar b).lane).queue =
      (s.lane (s.bar b).lane).queue ++ [{ bar := b, kind := o.kind, target := o.target }] := by
  simp [State.enqueue, State.lane_setLane s _ h]

/-- The other lanes are as they were. -/
theorem State.enqueue_lane_ne {b n : Nat} (o : Order) (s : State) (h : (s.bar b).lane ≠ n) :
    (s.enqueue b o).lane n = s.lane n := by
  unfold State.enqueue
  rw [State.transmit_lane_ne _ h, State.lane_setLane_ne s _ h]

/-- The entries of the other bars are as they were. -/
theorem State.enqueue_entries_ne {b n : Nat} (o : Order) (s : State) (h : n ≠ b) (g : Nat) :
    (((s.enqueue b o).lane g).queue.filter fun e => e.bar == n) = (s.lane g).queue.filter fun e => e.bar == n := by
  by_cases hg : (s.bar b).lane = g
  · subst hg
    by_cases hl : (s.bar b).lane < s.lanes.length
    · simp [State.enqueue_queue o s hl, Ne.symm h]
    · rw [State.enqueue, State.transmit_lane_queue]
      simp [State.setLane, State.lane, List.set_eq_of_length_le (Nat.le_of_not_lt hl)]
  · rw [State.enqueue_lane_ne o s hg]

/-! ### Posting (R117) -/

/-- A posting leaves the other bars as they were. -/
theorem State.post_bar_ne {b n : Nat} (o : Order) (s : State) (h : n ≠ b) : (s.post b o).bar n = s.bar n := by
  unfold State.post State.dryAnswer State.postWet State.setPosted
  dsimp only
  repeat' split
  all_goals simp [Ne.symm h]

/-- A posting leaves the entries of the other bars as they were. -/
theorem State.post_entries_ne {b n : Nat} (o : Order) (s : State) (h : n ≠ b) (g : Nat) :
    (((s.post b o).lane g).queue.filter fun e => e.bar == n) = (s.lane g).queue.filter fun e => e.bar == n := by
  have replaced (u : State) (x : Lane) (hu : ∀ k, u.lane k = s.lane k) (hul : u.lanes = s.lanes) (k : Nat)
      (hx : (x.queue.filter fun e => e.bar == n) = (s.lane k).queue.filter fun e => e.bar == n) :
      (((u.setLane k x).lane g).queue.filter fun e => e.bar == n) = (s.lane g).queue.filter fun e => e.bar == n := by
    by_cases hk : k = g
    · subst hk
      by_cases hl : k < u.lanes.length
      · rw [State.lane_setLane u _ hl, hx]
      · have : (u.setLane k x).lane k = u.lane k := by
          simp [State.setLane, State.lane, List.set_eq_of_length_le (Nat.le_of_not_lt hl)]
        rw [this, hu]
    · rw [State.lane_setLane_ne u _ hk, hu]
  unfold State.post State.dryAnswer State.postWet State.setPosted
  dsimp only
  split
  · split
    · rfl
    · split
      · rfl
      · rw [State.enqueue_entries_ne o _ h]; rfl
      · rw [State.enqueue_entries_ne o _ h]; rfl
      · split
        · rfl
        · split
          · refine replaced _ _ (fun _ => rfl) rfl _ ?_
            simp only [Lane.remove, List.filter_filter]
            refine List.filter_congr fun e _ => ?_
            by_cases he : e.bar = n <;> simp [he, h]
          · refine replaced _ _ (fun _ => rfl) rfl _ ?_
            simp only [Lane.replace, List.filter_map]
            rw [List.filter_congr (q := fun e : LaneEntry => e.bar == n)]
            · refine (List.map_congr_left fun e he => ?_).trans (List.map_id _)
              have : e.bar = n := by simpa using (List.mem_filter.mp he).2
              simp [this, h]
            · intro e _
              by_cases hb : e.bar = b <;> simp [hb]
      · rw [State.enqueue_entries_ne o _ h]; rfl
  · rfl

/-- What a posting does to its own bar and to that bar's entries with the source ENCODER: R117, by the bar's state. -/
theorem State.post_ordered {b : Nat} (o : Order) (s : State) (hb : b < s.bars.length)
    (hl : (s.bar b).lane < s.lanes.length) (hs : s.tracker.source = .encoder) (ho : (s.bar b).handshake ≠ .off)
    (hlost : (s.bar b).handshake = .lost → o.kind = .home) : Ordered b o s (s.post b o) := by
  have known : (s.bar b).knownAfterPosting o = if o.kind = .home then none else (s.bar b).known := by
    unfold Bar.knownAfterPosting
    cases o.kind <;> rfl
  have takes : (s.bar b).takesOrder o = true := by
    unfold Bar.takesOrder
    split
    · contradiction
    · next h => simp [hlost h]
    · rfl
  have lane (c : Chain) : ((s.setPosted b o c).bar b).lane = (s.bar b).lane := by
    simp [State.setPosted, State.bar_setBar s _ hb]
  have queued (c : Chain) :
      ((((s.setPosted b o c).enqueue b o).lane (s.bar b).lane).queue.filter fun e => e.bar == b) =
        ((s.lane (s.bar b).lane).queue.filter fun e => e.bar == b) ++
          [{ bar := b, kind := o.kind, target := o.target }] := by
    have := State.enqueue_queue (b := b) o (s.setPosted b o c) (by rw [lane]; exact hl)
    rw [lane] at this
    rw [this]
    simp [State.setPosted]
  unfold Ordered
  dsimp only
  simp only [State.post, takes, hs, State.postWet, if_true]
  cases h : (s.bar b).handshake with
  | off => contradiction
  | idle =>
    simp only [reduceCtorEq, if_false]
    exact ⟨by simp [State.setPosted, State.bar_setBar s _ hb, known], queued _⟩
  | lost =>
    simp only [reduceCtorEq, if_false]
    exact ⟨by simp [State.setPosted, State.bar_setBar s _ hb, known], queued _⟩
  | moving c =>
    simp only [reduceCtorEq, if_false]
    exact ⟨by simp [State.setPosted, State.bar_setBar s _ hb, known], queued _⟩
  | posted c =>
    simp only [reduceCtorEq, if_false]
    split
    · exact ⟨by simp [State.setPosted, State.bar_setBar s _ hb, known], rfl⟩
    · split
      · refine ⟨by simp [State.bar_setBar s _ hb], ?_⟩
        rw [State.lane_setLane (s.setBar b _) _ hl]
        simp only [Lane.remove, List.filter_filter]
        exact List.filter_eq_nil_iff.mpr fun e _ => by by_cases he : e.bar = b <;> simp [he]
      · refine ⟨by simp [State.setPosted, State.bar_setBar s _ hb, known], ?_⟩
        unfold State.setPosted
        rw [State.lane_setLane (s.setBar b _) _ hl]
        simp only [Lane.replace, List.filter_map]
        rw [List.filter_congr (q := fun e : LaneEntry => e.bar == b)]
        · refine List.map_congr_left fun e he => ?_
          have : e.bar = b := by simpa using (List.mem_filter.mp he).2
          simp [this]
        · intro e _
          by_cases hb : e.bar = b <;> simp [hb]

/-! ### Replies (R164) -/

/-- A lane that transmits hears nothing. -/
theorem State.driveReply_transmitting {lane : Nat} (address : Nat) (r : DriveReply) {s : State}
    (h : (s.lane lane).frame.isSome = true) : s.driveReply lane address r = s := by
  simp [State.driveReply, h]

end Sys2Proof.Machine
end

