-- ==== Sys2Proof/Laws/PerInstr.lean ====
section
/-! SUPPORT. One lemma per command or event, of its syntax alone: its frame has the length that the command table of
section 10.8 gives, and an event has no frame. -/

namespace Sys2Proof.Laws.FrameFits

open Sys2Proof.Machine

/-- The argument bytes of a port command, by the command table of section 10.8; an event has no frame. -/
def argumentBytes : Instr → Option Nat
  | .powerUp => none
  | .resetInput => none
  | .encoderCount _ _ => none
  | .encoderIndex => none
  | .simulatedCount _ => none
  | .stillTimerExpiry _ => none
  | .buildBegin => none
  | .builderFetch => none
  | .append => none
  | .orderFrameSent _ _ => none
  | .taken _ _ _ => none
  | .inPosition _ _ _ => none
  | .fault _ _ _ => none
  | .replyFrameIgnored _ _ _ => none
  | .takeLimitExpiry _ _ => none
  | .moveLimitExpiry _ _ => none
  | .chunk => none
  | .readCellsGrant _ => none
  | .writeCellsGrant _ => none
  | .transactionBegin _ => none
  | .transactionEnd _ _ => none
  | .replyRead _ => some 0
  | .unknownCommand _ _ => some 0
  | .status _ => some 0
  | .eventsRead _ => some 0
  | .eventsClear _ _ => some 2
  | .eventsEnable _ _ => some 2
  | .shaftLatch _ => some 0
  | .shaftRead _ => some 0
  | .getConstants _ => some 0
  | .setConstants _ _ _ => some 18
  | .setSource _ _ _ => some 1
  | .simSpeed _ _ _ => some 2
  | .simGate _ _ _ => some 1
  | .readCells _ _ _ => some 4
  | .writeCells _ _ n _ => some (4 + 2 * cellsCarried n)
  | .regionSet _ _ _ _ => some 7
  | .regionClear _ _ => some 1
  | .regionGet _ _ => some 1
  | .lock _ _ => some 1
  | .unlock _ _ => some 1
  | .lockDown _ _ => some 1
  | .map _ _ _ _ _ _ => some 9
  | .mapCancel _ _ => some 1
  | .mapClear _ _ => some 1
  | .mapGet _ _ => some 1
  | .seqWrite _ _ _ _ _ => some 5
  | .seqForm _ _ _ => some 2
  | .seqRepeat _ _ _ => some 3
  | .seqGet _ _ => some 1
  | .setClass _ _ _ _ => some 5
  | .setBar _ _ _ _ _ _ _ => some 6
  | .home _ _ => some 1
  | .placeBar _ _ _ => some 2
  | .getBar _ _ => some 1
  | .queueRead _ _ _ => some 2
  | .arm _ _ _ _ => some 5
  | .disarm _ => some 0
  | .resume _ => some 0
  | .restart _ => some 0
  | .clearStop _ => some 0
  | .continueRun _ => some 0
  | .opFill _ _ _ => some 3
  | .opCopy _ _ _ _ => some 9
  | .opCheck _ _ _ => some 2
  | .opSuspend _ => some 0
  | .opResume _ => some 0
  | .opAbort _ => some 0
  | .opStatus _ => some 0
  | .resetRelease => none

/-- A command's frame is its code and its argument bytes; an event has none. -/
def Statement (i : Instr) : Prop :=
  i.wellFormed = true → (commandFrame i).length = match argumentBytes i with
    | some n => 1 + n
    | none => 0

theorem powerUp : Statement .powerUp := fun _ => rfl

theorem resetInput : Statement .resetInput := fun _ => rfl

theorem encoderCount (edge : Edge) (time : Nat) : Statement (.encoderCount edge time) := fun _ => rfl

theorem encoderIndex : Statement .encoderIndex := fun _ => rfl

theorem simulatedCount (time : Nat) : Statement (.simulatedCount time) := fun _ => rfl

theorem stillTimerExpiry (time : Nat) : Statement (.stillTimerExpiry time) := fun _ => rfl

theorem buildBegin : Statement .buildBegin := fun _ => rfl

theorem builderFetch : Statement .builderFetch := fun _ => rfl

theorem append : Statement .append := fun _ => rfl

theorem orderFrameSent (lane time : Nat) : Statement (.orderFrameSent lane time) := fun _ => rfl

theorem taken (lane address time : Nat) : Statement (.taken lane address time) := fun _ => rfl

theorem inPosition (lane address position : Nat) : Statement (.inPosition lane address position) := fun _ => rfl

theorem fault (lane address code : Nat) : Statement (.fault lane address code) := fun _ => rfl

theorem replyFrameIgnored (lane : Nat) (frame : ReplyFrame) (time : Nat) :
    Statement (.replyFrameIgnored lane frame time) := fun _ => rfl

theorem takeLimitExpiry (bar time : Nat) : Statement (.takeLimitExpiry bar time) := fun _ => rfl

theorem moveLimitExpiry (bar time : Nat) : Statement (.moveLimitExpiry bar time) := fun _ => rfl

theorem chunk : Statement .chunk := fun _ => rfl

theorem readCellsGrant (port : Port) : Statement (.readCellsGrant port) := fun _ => rfl

theorem writeCellsGrant (port : Port) : Statement (.writeCellsGrant port) := fun _ => rfl

theorem transactionBegin (port : Port) : Statement (.transactionBegin port) := fun _ => rfl

theorem transactionEnd (port : Port) (bits : Nat) : Statement (.transactionEnd port bits) := fun _ => rfl

theorem replyRead (port : Port) : Statement (.replyRead port) := fun _ => rfl

theorem unknownCommand (port : Port) (code : Byte) : Statement (.unknownCommand port code) := fun _ => rfl

theorem status (port : Port) : Statement (.status port) := fun _ => rfl

theorem eventsRead (port : Port) : Statement (.eventsRead port) := fun _ => rfl

theorem eventsClear (port : Port) (mask : EventSet) : Statement (.eventsClear port mask) := fun _ => rfl

theorem eventsEnable (port : Port) (mask : EventSet) : Statement (.eventsEnable port mask) := fun _ => rfl

theorem shaftLatch (port : Port) : Statement (.shaftLatch port) := fun _ => rfl

theorem shaftRead (port : Port) : Statement (.shaftRead port) := fun _ => rfl

theorem getConstants (port : Port) : Statement (.getConstants port) := fun _ => rfl

theorem setConstants (port : Port) (constants : MachineConstants) (time : Nat) :
    Statement (.setConstants port constants time) := fun _ => rfl

theorem setSource (port : Port) (source time : Nat) : Statement (.setSource port source time) := fun _ => rfl

theorem simSpeed (port : Port) (rate time : Nat) : Statement (.simSpeed port rate time) := fun _ => rfl

theorem simGate (port : Port) (gate time : Nat) : Statement (.simGate port gate time) := fun _ => rfl

theorem readCells (port : Port) (address count : Nat) : Statement (.readCells port address count) := fun _ => rfl

theorem writeCells (port : Port) (address count : Nat) (cells : List Cell) :
    Statement (.writeCells port address count cells) := by
  intro h
  simp [Instr.wellFormed] at h
  simp only [commandFrame, argumentBytes, List.length_cons, List.length_append, field3_length, field1_length, cellBytes_length,
    h]
  show _ = 1 + (4 + 2 * cellsCarried count)
  omega

theorem regionSet (port : Port) (region base size : Nat) :
    Statement (.regionSet port region base size) := fun _ => rfl

theorem regionClear (port : Port) (region : Nat) : Statement (.regionClear port region) := fun _ => rfl

theorem regionGet (port : Port) (region : Nat) : Statement (.regionGet port region) := fun _ => rfl

theorem lock (port : Port) (region : Nat) : Statement (.lock port region) := fun _ => rfl

theorem unlock (port : Port) (region : Nat) : Statement (.unlock port region) := fun _ => rfl

theorem lockDown (port : Port) (region : Nat) : Statement (.lockDown port region) := fun _ => rfl

theorem map (port : Port) (segment base courses bars : Nat) (expected : Check) :
    Statement (.map port segment base courses bars expected) := fun _ => rfl

theorem mapCancel (port : Port) (segment : Nat) : Statement (.mapCancel port segment) := fun _ => rfl

theorem mapClear (port : Port) (segment : Nat) : Statement (.mapClear port segment) := fun _ => rfl

theorem mapGet (port : Port) (segment : Nat) : Statement (.mapGet port segment) := fun _ => rfl

theorem seqWrite (port : Port) (entry segment repeats flags : Nat) :
    Statement (.seqWrite port entry segment repeats flags) := fun _ => rfl

theorem seqForm (port : Port) (length mode : Nat) : Statement (.seqForm port length mode) := fun _ => rfl

theorem seqRepeat (port : Port) (entry repeats : Nat) : Statement (.seqRepeat port entry repeats) := fun _ => rfl

theorem seqGet (port : Port) (entry : Nat) : Statement (.seqGet port entry) := fun _ => rfl

theorem setClass (port : Port) (cls base perSpace : Nat) :
    Statement (.setClass port cls base perSpace) := fun _ => rfl

theorem setBar (port : Port) (bar enabled lane address cls limit : Nat) :
    Statement (.setBar port bar enabled lane address cls limit) := fun _ => rfl

theorem home (port : Port) (bar : Nat) : Statement (.home port bar) := fun _ => rfl

theorem placeBar (port : Port) (bar position : Nat) : Statement (.placeBar port bar position) := fun _ => rfl

theorem getBar (port : Port) (bar : Nat) : Statement (.getBar port bar) := fun _ => rfl

theorem queueRead (port : Port) (list index : Nat) : Statement (.queueRead port list index) := fun _ => rfl

theorem arm (port : Port) (entry iteration course : Nat) :
    Statement (.arm port entry iteration course) := fun _ => rfl

theorem disarm (port : Port) : Statement (.disarm port) := fun _ => rfl

theorem resume (port : Port) : Statement (.resume port) := fun _ => rfl

theorem restart (port : Port) : Statement (.restart port) := fun _ => rfl

theorem clearStop (port : Port) : Statement (.clearStop port) := fun _ => rfl

theorem continueRun (port : Port) : Statement (.continueRun port) := fun _ => rfl

theorem opFill (port : Port) (region : Nat) (value : Cell) : Statement (.opFill port region value) := fun _ => rfl

theorem opCopy (port : Port) (source destination count : Nat) :
    Statement (.opCopy port source destination count) := fun _ => rfl

theorem opCheck (port : Port) (segment mapping : Nat) : Statement (.opCheck port segment mapping) := fun _ => rfl

theorem opSuspend (port : Port) : Statement (.opSuspend port) := fun _ => rfl

theorem opResume (port : Port) : Statement (.opResume port) := fun _ => rfl

theorem opAbort (port : Port) : Statement (.opAbort port) := fun _ => rfl

theorem opStatus (port : Port) : Statement (.opStatus port) := fun _ => rfl

theorem resetRelease : Statement .resetRelease := fun _ => rfl

end Sys2Proof.Laws.FrameFits
end

