-- ==== Sys2Proof/Laws/Ports.lean ====
section
/-! SUPPORT. How a port takes a command, said once: everything `State.take` and `State.command` can do. -/

namespace Sys2Proof.Machine

/-- The four things a port can do with a whole frame (R156 to R159): it does not listen, it discards the frame, it answers
with a first test's refusal, or it runs the body on the state in which the frame has been received. -/
theorem take_cases (p : Port) (frame : List Byte) (first : Option Status) (body : Body) (s : State) :
    (s.listens p = false ∧ s.take p frame first body = s) ∨
    (s.listens p = true ∧ (s.port p).slot = .pending ∧
      s.take p frame first body =
        (s.receive p frame).setPort p { (s.receive p frame).port p with discard := true }) ∨
    (s.listens p = true ∧ (s.port p).slot ≠ .pending ∧ ∃ status, first = some status ∧
      s.take p frame first body = (s.receive p frame).setSlot p (.ready (refuse status))) ∨
    (s.listens p = true ∧ (s.port p).slot ≠ .pending ∧ first = none ∧
      s.take p frame first body =
        (body (s.receive p frame)).1.setSlot p (body (s.receive p frame)).2) := by
  unfold State.take
  by_cases hl : s.listens p = true
  · by_cases hs : (s.port p).slot = .pending
    · exact .inr (.inl ⟨hl, hs, by simp [hl, hs]⟩)
    · cases first with
      | none => exact .inr (.inr (.inr ⟨hl, hs, rfl, by simp [hl, hs]⟩))
      | some status => exact .inr (.inr (.inl ⟨hl, hs, status, rfl, by simp [hl, hs, refuse]⟩))
  · exact .inl ⟨by simpa using hl, by simp [hl]⟩

/-- What a judged command does: a refusal changes nothing, otherwise it has its effect. -/
theorem judged_cases (refusal : State → Option Reply) (effect : State → State) (data : State → List Byte) (s : State) :
    (∃ r, refusal s = some r ∧ judged refusal effect data s = (s, .ready r)) ∨
    (refusal s = none ∧ judged refusal effect data s = (effect s, .ready { status := .ok, data := data s })) := by
  unfold judged
  cases h : refusal s with
  | none => exact .inr ⟨rfl, rfl⟩
  | some r => exact .inl ⟨r, rfl, rfl⟩

/-- A command that its port takes and no test refuses: its effect on the received state, and its data with status OK. -/
theorem command_ok {p : Port} {onlyM : Bool} {i : Instr} {refusal : State → Option Reply} {effect : State → State}
    {data : State → List Byte} {s : State} (h : s.accepts p) (hm : onlyM = true → p = .m)
    (hr : refusal (s.receive p (commandFrame i)) = none) :
    s.command p onlyM i (judged refusal effect data) =
      (effect (s.receive p (commandFrame i))).setSlot p
        (.ready { status := .ok, data := data (s.receive p (commandFrame i)) }) := by
  obtain ⟨⟨hl, hs⟩, hf⟩ := h
  have first : s.firstTests p onlyM = none := by
    unfold State.firstTests
    rw [hf]
    cases onlyM <;> cases p <;> simp_all
  unfold State.command State.take judged
  simp [hl, hs, first, hr]

/-- A command that its port takes and its owning rule refuses: nothing but the port changes. -/
theorem command_refused {p : Port} {onlyM : Bool} {i : Instr} {refusal : State → Option Reply}
    {effect : State → State} {data : State → List Byte} {s : State} {r : Reply} (h : s.accepts p)
    (hm : onlyM = true → p = .m) (hr : refusal (s.receive p (commandFrame i)) = some r) :
    s.command p onlyM i (judged refusal effect data) = (s.receive p (commandFrame i)).setSlot p (.ready r) := by
  obtain ⟨⟨hl, hs⟩, hf⟩ := h
  have first : s.firstTests p onlyM = none := by
    unfold State.firstTests
    rw [hf]
    cases onlyM <;> cases p <;> simp_all
  unfold State.command State.take judged
  simp [hl, hs, first, hr]

/-- A command that the first tests refuse (R159): nothing but the port changes. -/
theorem command_first {p : Port} {onlyM : Bool} {i : Instr} {body : Body} {s : State} {status : Status}
    (hl : s.listens p = true) (hs : (s.port p).slot ≠ .pending) (hf : s.firstTests p onlyM = some status) :
    s.command p onlyM i body = (s.receive p (commandFrame i)).setSlot p (.ready (refuse status)) := by
  unfold State.command State.take
  simp [hl, hs, hf, refuse]

/-- Every part but the ports is as it was. -/
theorem receive_reads {α : Type} (f : State → α) (h : ∀ s p x, f (State.setPort p x s) = f s) (p : Port)
    (frame : List Byte) (s : State) : f (s.receive p frame) = f s := h s p _

/-- What a transaction has shifted out after so many bits (R156): its own bytes, and FFH after them. -/
@[simp] theorem Transaction.out_length (bits : Nat) (t : Transaction) : (t.out bits).length = bits / 8 := by
  simp [Transaction.out]

theorem Transaction.out_getD {bits k : Nat} (t : Transaction) (x : Byte) (h : k < bits / 8) :
    (t.out bits).getD k x = t.shifted.getD k 0xFF#8 := by
  simp [Transaction.out, List.getD_eq_getElem?_getD, h]

/-- The first refusal of a list of tests is none exactly when no test refuses. -/
theorem firstRefusal_none {l : List (Bool × Status)} : firstRefusal l = none ↔ ∀ x ∈ l, x.1 = false := by
  induction l with
  | nil => simp [firstRefusal]
  | cons x rest ih => cases h : x.1 <;> simp [firstRefusal, h, ih]

end Sys2Proof.Machine
end

