-- ==== Sys2Proof/Tests/Slice0.lean ====
section
/-! SUPPORT. Tests: ill-formed terms, the spec's worked examples, and for each statement with hypotheses a state and
operands that meet them. -/

namespace Sys2Proof.Tests

open Sys2Proof Sys2Proof.Machine

-- One evaluation at a time: in the package as one text, evaluations that wait side by side each take a thread's stack.
set_option Elab.async false

/-! ### Ill-formed terms -/

theorem test_wf_lane : (Instr.taken 4 0 0).wellFormed = false := by decide
theorem test_wf_address : (Instr.taken 0 16 0).wellFormed = false := by decide
theorem test_wf_sent_lane : (Instr.orderFrameSent 4 0).wellFormed = false := by decide
theorem test_wf_position : (Instr.inPosition 0 0 128).wellFormed = false := by decide
theorem test_wf_position_lane : (Instr.inPosition 4 0 0).wellFormed = false := by decide
theorem test_wf_position_address : (Instr.inPosition 0 16 0).wellFormed = false := by decide
theorem test_wf_drive_code : (Instr.fault 0 0 0).wellFormed = false := by decide
theorem test_wf_drive_code_high : (Instr.fault 0 0 256).wellFormed = false := by decide
theorem test_wf_ignored_lane : (Instr.replyFrameIgnored 4 ⟨0, 0, 0, true⟩ 0).wellFormed = false := by decide
theorem test_wf_take_bar : (Instr.takeLimitExpiry 48 0).wellFormed = false := by decide
theorem test_wf_move_bar : (Instr.moveLimitExpiry 48 0).wellFormed = false := by decide
theorem test_wf_known_code : (Instr.unknownCommand .m 0x4E#8).wellFormed = false := by decide
theorem test_wf_constants : (Instr.setConstants .m { defaultConstants with stagger := 256 } 0).wellFormed = false := by
  decide
theorem test_wf_byte : (Instr.lock .m 256).wellFormed = false := by decide
theorem test_wf_word : (Instr.simSpeed .m 65536 0).wellFormed = false := by decide
theorem test_wf_three_bytes : (Instr.opCopy .m 0 16777216 1).wellFormed = false := by decide
theorem test_wf_cells : (Instr.writeCells .m 0 2 [0#16]).wellFormed = false := by decide
theorem test_wf_no_cells_above_128 : (Instr.writeCells .m 0 129 []).wellFormed = true := by decide

/-! ### States the tests start from -/

/-- The state a command leaves. -/
def after (c : Instr) (s : State) : State :=
  match exec c s with
  | .next t => t
  | _ => s

/-- The status in a port's slot. -/
def status (p : Port) (s : State) : Option Status :=
  match (s.port p).slot with
  | .ready r => some r.status
  | _ => none

/-- The part with the start-up fill done. -/
def ready : State :=
  { State.reset with engine := Engine.initial, arbiter := { State.reset.arbiter with grant := none } }

/-- In a sequencer state, with these records. -/
def withRun (st : SeqState) (records history : List Record) : State :=
  { ready with
    run := { ready.run with state := st }
    queue := { ready.queue with records := records, history := history } }

/-- With the angle valid and the counter here. -/
def atCount (n : Nat) (s : State) : State :=
  { s with tracker := { s.tracker with angleValid := true, counter := n } }

/-- A record with every bar at `p1` and then `p2`. -/
def record (n p1 p2 : Nat) : Record :=
  { number := n, origin := { entry := 0, iteration := 0, course := n }, segment := 3,
    pairs := List.replicate 48 { p1 := p1, p2 := p2 }, overlapPeriod := 0, underlapPeriod := none, ceiling := 750,
    isOpen := true, segmentStart := false, stopMark := false, articleEnd := false, remapped := false, clamped := false,
    longShog := false }

/-- Bar 5 enabled at lane 2, address 5, with class 1 (tb 1,200, ts 900), in this handshake state. -/
def withBar (known : Option Nat) (h : Handshake) (s : State) : State :=
  { s with
    bars := s.bars.set 5 { Bar.initial 5 with
      enabled := true, lane := 2, address := 5, cls := 1, known := known, handshake := h }
    classes := s.classes.set 1 { base := 1200, perSpace := 900 } }

/-- A first order from 11 to 35 (R120's example). -/
def chain : Chain := Chain.begin { kind := .move, target := 35, deadline := none } (some 11)

/-- Lane 2 with bar 5's order sent. -/
def sentLane (frame : Option (List Byte)) (s : State) : State :=
  s.setLane 2 { queue := [{ bar := 5, kind := .move, target := 35 }], awaiting := true, frame := frame }

/-- Region 1 as the example of section 2.5 sets it. -/
def region1 (holder : Option Port) (down : Bool) : State :=
  { ready with
    regions := ready.regions.set 1
      { valid := true, base := 65536, size := 65536, holder := holder, lockDown := down } }

/-- The live guard's example of section 2.6: segment 3 live, segment 7 mapped and not named. -/
def guarded : State :=
  { ready with
    regions := ready.regions.set 2 { valid := true, base := 262144, size := 262144, holder := none, lockDown := false }
    segments := (ready.segments.set 3
      (.mapped { base := 262144, courses := 200, bars := 40, expected := 0, verified := true } none)).set 7
      (.mapped { base := 300000, courses := 10, bars := 40, expected := 0, verified := true } none)
    sequence := { ready.sequence with
      entries := (ready.sequence.entries.set 0 { SeqEntry.initial with segment := 3 }).set 1
        { SeqEntry.initial with segment := 5 }
      length := 2 }
    run := { ready.run with state := .running } }

/-- A write of 16 cells that port D has in its grant. -/
def writing (address : Nat) : State :=
  { guarded with
    arbiter := { guarded.arbiter with
      grant := some (.port .d), accessD := some (.write address (List.replicate 16 7#16)) }
    portD := { guarded.portD with slot := .pending } }

/-! ### The spec's examples -/

/-- R2's examples. -/
theorem test_angle : angleOf 99 400 = 1013 ∧ angleOf 399 400 = 4085 ∧ angleOf 4096 16384 = 1024 := by decide

/-- Section 1.4: 640 and 666 rpm. -/
theorem test_speed : ({ ready.tracker with period := some 93750 } : Tracker).speedField = 640#16 ∧
    ({ ready.tracker with period := some 90000 } : Tracker).speedField = 666#16 := by decide

/-- Section 1.4: the second forward boundary of the example. -/
theorem test_period :
    (Tracker.measure 1093750 { ready.tracker with startTime := some 1000000 }).period = some 93750 := by decide

/-- R12: the first count at 60 rpm and C = 4096 falls at floor(60,000,000 / 245,760) = 244 µs. -/
theorem test_schedule : ({ start := 0, given := 0 } : Schedule).due 60 4096 = 244 := by decide

/-- Section 1.3: at C − 1 with the angle valid, an index is no SLIP. -/
theorem test_index_beside_zero : after .encoderIndex (atCount 4095 ready) = atCount 4095 ready := by decide +kernel

/-- Section 1.3: the default constants give lane 0 its entry to Z1 at 1024 and lane 3 its own at 1120. -/
theorem test_group_starts : groupStart1 defaultConstants 0 = 1024 ∧ groupStart1 defaultConstants 3 = 1120 ∧
    groupStart2 defaultConstants 3 = 2144 := by decide

/-- R113: the entry to Z1 of group 2 orders bar 5 to the head's p2. -/
theorem test_zone_entry :
    (after (.encoderCount .forward 9)
      (atCount 1087 (withBar (some 20) .idle (withRun .running [record 0 20 30] [])))).bar 5 =
      { (withBar (some 20) .idle ready).bar 5 with
        handshake := .posted (.begin { kind := .move, target := 30, deadline := some .overlapEnd } (some 20)) } := by
  decide +kernel

/-- R128: a change of source with bar 5 IDLE loses it. -/
theorem test_source_change : ((after (.setSource .m 1 3) (withBar (some 9) .idle ready)).bar 5).handshake = .lost ∧
    (after (.setSource .m 1 3) (withBar (some 9) .idle ready)).tracker.source = .simulated := by decide +kernel

/-- Section 2.5: LOCK from D, UNLOCK from M, LOCK_DOWN from D, LOCK_DOWN from M. -/
theorem test_lock : ((after (.lock .d 1) (region1 none false)).region 1).holder = some .d := by decide +kernel
theorem test_unlock_refused : status .m (after (.unlock .m 1) (region1 (some .d) false)) = some .notHolder := by
  decide +kernel
theorem test_lock_down_from_d : status .d (after (.lockDown .d 1) (region1 (some .d) false)) = some .rights := by
  decide +kernel
theorem test_lock_down : ((after (.lockDown .m 1) (region1 (some .d) false)).region 1).lockDown = true := by
  decide +kernel
theorem test_locked_down_is_locked : status .m (after (.lock .m 1) (region1 (some .d) true)) = some .lockedDown := by
  decide +kernel
theorem test_clear_locked : status .d (after (.regionClear .d 1) (region1 (some .d) true)) = some .locked := by
  decide +kernel

/-- Section 2.6: 270,136 count 16 is LIVE, 270,144 lands, 300,390 clears segment 7's flag, and MAP makes a pending
mapping. -/
theorem test_live_write : status .d (after (.writeCellsGrant .d) (writing 270136)) = some .live := by decide +kernel
theorem test_free_write : status .d (after (.writeCellsGrant .d) (writing 270144)) = some .ok ∧
    readCell (after (.writeCellsGrant .d) (writing 270144)).memory 270159 = 7#16 := by decide +kernel
theorem test_write_unverifies : (after (.writeCellsGrant .d) (writing 300390)).segment 7 =
    .mapped { base := 300000, courses := 10, bars := 40, expected := 0, verified := false } none := by decide +kernel
theorem test_map_pending : (after (.map .d 3 270144 200 40 5) guarded).segment 3 =
    .mapped { base := 262144, courses := 200, bars := 40, expected := 0, verified := true }
      (some { base := 270144, courses := 200, bars := 40, expected := 5, verified := false }) := by decide +kernel

/-- Section 4.4: the builder at (1, 4, 120): count 4 is PASSED and count 5 is accepted. -/
def inBody : State :=
  { withRun .running [record 104 0 0] [] with
    sequence := { ready.sequence with length := 3 }
    builder := { ready.builder with position := { entry := 1, iteration := 4, course := 120 } } }
theorem test_repeat_passed : status .m (after (.seqRepeat .m 1 4) inBody) = some .passed := by decide +kernel
theorem test_repeat : status .m (after (.seqRepeat .m 1 5) inBody) = some .ok := by decide +kernel

/-- Section 5.8, cases 1, 2 and 3. -/
theorem test_required_periods : requiredPeriod 2100 448 = 19200 ∧ requiredPeriod 22800 960 = 97280 ∧
    requiredPeriod 8000 992 = 33033 ∧ requiredPeriod 802000 928 = 3539863 := by decide +kernel
theorem test_ceilings : ceilingFor defaultConstants 97280 = (616, false) ∧
    ceilingFor defaultConstants 33033 = (750, false) ∧ ceilingFor defaultConstants 3539863 = (30, true) := by decide

/-- R72 and R73: bar 0 with travel limit 60 and the cell 4615H. -/
theorem test_clamp : State.coursePair { base := 0, bars := 1, remapped := false, fetched := true }
    { ready with
      bars := ready.bars.set 0 { Bar.initial 0 with enabled := true, limit := 60 }
      builder := { ready.builder with buffer := [0x4615#16] } } 0 = ({ p1 := 21, p2 := 60 }, true) := by decide +kernel

/-- Section 6.5: the first forward boundary of the example enters ENDED with MARK, and the first beyond it is OVERRUN. -/
def lastCourse : State :=
  { atCount 4095 (withRun .running [{ record 2519 0 0 with stopMark := true, articleEnd := true, isOpen := false }] []) with
    builder := { ready.builder with ended := true } }
theorem test_article_ends : (after (.encoderCount .forward 5) lastCourse).run.state = .ended ∧
    (after (.encoderCount .forward 5) lastCourse).run.causes.mark = true := by decide +kernel

/-- Section 6.6: two marks in the look-ahead of 8, and CONTINUE. -/
def marked (first second : Bool) : State :=
  withRun .running
    ([record 300 0 0, record 301 0 0, { record 302 0 0 with stopMark := first }, { record 303 0 0 with ceiling := 616 },
      record 304 0 0, { record 305 0 0 with stopMark := second }] ++ [record 306 0 0, record 307 0 0]) []
theorem test_governing_ceiling : (marked true true).governingCeiling = 0 ∧
    (marked false false).governingCeiling = 616 := by decide +kernel
theorem test_continue : (after (.continueRun .m) (marked false true)).governingCeiling = 616 := by decide +kernel

/-- R120's example: the move limit of 27,800 µs. -/
def awaiting : State := sentLane none (withBar (some 11) (.posted { chain with takeTimer := some 100 }) ready)
theorem test_taken : ((after (.taken 2 5 900) awaiting).bar 5).handshake =
    .moving { chain with lastTaken := some 35, moveTimer := some { start := 900, limit := 27800 } } := by decide +kernel
def moving : State :=
  withBar (some 11) (.moving { chain with lastTaken := some 35, moveTimer := some { start := 900, limit := 27800 } }) ready
theorem test_in_position : ((after (.inPosition 2 5 35) moving).bar 5).handshake = .idle ∧
    ((after (.inPosition 2 5 35) moving).bar 5).known = some 35 := by decide +kernel
theorem test_mismatch : ((after (.inPosition 2 5 34) moving).bar 5).handshake = .lost ∧
    ((after (.inPosition 2 5 34) moving).bar 5).known = some 34 := by decide +kernel
theorem test_fault : ((after (.fault 2 5 17) moving).bar 5).driveCode = 17 := by decide +kernel
theorem test_take_limit : (after (.takeLimitExpiry 5 2099) awaiting).bar 5 = awaiting.bar 5 ∧
    ((after (.takeLimitExpiry 5 2100) awaiting).bar 5).handshake = .lost := by decide +kernel
theorem test_move_limit : ((after (.moveLimitExpiry 5 28699) moving).bar 5).handshake = (moving.bar 5).handshake ∧
    ((after (.moveLimitExpiry 5 28700) moving).bar 5).handshake = .lost := by decide +kernel

/-- Section 9.6: the copy of 600 cells from 300,000 to 270,144, its first chunk and its end. -/
def copying (progress : Nat) : State :=
  { guarded with
    arbiter := { guarded.arbiter with grant := some .engine }
    engine := { Engine.initial with
      state := .active
      op := some { kind := .copy 300000 270144, owner := some .d, total := 600, progress := progress }
      extents := [{ first := 300000, count := 600 }, { first := 270144, count := 600 }] } }
theorem test_copy_starts : (after (.opCopy .d 300000 270144 600) guarded).engine = (copying 0).engine ∧
    (after (.opCopy .d 300000 270144 600) guarded).arbiter.grant = some .engine := by decide +kernel
theorem test_first_chunk : (after .chunk (copying 0)).engine = (copying 256).engine := by decide +kernel
theorem test_last_chunk : (after .chunk (copying 512)).engine.result = .ok ∧
    Event.opDone.isIn (after .chunk (copying 512)).portD.events = true ∧
    Event.opDone.isIn (after .chunk (copying 512)).portM.events = false := by decide +kernel
theorem test_suspend_not_owner : status .m (after (.opSuspend .m) (copying 256)) = some .notOwner := by decide +kernel
theorem test_suspend : (after (.opSuspend .d) (copying 256)).engine.state = .suspended := by decide +kernel
theorem test_abort_waits : (after (.opAbort .d) (copying 256)).engine.abortRequested = true := by decide +kernel

/-- R156, R158: the reply of a LOCK is shifted out by a reply read, and the slot is EMPTY after four bytes. -/
theorem test_reply_read :
    ((after (.replyRead .d) (after (.lock .d 1) (region1 none false))).port .d).transaction.map Transaction.shifted =
      some [portStateByte ((after (.lock .d 1) (region1 none false)).port .d) false false, 0x00#8, 0x00#8, 0x00#8] := by
  decide +kernel

/-- R156: FFH is shifted out beside the bytes after the code byte, and for as long as the transaction is clocked. -/
theorem test_fill_bytes :
    ((after (.transactionEnd .d 32) (after (.lock .d 1) (after (.transactionBegin .d) (region1 none false)))).port
      .d).shiftedOut = [portStateByte (ready.port .d) false false, 0xFF#8, 0xFF#8, 0xFF#8] := by decide +kernel

/-- R158: a reply read that finds the slot EMPTY shifts out FFH after the port-state byte. -/
theorem test_empty_read :
    ((after (.transactionEnd .d 24) (after (.replyRead .d) (after (.transactionBegin .d) ready))).port .d).shiftedOut =
      [portStateByte (ready.port .d) false false, 0xFF#8, 0xFF#8] := by decide +kernel

/-- R163: bytes that follow a transaction that the reset input has abandoned are not read until the chip select next
falls. -/
def abandoned : State := after .resetRelease (after .resetInput (after (.transactionBegin .d) ready))
theorem test_abandoned_is_not_read : after (.regionGet .d 1) abandoned = abandoned ∧
    status .d (after (.regionGet .d 1) (after (.transactionBegin .d) (after (.transactionEnd .d 9) abandoned))) =
      some .ok := by decide +kernel

/-- R126, R158: PLACE_BAR's NOT_HOMED names the bar. -/
theorem test_place_bar_not_homed : ((after (.placeBar .m 5 3) (withBar none .lost ready)).port .m).slot =
    .ready { status := .notHomed, data := [5#8] } := by decide +kernel

/-- R164: a TAKEN that ends while the lane transmits is ignored. -/
theorem test_reply_cut_off : (after (.taken 2 5 900) (sentLane (some [1]) awaiting)).bars = awaiting.bars := by
  decide +kernel

/-- R117: a HOME replaces an unsent entry in place. -/
def queued : State :=
  (withBar (some 11) (.posted { chain with order := { chain.order with target := 35 } }) ready).setLane 2
    { queue := [{ bar := 30, kind := .move, target := 1 }, { bar := 5, kind := .move, target := 35 },
        { bar := 31, kind := .move, target := 2 }], awaiting := true, frame := some [1] }
theorem test_home_replaces : (after (.home .m 5) queued).lane 2 = { queued.lane 2 with
    queue := [{ bar := 30, kind := .move, target := 1 }, { bar := 5, kind := .home, target := 0 },
      { bar := 31, kind := .move, target := 2 }] } := by decide +kernel

/-- No word of the table spells a command, so that withFetchWord changes nothing. -/
theorem test_no_word : decodeTableWord 8 1 = none := rfl

/-! ### States and operands that meet the hypotheses of the statements -/

/-- A port takes a whole frame in this state. -/
theorem accepts_of {p : Port} {s : State} (h : s.listens p = true) (k : (s.port p).slot ≠ .pending)
    (f : s.filling = false) : s.accepts p := ⟨⟨h, k⟩, f⟩

theorem ready_accepts : ready.accepts .m ∧ ready.accepts .d :=
  ⟨accepts_of rfl (by decide) rfl, accepts_of rfl (by decide) rfl⟩
theorem reset_takes : State.reset.takes .m ∧ State.reset.takes .d ∧ State.reset.filling = true :=
  ⟨⟨rfl, by decide⟩, ⟨rfl, by decide⟩, rfl⟩

theorem witness_step : ({ ready with pending := [.chunk] } : State).pending = .chunk :: [] ∧ ready.pending = [] :=
  ⟨rfl, rfl⟩
theorem witness_waiting_queue : exec .resetRelease ready = .next (after .resetRelease ready) := rfl
theorem witness_reset_state : State.reset.pending = [] := rfl
/-- RESET_INPUT: held; filling; an operation whose chunk waits, and one whose chunk is in its grant; no write in a
grant, one that lands and one that is refused LIVE. -/
theorem witness_reset_input :
    (({ ready with resetHeld := true } : State).resetHeld = true ∧ Instr.encoderIndex ≠ .powerUp) ∧
    (State.reset.filling = true) ∧ (ready.filling = false ∧ ready.engine.state = .idle) ∧
    ((copying 256).filling = false ∧ (copying 256).engine.state ≠ .idle ∧
      (copying 256).arbiter.grant = some .engine) ∧
    (let s : State := { copying 256 with arbiter := { guarded.arbiter with chunkWaiting := true } }
     s.filling = false ∧ s.engine.state ≠ .idle ∧ s.arbiter.grant ≠ some .engine) ∧
    (∀ p a cells, ready.arbiter.grant = some (.port p) → ready.arbiter.access p ≠ some (.write a cells)) ∧
    (MemoryWf (writing 270144).memory ∧ (writing 270144).arbiter.grant = some (.port .d) ∧
      (writing 270144).arbiter.access .d = some (.write 270144 (List.replicate 16 7#16)) ∧
      270144 + 16 ≤ memorySize) ∧
    readCell (after .resetInput (writing 270144)).memory 270159 = 7#16 ∧
    readCell (after .resetInput (writing 270136)).memory 270144 = 0 :=
  ⟨⟨rfl, by decide⟩, rfl, ⟨rfl, rfl⟩, ⟨rfl, by decide, rfl⟩, ⟨rfl, by decide, by decide⟩, (fun _ _ _ h => nomatch h),
    ⟨by decide, rfl, rfl, by decide⟩, by decide +kernel, by decide +kernel⟩
theorem witness_frames : (Instr.lock .m 3).wellFormed = true ∧ (Instr.writeCells .d 5 1 [7]).wellFormed = true ∧
    (Instr.unknownCommand .d 5).wellFormed = true := by decide
/-- A port in a transaction, with its slot as given. -/
def inTransaction (slot : Slot) (taken : Bool) (reading : Option Nat) : State :=
  ready.setPort .d { ready.port .d with
    transaction := some { received := [], bits := 0, taken := taken, reading := reading, shifted := [0] }, slot := slot }
theorem witness_transactions : ready.resetHeld = false ∧ (ready.port .d).transaction = none ∧
    (let s := inTransaction (.ready (refuse .busy)) false none
     ∃ x r, (s.port .d).transaction = some x ∧ x.taken = false ∧ x.reading = none ∧ (s.port .d).slot = .ready r) ∧
    (let s := inTransaction .pending false none
     ∃ x, (s.port .d).transaction = some x ∧ x.taken = false ∧ x.reading = none ∧ (s.port .d).slot = .pending) ∧
    (let s := inTransaction .empty false none
     ∃ x, (s.port .d).transaction = some x ∧ (s.port .d).slot = .empty ∧ 1 < max 16 x.bits / 8) ∧
    (let s := inTransaction (.ready (refuse .busy)) false (some 4)
     ∃ x, (s.port .d).transaction = some x ∧ x.reading = some 4) ∧ ready.takes .d :=
  ⟨rfl, rfl, ⟨_, _, rfl, rfl, rfl, rfl⟩, ⟨_, rfl, rfl, rfl, rfl⟩, ⟨_, rfl, rfl, by decide⟩, ⟨_, rfl, rfl⟩,
    ready_accepts.2.1⟩
theorem witness_discarded_frames :
    (let s := inTransaction .pending false none
     readFrame .d 7 (commandFrame (.lock .d 3)) = some (.lock .d 3) ∧ s.listens .d = true ∧
      (s.port .d).slot = .pending ∧ exec (.lock .d 3) s = .next (after (.lock .d 3) s)) ∧
    readFrame .d 7 (commandFrame (.setSource .d 1 7)) = some (.setSource .d 1 7) ∧
    (after (.setSource .d 1 7) (inTransaction .pending false none)).now = 7 ∧
    (inTransaction .empty true none).listens .d = false ∧ abandoned.listens .d = false :=
  ⟨⟨by decide, rfl, rfl, rfl⟩, by decide, by decide +kernel, rfl, by decide +kernel⟩
theorem witness_starting : readFrame .m State.reset.now (commandFrame (.lock .m 3)) = some (.lock .m 3) ∧
    State.reset.takes .m ∧ State.reset.filling = true ∧ Instr.lock .m 3 ≠ .replyRead .m ∧
    Instr.lock .m 3 ≠ .status .m ∧ ∀ code, Instr.lock .m 3 ≠ .unknownCommand .m code :=
  ⟨by decide, reset_takes.1, rfl, by decide, by decide, fun _ h => nomatch h⟩
theorem witness_rights : ready.accepts .d ∧ 0 ≤ ready.now := ⟨ready_accepts.2, by decide⟩
/-- STATUS: no period, and the shortest period that the field carries; with and without a fault record. -/
theorem witness_status : State.reset.takes .m ∧ ready.tracker.period = none ∧ 60000000 / 916 = 65502 ∧
    60000000 / 915 = 65573 ∧ ready.run.fault = none := ⟨reset_takes.1, rfl, by decide, by decide, rfl⟩
theorem witness_events : State.reset.takes .d ∧ ready.takes .m := ⟨reset_takes.2.1, ready_accepts.1.1⟩
theorem witness_snapshots : ready.accepts .d ∧ ready.tracker.snapshot .d = none ∧
    ((after (.shaftLatch .d) ready).tracker.snapshot .d).isSome = true := ⟨ready_accepts.2, rfl, rfl⟩
/-- SET_CONSTANTS: the same set, a new C, a max rpm below the simulated rate, and S at its limit and beyond it. -/
theorem witness_constants : ready.accepts .m ∧ ready.now ≤ 3 ∧ validConstants defaultConstants = true ∧
    validConstants { defaultConstants with counts := 400 } = true ∧
    validConstants { defaultConstants with counts := 399 } = false ∧
    validConstants { defaultConstants with maxRpm := 59 } = true ∧
    validConstants { defaultConstants with stagger := 149 } = true ∧
    validConstants { defaultConstants with stagger := 150 } = false ∧
    status .m (after (.setConstants .m defaultConstants 3) (withRun .running [] [])) = some .state :=
  ⟨ready_accepts.1, by decide, by decide, by decide, by decide, by decide, by decide, by decide, by decide +kernel⟩
theorem witness_source : ready.accepts .m ∧ ready.now ≤ 3 ∧
    status .m (after (.setSource .m 0 3) ready) = some .ok ∧ status .m (after (.setSource .m 2 3) ready) = some .badValue ∧
    (withBar (some 9) .idle ready).accepts .m :=
  ⟨ready_accepts.1, by decide, by decide +kernel, by decide +kernel, accepts_of rfl (by decide) rfl⟩
theorem witness_simulated_shaft : ready.accepts .m ∧ ready.now ≤ 0 ∧
    status .m (after (.simSpeed .m 750 0) ready) = some .ok ∧
    status .m (after (.simSpeed .m 751 0) ready) = some .badValue ∧
    (after (.simGate .m 1 0) ready).tracker.simGate = true ∧ status .m (after (.simGate .m 2 0) ready) = some .badValue :=
  ⟨ready_accepts.1, by decide, by decide +kernel, by decide +kernel, by decide +kernel, by decide +kernel⟩
theorem witness_cell_commands : ready.accepts .d ∧ (List.replicate 128 (0 : Cell)).length = 128 ∧
    1048448 + 128 ≤ 1048576 ∧ 1048576 < 1048449 + 128 ∧ ready.arbiter.grant = none ∧
    ready.arbiter.access (otherPort .d) = none ∧ (writing 0).arbiter.grant.isSome = true :=
  ⟨ready_accepts.2, by simp, by decide, by decide, rfl, rfl, rfl⟩
/-- The arbiter's four cases. -/
theorem witness_grants :
    (let a := { ready.arbiter with fetchWaiting := true }
     a.grant = none ∧ a.fetchWaiting = true) ∧
    (let a := { ready.arbiter with accessM := some (.read 0 1), accessD := some (.read 0 1) }
     a.grant = none ∧ a.fetchWaiting = false ∧ a.accessM.isSome = true ∧ a.accessD.isSome = true) ∧
    (let a := { ready.arbiter with accessD := some (.read 0 1) }
     a.grant = none ∧ a.fetchWaiting = false ∧ (a.access .d).isSome = true ∧ a.access (otherPort .d) = none) ∧
    (ready.arbiter.grant = none ∧ ready.arbiter.fetchWaiting = false ∧ ready.arbiter.accessM = none ∧
      ready.arbiter.accessD = none) := ⟨⟨rfl, rfl⟩, ⟨rfl, rfl, rfl, rfl⟩, ⟨rfl, rfl, rfl, rfl⟩, rfl, rfl, rfl, rfl⟩
theorem witness_read_grant :
    (let s : State := { ready with arbiter := { ready.arbiter with
      grant := some (.port .d), accessD := some (.read 1048448 128) } }
     s.arbiter.grant = some (.port .d) ∧ s.arbiter.access .d = some (.read 1048448 128)) ∧
    1048448 + 128 ≤ memorySize := ⟨⟨rfl, rfl⟩, by decide⟩
theorem witness_write_grant : MemoryWf (writing 270144).memory ∧ (writing 270144).arbiter.grant = some (.port .d) ∧
    (writing 270144).arbiter.access .d = some (.write 270144 (List.replicate 16 7#16)) ∧
    List.replicate 16 7#16 ≠ [] ∧ 270144 + 16 ≤ memorySize ∧
    status .d (after (.writeCellsGrant .d) (writing 262143)) = some .noRegion ∧
    status .d (after (.writeCellsGrant .d) (writing 524273)) = some .span :=
  ⟨by decide, rfl, rfl, by decide, by decide, by decide +kernel, by decide +kernel⟩
theorem witness_region_commands : ready.accepts .d ∧ (region1 none false).accepts .m ∧
    status .d (after (.regionSet .d 15 1044480 4096) ready) = some .ok ∧
    status .d (after (.regionSet .d 16 0 4096) ready) = some .badValue ∧
    status .d (after (.regionSet .d 2 0 1048576) (region1 none false)) = some .overlap ∧
    status .d (after (.regionClear .d 1) (region1 none false)) = some .ok :=
  ⟨ready_accepts.2, accepts_of rfl (by decide) rfl, by decide +kernel, by decide +kernel, by decide +kernel,
    by decide +kernel⟩
theorem witness_tables : ready.accepts .d ∧ status .d (after (.regionGet .d 15) ready) = some .ok ∧
    status .d (after (.regionGet .d 16) ready) = some .badValue ∧
    status .d (after (.mapGet .d 63) ready) = some .ok ∧ status .d (after (.mapGet .d 64) ready) = some .badValue ∧
    status .d (after (.seqGet .d 63) ready) = some .ok ∧ status .d (after (.seqGet .d 64) ready) = some .badValue :=
  ⟨ready_accepts.2, by decide +kernel, by decide +kernel, by decide +kernel, by decide +kernel, by decide +kernel,
    by decide +kernel⟩
theorem witness_locks : (region1 none false).takes .d ∧ State.reset.takes .m ∧
    status .d (after (.lock .d 15) ready) = some .noRegion ∧ status .d (after (.lock .d 16) ready) = some .badValue :=
  ⟨⟨rfl, by decide⟩, reset_takes.1, by decide +kernel, by decide +kernel⟩
theorem witness_lock_down : (region1 (some .d) false).takes .m ∧ (region1 (some .d) false).takes .d :=
  ⟨⟨rfl, by decide⟩, ⟨rfl, by decide⟩⟩
theorem witness_map : guarded.accepts .d ∧ guarded.segmentLive 3 = true ∧ guarded.segmentLive 7 = false ∧
    (∃ c x, guarded.segment 3 = .mapped c x) ∧
    status .d (after (.map .d 63 524287 1 1 0) guarded) = some .ok ∧
    status .d (after (.map .d 63 524287 2 1 0) guarded) = some .span ∧
    status .d (after (.map .d 64 524287 1 1 0) guarded) = some .badValue :=
  ⟨accepts_of rfl (by decide) rfl, by decide +kernel, by decide +kernel, ⟨_, _, rfl⟩, by decide +kernel,
    by decide +kernel, by decide +kernel⟩
theorem witness_map_clear : guarded.accepts .m ∧ status .m (after (.mapClear .m 3) guarded) = some .live ∧
    status .m (after (.mapClear .m 7) guarded) = some .ok ∧ status .m (after (.mapCancel .m 63) guarded) = some .ok ∧
    status .m (after (.mapCancel .m 64) guarded) = some .badValue :=
  ⟨accepts_of rfl (by decide) rfl, by decide +kernel, by decide +kernel, by decide +kernel, by decide +kernel⟩
theorem witness_sequence : ready.takes .d ∧ status .d (after (.seqWrite .d 63 63 4095 3) ready) = some .ok ∧
    status .d (after (.seqWrite .d 63 63 4096 3) ready) = some .badValue ∧
    status .d (after (.seqForm .d 64 1) ready) = some .ok ∧ status .d (after (.seqForm .d 65 1) ready) = some .badValue :=
  ⟨ready_accepts.2.1, by decide +kernel, by decide +kernel, by decide +kernel, by decide +kernel⟩
theorem witness_repeat : inBody.takes .m ∧ status .m (after (.seqRepeat .m 0 3) inBody) = some .passed ∧
    status .m (after (.seqRepeat .m 3 2) inBody) = some .badValue :=
  ⟨⟨rfl, by decide⟩, by decide +kernel, by decide +kernel⟩
/-- Section 4.2: courses 0, 4, 7 and 9 of the short article, in each of R61's cases, in both end modes. -/
def shortArticle (mode : EndMode) : SequenceTable :=
  { ready.sequence with
    entries := [{ segment := 10, repeats := 1, markEach := false, markEnd := false },
      { segment := 11, repeats := 2, markEach := true, markEnd := false },
      { segment := 12, repeats := 1, markEach := false, markEnd := true }]
    length := 3
    endMode := mode }
theorem test_advance :
    (shortArticle .wrap).advance 2 { entry := 0, iteration := 0, course := 0 } =
      { position := { entry := 0, iteration := 0, course := 1 }, ended := false, stopMark := false, articleEnd := false } ∧
    (shortArticle .wrap).advance 3 { entry := 1, iteration := 0, course := 2 } =
      { position := { entry := 1, iteration := 1, course := 0 }, ended := false, stopMark := true, articleEnd := false } ∧
    (shortArticle .wrap).advance 3 { entry := 1, iteration := 1, course := 2 } =
      { position := { entry := 2, iteration := 0, course := 0 }, ended := false, stopMark := true, articleEnd := false } ∧
    (shortArticle .wrap).advance 2 { entry := 2, iteration := 0, course := 1 } =
      { position := { entry := 0, iteration := 0, course := 0 }, ended := false, stopMark := true, articleEnd := false } ∧
    (shortArticle .stop).advance 2 { entry := 2, iteration := 0, course := 1 } =
      { position := { entry := 3, iteration := 0, course := 0 }, ended := true, stopMark := true, articleEnd := true } := by
  decide
/-- A forward count from 1535 to O_e, with bar 5's order due there, or a deadline of U_e. -/
def dueAt (n : Nat) (d : Deadline) (st : SeqState) : State :=
  atCount n (withBar (some 20) (.posted { chain with order := { chain.order with deadline := some d } })
    (withRun st [record 0 20 30] []))
theorem witness_deadlines :
    ((dueAt 1535 .overlapEnd .running).bar 5).Due .overlapEnd ∧ 5 < (dueAt 1535 .overlapEnd .running).bars.length ∧
    (1535 * 4096 / 4096 < 1536 ∧ 1536 ≤ (1535 + 1) * 4096 / 4096) ∧
    (let t := after (.encoderCount .forward 9) (dueAt 1535 .overlapEnd .running)
     t.run.causes.late = true ∧ Event.late.isIn t.portD.events = true ∧ Event.stopRequest.isIn t.portD.events = true ∧
      (t.bar 5).handshake = .posted chain) ∧
    (after (.encoderCount .forward 9) (dueAt 1535 .underlapEnd .running)).run.causes.late = false ∧
    (after (.encoderCount .forward 9) (dueAt 1534 .overlapEnd .running)).bar 5 =
      (dueAt 1534 .overlapEnd .running).bar 5 ∧
    (after (.encoderCount .forward 9) (dueAt 3071 .underlapEnd .ended)).run.causes.late = true :=
  ⟨⟨_, .inl rfl, rfl⟩, by decide +kernel, by decide, by decide +kernel, by decide +kernel, by decide +kernel,
    by decide +kernel⟩
/-- ENCODER_COUNT: both sources, the three edges, PLACING, and the angle invalid. -/
theorem witness_counts : ready.resetHeld = false ∧ ready.now ≤ 0 ∧ ready.tracker.source = .encoder ∧
    ready.tracker.angleValid = false ∧ ready.run.state ≠ .placing ∧ (withRun .placing [] []).run.state = .placing ∧
    (after (.encoderCount .forward 7) (withRun .placing [] [])).run.state = .faulted ∧ Edge.reverse ≠ .together ∧
    (after (.setSource .m 1 3) ready).tracker.source = .simulated :=
  ⟨rfl, by decide, rfl, rfl, by decide, rfl, by decide +kernel, by decide, by decide +kernel⟩
/-- The entry to Z1 of group 2 at 1088, and to Z2 at 2112. -/
def atEntry (n : Nat) : State :=
  atCount n (withBar (some 20) .idle (withRun .running [record 0 20 30, record 1 40 50] []))
theorem witness_zone_entries :
    ((atEntry 1087).resetHeld = false ∧ (atEntry 1087).now ≤ 9 ∧ (atEntry 1087).tracker.source = .encoder ∧
      (atEntry 1087).tracker.angleValid = true ∧ (atEntry 1087).run.state = .running ∧
      (atEntry 1087).queue.backlog = 0 ∧ validConstants (atEntry 1087).constants = true ∧
      (atEntry 1087).tracker.counter + 1 < (atEntry 1087).constants.counts ∧ 5 < (atEntry 1087).bars.length ∧
      ((atEntry 1087).bar 5).enabled = true ∧ ((atEntry 1087).bar 5).lane = 2 ∧ 2 < (atEntry 1087).lanes.length ∧
      ((atEntry 1087).bar 5).handshake = .idle) ∧
    (1087 * 4096 / 4096 < 1024 + 2 * 32 ∧ 1024 + 2 * 32 ≤ 1088 * 4096 / 4096) ∧
    (2111 * 4096 / 4096 < 2048 + 2 * 32 ∧ 2048 + 2 * 32 ≤ 2112 * 4096 / 4096) ∧
    (atEntry 2111).queue.records = record 0 20 30 :: record 1 40 50 :: [] ∧
    ((record 0 20 30).pair 5).p2 = 30 ∧ ((record 1 40 50).pair 5).p1 = 40 := by decide +kernel
/-- Bar 5's handshake at an entry of group 2, with these records and its order sent on the lane, or unsent. -/
def follows (n : Nat) (h : Handshake) (sent : Bool) (records : List Record) : State :=
  let s := atCount n (withBar (some 20) h (withRun .running records []))
  if sent then sentLane none s else s.setLane 2 (queued.lane 2)
/-- POSTED and sent, POSTED and unsent, withdrawn, and MOVING, at the entry to Z1; the entry to Z2 at the article's end,
and without targets; and the two backward crossings. -/
theorem witness_zone_crossings :
    (let s := follows 1087 (.posted chain) true [record 0 20 30]
     (s.lane 2).Transmits ∧ (s.bar 5).standing = some 35 ∧ (s.bar 5).outstanding = true ∧
      ((after (.encoderCount .forward 9) s).bar 5).handshake =
        .posted { chain with order := { kind := .move, target := 30, deadline := some .overlapEnd }, held := true }) ∧
    (let s := follows 1087 (.posted chain) false [record 0 20 30]
     (s.lane 2).Transmits ∧ ((after (.encoderCount .forward 9) s).lane 2).queue.map LaneEntry.target = [1, 30, 2]) ∧
    (let s := follows 1087 (.posted chain) false [record 0 20 11]
     ((after (.encoderCount .forward 9) s).bar 5).handshake = .idle ∧
      ((after (.encoderCount .forward 9) s).lane 2).queue.map LaneEntry.target = [1, 2]) ∧
    (let s := follows 1087 (.moving chain) false [record 0 20 30]
     ((after (.encoderCount .forward 9) s).lane 2).queue.map LaneEntry.target = [1, 35, 2, 30]) ∧
    (let s := follows 2111 .idle false [{ record 0 20 30 with articleEnd := true }]
     ((after (.encoderCount .forward 9) s).bar 5).standing = some 30) ∧
    (let s := follows 2111 .idle false [record 4 20 30]
     (after (.encoderCount .forward 9) s).run.fault =
      some { kind := .queueDry, bar := none, course := some 4, angle := some 2112, more := false }) ∧
    ((2112 - 1) * 4096 / 4096 < 2048 + 2 * 32 ∧ 2048 + 2 * 32 ≤ 2112 * 4096 / 4096) ∧
    (let s := follows 2112 .idle false [record 0 25 30]
     ((after (.encoderCount .reverse 9) s).bar 5).standing = some 30) ∧
    (let s := follows 1088 .idle false [record 0 25 30]
     ((after (.encoderCount .reverse 9) s).bar 5).standing = some 25) := by decide +kernel
/-- Forward boundaries: each state, with a backlog, and with two, one and no records. -/
theorem witness_forward_boundary :
    (lastCourse.resetHeld = false ∧ lastCourse.now ≤ 5 ∧ lastCourse.tracker.source = .encoder ∧
      lastCourse.tracker.angleValid = true ∧ validConstants lastCourse.constants = true ∧
      lastCourse.tracker.counter + 1 = lastCourse.constants.counts ∧ lastCourse.builder.ended = true ∧
      lastCourse.queue.backlog = 0 ∧ lastCourse.queue.records.length = 1) ∧
    (after (.encoderCount .forward 5) (atCount 4095 (withRun .running [record 0 1 2] []))).run.state = .faulted ∧
    (after (.encoderCount .forward 5) (atCount 4095 (withRun .running [record 0 1 2, record 1 3 4] []))).queue =
      { ready.queue with records := [record 1 3 4], history := [record 0 1 2] } ∧
    (after (.encoderCount .forward 5) (atCount 4095 (withRun .ended [] []))).queue.overrun = 1 ∧
    (after (.encoderCount .forward 5) (atCount 4095 (withRun .faulted [] []))).queue = ready.queue := by decide +kernel
/-- Backward boundaries: a history of one, none, a queue of 15, a full queue, and past the end. -/
def fullQueue (n : Nat) : State :=
  { atCount 0 (withRun .running ((List.range n).map fun i => record (i + 1) 0 0) [record 0 9 9]) with
    builder := { ready.builder with
      position := { entry := 0, iteration := 0, course := 17 }
      build := some { base := 0, bars := 1, remapped := false, fetched := false } } }
theorem witness_backward_boundary :
    ((fullQueue 16).resetHeld = false ∧ (fullQueue 16).now ≤ 5 ∧ (fullQueue 16).tracker.source = .encoder ∧
      (fullQueue 16).tracker.angleValid = true ∧ validConstants (fullQueue 16).constants = true ∧
      (fullQueue 16).tracker.counter = 0 ∧ (fullQueue 16).queue.records.length = 16) ∧
    (after (.encoderCount .reverse 5) (fullQueue 16)).builder =
      { position := { entry := 0, iteration := 0, course := 16 }, ended := false, build := none, buffer := [] } ∧
    (after (.encoderCount .reverse 5) (fullQueue 15)).builder.build = none ∧
    (after (.encoderCount .reverse 5) (fullQueue 14)).builder = (fullQueue 14).builder ∧
    (after (.encoderCount .reverse 5) (atCount 0 (withRun .running [record 0 0 0] []))).queue.backlog = 1 ∧
    (after (.encoderCount .reverse 5) (atCount 0 (withRun .ended [] [record 0 0 0]))).run.state = .running := by
  decide +kernel
/-- The simulated shaft at 60 rpm, its first count due at 244 µs. -/
def simulated : State :=
  { ready with tracker := { ready.tracker with
      source := .simulated, simGate := true, schedule := some { start := 0, given := 0 } } }
theorem witness_index_and_schedule : ready.resetHeld = false ∧ ready.tracker.angleValid = false ∧
    (atCount 2 ready).tracker.angleValid = true ∧
    1 < min (atCount 2 ready).tracker.counter (4096 - (atCount 2 ready).tracker.counter) ∧
    min (atCount 4095 ready).tracker.counter (4096 - (atCount 4095 ready).tracker.counter) ≤ 1 ∧
    (let s : State := { ready with tracker := { ready.tracker with stillTimer := some 7 } }
     (after (.stillTimerExpiry 250006) s).tracker = s.tracker ∧
      (after (.stillTimerExpiry 250007) s).tracker = s.tracker.becomeStill) ∧
    simulated.tracker.schedule = some { start := 0, given := 0 } ∧
    (after (.simulatedCount 243) simulated).tracker = simulated.tracker ∧
    (after (.simulatedCount 244) simulated).tracker.counter = 1 := by decide +kernel
/-- The simulated shaft in this state, the angle valid or not, its first count due at 244 µs. -/
def turning (valid : Bool) (s : State) : State :=
  { s with tracker := { simulated.tracker with angleValid := valid, counter := s.tracker.counter } }
/-- Simulated counts: the entry of group 2 to Z1 answered at once, none for a bar that stands there, the wrap with the angle
invalid, the wrap at the end of the article, and PLACING. -/
theorem witness_simulated_counts :
    (let t := after (.simulatedCount 250) (turning true (atEntry 1087))
     t.bar 5 = { (atEntry 1087).bar 5 with known := some 30 } ∧ t.lanes = (atEntry 1087).lanes) ∧
    ((atEntry 1087).bar 5).standing ≠ some 30 ∧
    (let t := after (.simulatedCount 250) (turning false (atEntry 4095))
     t.tracker.angleValid = true ∧ t.tracker.startTime = none ∧ t.queue = (atEntry 4095).queue) ∧
    (after (.simulatedCount 250) (turning true lastCourse)).run.state = .ended ∧
    (after (.simulatedCount 250) (turning false (withRun .placing [] []))).run.state = .faulted := by decide +kernel
/-- The entry of group 2 to Z1 in HALTED, ENDED and FAULTED, forward and reverse, and a count in RUNNING that enters no
zone: no order. -/
theorem witness_quiet_counts :
    (∀ st, st = .halted ∨ st = .ended ∨ st = .faulted →
      (let s : State := { atEntry 1087 with run := { ready.run with state := st } }
       (after (.encoderCount .forward 9) s).bars = s.bars ∧ (after (.encoderCount .forward 9) s).lanes = s.lanes) ∧
      (let s : State := { atEntry 1088 with run := { ready.run with state := st } }
       (after (.encoderCount .reverse 9) s).bars = s.bars ∧ (after (.encoderCount .reverse 9) s).lanes = s.lanes)) ∧
    (∀ g, g < 4 → ¬(1088 * 4096 / 4096 < 1024 + g * 32 ∧ 1024 + g * 32 ≤ (1088 + 1) * 4096 / 4096) ∧
      ¬((1089 - 1) * 4096 / 4096 < 1024 + g * 32 ∧ 1024 + g * 32 ≤ 1089 * 4096 / 4096)) ∧
    (after (.encoderCount .forward 9) (atEntry 1088)).bars = (atEntry 1088).bars ∧
    (after (.encoderCount .reverse 9) (atEntry 1089)).bars = (atEntry 1089).bars := by
  refine ⟨?_, by decide, by decide +kernel, by decide +kernel⟩
  rintro st (rfl | rfl | rfl) <;> decide +kernel
/-- A sent order's frame, a purged one's, and the TAKEN of the bar that awaits it, held and not held. -/
def held : State :=
  sentLane none (withBar (some 11)
    (.posted { chain with order := { chain.order with target := 40 }, held := true, takeTimer := some 100 }) ready)
theorem witness_orders :
    ((sentLane (some [1]) ready).resetHeld = false ∧ 2 < (sentLane (some [1]) ready).lanes.length ∧
      ((sentLane (some [1]) ready).lane 2).frame = some [1]) ∧
    (awaiting.lane 2).awaiting = true ∧ (awaiting.lane 2).frame = none ∧ (awaiting.bar 5).enabled = true ∧ 5 < awaiting.bars.length ∧
    (∀ n, n < 48 →
      (((awaiting.bar n).enabled ∧ (awaiting.bar n).lane = 2 ∧ (awaiting.bar n).address = 5) ↔ n = 5)) ∧
    ((after (.taken 2 5 900) held).lane 2).queue = [{ bar := 5, kind := .move, target := 40 }] := by decide +kernel
theorem witness_replies : moving.resetHeld = false ∧ 5 < moving.bars.length ∧ (moving.lane 2).frame = none ∧
    ((sentLane (some [1]) moving).lane 2).frame.isSome = true ∧
    (∀ n, n < 48 → (((moving.bar n).enabled ∧ (moving.bar n).lane = 2 ∧ (moving.bar n).address = 5) ↔ n = 5)) ∧
    (∀ n, n < 48 → ¬((moving.bar n).enabled ∧ (moving.bar n).lane = 2 ∧ (moving.bar n).address = 6)) ∧
    (0x52#8).toNat % 16 = 2 ∧ 127 < (0x80#8).toNat ∧
    decodeReply { head := 0x52#8, value := 0x80#8, check := 0x88#8, cutOff := false } = none := by decide +kernel
theorem witness_limits : awaiting.resetHeld = false ∧ awaiting.now ≤ 2100 ∧ 5 < awaiting.bars.length ∧
    (awaiting.bar 5).handshake = .posted { chain with takeTimer := some 100 } ∧ 100 + 2000 ≤ 2100 ∧ 2099 < 100 + 2000 := by
  decide +kernel
/-- The builder at course 0 of segment 3, with no pending mapping and with one that is or is not verified; and beyond the
last course. -/
def building (pending : Option Mapping) (course : Nat) : State :=
  { guarded with
    segments := guarded.segments.set 3
      (.mapped { base := 262144, courses := 200, bars := 40, expected := 0, verified := true } pending)
    builder := { guarded.builder with position := { entry := 0, iteration := 0, course := course } } }
def newer (v : Bool) : Mapping := { base := 270144, courses := 100, bars := 20, expected := 0, verified := v }
theorem witness_builds : (building none 0).resetHeld = false ∧ 3 < (building none 0).segments.length ∧
    ((building none 0).seqEntry 0).segment = 3 ∧ (building none 0).builder.build = none ∧
    (building none 0).queue.records.length < 16 ∧
    (after .buildBegin (building (some (newer true)) 0)).builder.build =
      some { base := 270144, bars := 20, remapped := true, fetched := false } ∧
    (after .buildBegin (building (some (newer false)) 0)).builder.build =
      some { base := 262144, bars := 40, remapped := false, fetched := false } ∧
    (after .buildBegin (building none 200)).builder.position = { entry := 1, iteration := 0, course := 0 } ∧
    (after .buildBegin (building none 199)).arbiter.grant = some .builder ∧
    (after .builderFetch (after .buildBegin (building none 199))).builder.buffer.length = 40 := by decide +kernel
/-- An iteration cut short by a switch, with a record at the tail: the mark and the build at the new position. -/
theorem witness_closure :
    let s : State := { building none 200 with
      sequence := { guarded.sequence with
        entries := (ready.sequence.entries.set 0 { SeqEntry.initial with segment := 3, markEnd := true }).set 1
          { SeqEntry.initial with segment := 7 } }
      queue := { ready.queue with records := [record 4 0 0] } }
    s.builder.build = none ∧ (s.sequence.endIteration s.builder.position).ended = false ∧
      (after .buildBegin s).builder.build =
        some { base := 300000, bars := 40, remapped := false, fetched := false } ∧
      (after .buildBegin s).queue.records = [{ record 4 0 0 with stopMark := true }] := by decide +kernel
/-- An append in PLACING: with targets for Z0 and bar 5 away from its own, at it, and in Z2 with no second record. -/
def placingAt (known : Nat) (z : Zone) : State :=
  withBar (some known) .idle { building none 0 with
    run := { ready.run with state := .placing, placement := some { zones := [z, z, z, z], targets := none } }
    builder := { guarded.builder with build := some { base := 262144, bars := 40, remapped := false, fetched := true } } }
theorem witness_placing_append :
    (placingAt 9 .z0).resetHeld = false ∧ (placingAt 9 .z0).bars.length = 48 ∧
    (after .append (placingAt 9 .z0)).run.state = .placing ∧
    ((after .append (placingAt 9 .z0)).bar 5).standing = some 0 ∧
    ((after .append (placingAt 9 .z0)).lane 2).queue.length = 1 ∧
    (after .append (placingAt 0 .z0)).run.state = .running ∧
    (after .append (placingAt 9 .z2)).run = (placingAt 9 .z2).run := by decide +kernel
theorem witness_append :
    let s : State := { building none 0 with builder := { guarded.builder with
      build := some { base := 262144, bars := 40, remapped := false, fetched := true } } }
    s.resetHeld = false ∧ s.bars.length = 48 ∧ (after .append s).queue.records.length = 1 := by decide +kernel
/-- An append whose finalization sets LONG_SHOG: 127 spaces of a slow drive. -/
theorem witness_long_shog :
    let s : State := { placingAt 0 .z2 with
      classes := ready.classes.set 1 { base := 20000, perSpace := 20000 }
      queue := { ready.queue with records := [record 4 0 127] } }
    (after .append s).queue.records.map Record.longShog = [true, false] ∧
      Event.longShog.isIn (after .append s).portD.events = true := by decide +kernel
theorem witness_arithmetic : 0 < 448 ∧ validConstants defaultConstants = true ∧ ready.bars.length = 48 ∧
    (List.replicate 48 ({ p1 := 0, p2 := 1 } : Pair)).length = 48 := by decide +kernel
theorem witness_ceilings : validConstants ready.constants = true ∧ (marked true true).queue.records ≠ [] ∧
    2 + 1 < (marked true true).constants.lookAhead ∧ (marked false false).run.state = .running ∧
    ceilingFor defaultConstants 0 = (750, false) ∧ ceilingFor defaultConstants 80000 = (750, false) ∧
    ceilingFor defaultConstants 2000000 = (30, false) ∧ ceilingFor defaultConstants 2000001 = (30, true) := by
  decide +kernel
/-- CHUNK: the first, the last and an aborted chunk of the copy, and one that the reset input finds in its grant. -/
theorem witness_chunk : MemoryWf (copying 512).memory ∧ (copying 512).arbiter.grant = some .engine ∧
    (copying 512).engine.state ≠ .idle ∧ (copying 512).engine.resetStop = false ∧ 88 = min 256 (600 - 512) ∧
    512 + 88 = 600 ∧ 256 = min 256 (600 - 0) ∧ 0 + 256 < 600 ∧ 300000 + 600 ≤ memorySize ∧ 270144 + 600 ≤ 300000 ∧
    (after .chunk (after (.opAbort .d) (copying 256))).engine.result = .aborted ∧
    (after .resetInput (copying 256)).engine.resetStop = true ∧
    (after .chunk (after .resetInput (copying 256))).engine = Engine.initial := by decide +kernel
theorem witness_operations : guarded.accepts .d ∧ (guarded.segment 7).current.isSome = true ∧
    status .d (after (.opCheck .d 7 0) guarded) = some .ok ∧ status .d (after (.opCheck .d 7 1) guarded) = some .state ∧
    status .d (after (.opCheck .d 64 0) guarded) = some .badValue ∧
    status .d (after (.opFill .d 2 0) guarded) = some .live ∧
    status .d (after (.opFill .d 1 0) (region1 none false)) = some .ok ∧
    status .d (after (.opCopy .d 300000 300600 65537) guarded) = some .badValue :=
  ⟨accepts_of rfl (by decide) rfl, rfl, by decide +kernel, by decide +kernel, by decide +kernel, by decide +kernel,
    by decide +kernel, by decide +kernel⟩
theorem witness_suspended : (copying 256).accepts .d ∧ guarded.accepts .d ∧
    (after (.opResume .d) (after (.opSuspend .d) (copying 256))).engine.state = .active :=
  ⟨accepts_of rfl (by decide) rfl, accepts_of rfl (by decide) rfl, by decide +kernel⟩
theorem witness_op_status : (copying 256).accepts .m ∧ ready.accepts .m ∧ ready.engine.op = none :=
  ⟨accepts_of rfl (by decide) rfl, ready_accepts.1, rfl⟩
theorem witness_configuration : ready.accepts .m ∧ status .m (after (.setClass .m 3 20000 20000) ready) = some .ok ∧
    status .m (after (.setClass .m 4 20000 20000) ready) = some .badValue ∧
    status .m (after (.setBar .m 47 1 3 15 3 127) ready) = some .ok ∧
    status .m (after (.setBar .m 48 1 3 15 3 127) ready) = some .badValue ∧
    status .m (after (.setBar .m 6 1 2 5 0 127) (withBar none .lost ready)) = some .duplicate :=
  ⟨ready_accepts.1, by decide +kernel, by decide +kernel, by decide +kernel, by decide +kernel, by decide +kernel⟩
theorem witness_read_back : ready.accepts .d ∧ (moving.bar 5).outstanding = true ∧ moving.accepts .d ∧
    status .d (after (.getBar .d 47) ready) = some .ok ∧ status .d (after (.getBar .d 48) ready) = some .badValue ∧
    status .d (after (.queueRead .d 0 7) (marked true true)) = some .ok ∧
    status .d (after (.queueRead .d 0 8) (marked true true)) = some .badValue :=
  ⟨ready_accepts.2, rfl, accepts_of rfl (by decide) rfl, by decide +kernel, by decide +kernel, by decide +kernel,
    by decide +kernel⟩
theorem witness_home_and_place : (withBar (some 9) .idle ready).accepts .m ∧
    ((withBar (some 9) .idle ready).bar 5).handshake = .idle ∧
    status .m (after (.home .m 255) (withBar (some 9) .idle ready)) = some .ok ∧
    status .m (after (.home .m 48) ready) = some .badValue ∧ status .m (after (.home .m 47) ready) = some .state ∧
    status .m (after (.placeBar .m 5 127) (withBar (some 9) .idle ready)) = some .ok ∧
    status .m (after (.placeBar .m 5 128) (withBar (some 9) .idle ready)) = some .badValue ∧
    (queued.accepts .m ∧ (queued.lane 2).sentIs 5 = false ∧ (queued.lane 2).Transmits ∧
      after (.home .m 255) queued = { after (.home .m 5) queued with portM := (after (.home .m 255) queued).portM }) ∧
    (awaiting.accepts .m ∧ (awaiting.lane 2).sentIs 5 = true ∧
      (after (.home .m 5) awaiting).lanes = awaiting.lanes) :=
  ⟨accepts_of rfl (by decide) rfl, rfl, by decide +kernel, by decide +kernel, by decide +kernel, by decide +kernel,
    by decide +kernel, ⟨accepts_of rfl (by decide) rfl, by decide +kernel, by decide +kernel, by decide +kernel⟩,
    accepts_of rfl (by decide) rfl, by decide +kernel, by decide +kernel⟩
/-- An article of one segment, homed bar 5, and the shaft still at `n`. -/
def armable (n : Nat) : State :=
  atCount n (withBar (some 9) .idle { building none 0 with
    run := ready.run, builder := ready.builder, sequence := { guarded.sequence with length := 1 } })
theorem witness_arm : (armable 1023).accepts .m ∧ (armable 1023).queue.records = [] ∧
    (after (.arm .m 0 0 199) (armable 1023)).run.state = .placing ∧
    status .m (after (.arm .m 0 0 200) (armable 1023)) = some .badValue ∧
    status .m (after (.arm .m 0 0 0) (armable 1024)) = some .angle ∧
    (let s : State := { armable 1024 with run := { ready.run with state := .faulted } }
     status .m (after (.resume .m) s) = some .ok ∧ (after (.resume .m) s).run.state = .placing) :=
  ⟨accepts_of rfl (by decide) rfl, rfl, by decide +kernel, by decide +kernel, by decide +kernel, by decide +kernel⟩
/-- FAULTED at `n` with bar 5, of group 2, IDLE at 20, and these records in the queue. -/
def resumable (n : Nat) (records : List Record) : State := atCount n (withBar (some 20) .idle (withRun .faulted records []))
/-- RESUME with a retreat backlog of 0: Z0 with the bar at its target, Z1 from its first angle, Z2 with a second record, and
Z2 with the head alone, at the article's end and not. -/
theorem witness_resume :
    let two : List Record := [record 0 20 30, record 1 40 50]
    let target (n : Nat) (records : List Record) : SeqState × Option Nat :=
      ((after (.resume .m) (resumable n records)).run.state, ((after (.resume .m) (resumable n records)).bar 5).standing)
    ((resumable 1088 two).accepts .m ∧ (resumable 1088 two).angle = some 1088 ∧ (resumable 1088 two).queue.backlog = 0 ∧
      ((resumable 1088 two).bar 5).lane = 2 ∧ ((resumable 1088 two).bar 5).homed = true) ∧
    target 1087 two = (.running, some 20) ∧ target 1088 two = (.placing, some 30) ∧
    target 2111 two = (.placing, some 30) ∧ target 2112 two = (.placing, some 40) ∧
    target 2112 [{ record 0 20 30 with articleEnd := true }] = (.placing, some 30) ∧
    target 2112 [record 0 20 30] = (.placing, some 20) :=
  ⟨⟨accepts_of rfl (by decide) rfl, rfl, rfl, rfl, rfl⟩, by decide +kernel, by decide +kernel, by decide +kernel,
    by decide +kernel, by decide +kernel, by decide +kernel⟩
theorem witness_leave : ready.accepts .m ∧ (marked true true).accepts .m ∧
    status .m (after (.disarm .m) (withRun .ended [] [])) = some .ok ∧
    status .m (after (.restart .m) (withRun .placing [] [])) = some .ok ∧
    (after (.clearStop .m) (after (.encoderCount .forward 5) lastCourse)).run.causes = .empty :=
  ⟨ready_accepts.1, accepts_of rfl (by decide) rfl, by decide +kernel, by decide +kernel, by decide +kernel⟩
/-- The laws' hypotheses hold of states with something in them, and each such state has a step. -/
theorem witness_laws :
    MemoryWf (after (.writeCellsGrant .d) (writing 270144)).memory ∧ (fullQueue 15).QueueLaw ∧
    (fullQueue 15).BacklogLaw ∧ (fullQueue 15).CourseNumberLaw ∧ (marked true true).CeilingLaw ∧ ready.TrackerLaw ∧
    (fullQueue 15).HaltedLaw ∧ ready.TableLaw ∧ step ready = .next { ready with now := 1 } := by
  refine ⟨by decide +kernel, ⟨by decide +kernel, by decide +kernel, fun _ => by decide +kernel⟩,
    ⟨fun h => absurd h (by decide +kernel), by decide +kernel⟩, ?_, ?_, ⟨rfl, by decide, by decide, by decide⟩,
    fun h => absurd h (by decide), ⟨by decide +kernel, by decide +kernel⟩, rfl⟩
  · show List.IsChain _ ((fullQueue 15).courseNumbers)
    decide +kernel
  · show ∀ r ∈ _, _
    decide +kernel
theorem witness_stop_request : lastCourse.stopRequested = false ∧
    (after (.encoderCount .forward 5) lastCourse).stopRequested = true ∧
    step { lastCourse with pending := [.encoderCount .forward 5] } =
      .next (after (.encoderCount .forward 5) lastCourse) := ⟨rfl, by decide +kernel, rfl⟩
theorem witness_event_flags :
    let s := ready.raise .late
    Event.late.isIn (s.port .d).events = true ∧
      Event.late.isIn ((after (.eventsClear .d Event.late.flag) s).port .d).events = false ∧
      exec (.eventsClear .d Event.late.flag) s = .next (after (.eventsClear .d Event.late.flag) s) :=
  ⟨by decide +kernel, by decide +kernel, rfl⟩

theorem region_beyond (s : State) (n : Nat) (h : s.regions.length ≤ n) : s.region n = Region.initial := by
  simp [State.region, List.getD_eq_getElem?_getD, List.getElem?_eq_none h]
theorem bar_beyond (s : State) (n : Nat) (h : s.bars.length ≤ n) : s.bar n = Bar.initial n := by
  simp [State.bar, List.getD_eq_getElem?_getD, List.getElem?_eq_none h]
theorem lane_beyond (s : State) (n : Nat) (h : s.lanes.length ≤ n) : s.lane n = Lane.initial := by
  simp [State.lane, List.getD_eq_getElem?_getD, List.getElem?_eq_none h]

/-- Region 1 locked down: the region laws hold. -/
theorem witness_region_laws : (region1 (some .d) true).RegionLaw ∧ (region1 (some .d) true).LockLaw ∧
    ((region1 (some .d) true).region 1).lockDown = true ∧ ∀ rest, (region1 (some .d) true).pending ≠ .powerUp :: rest := by
  have one : ∀ i, i < 16 → ((region1 (some .d) true).region i).valid = true → i = 1 := by decide +kernel
  refine ⟨fun i j hi hj hne vi vj => absurd ((one i hi vi).trans (one j hj vj).symm) hne, fun n h => ?_, rfl,
    fun _ h => nomatch h⟩
  by_cases hn : n < 16
  · have : ∀ i, i < 16 → ((region1 (some .d) true).region i).lockDown = true →
        ((region1 (some .d) true).region i).valid = true ∧ ((region1 (some .d) true).region i).holder.isSome = true := by
      decide +kernel
    exact this n hn h
  · rw [region_beyond _ _ (by simpa [region1, ready, State.reset] using hn)] at h
    exact absurd h (by decide)

/-- Bar 5 with its order sent on lane 2: the laws of bars and lanes hold. -/
theorem witness_lane_laws : awaiting.BarLaw ∧ awaiting.LaneLaw ∧ awaiting.LaneEntriesLaw ∧
    awaiting.LaneTransmitsLaw ∧ (awaiting.lane 2).queue.length = 1 := by
  have one : ∀ i, i < 48 → (awaiting.bar i).enabled = true → i = 5 := by decide +kernel
  have lanes : ∀ g, g = 2 ∨ (awaiting.lane g).queue = [] := by
    intro g
    by_cases hg : g < 4
    · have : ∀ g, g < 4 → g = 2 ∨ (awaiting.lane g).queue = [] := by decide +kernel
      exact this g hg
    · rw [lane_beyond _ _ (by simpa [awaiting, sentLane, State.setLane, withBar, ready, State.reset] using hg)]
      exact .inr rfl
  refine ⟨⟨fun i j hi hj hne vi vj => absurd ((one i hi vi).trans (one j hj vj).symm) hne, fun g => ?_⟩, fun g => ?_,
    ⟨fun g e he => ?_, fun b => ?_, fun h => absurd h (by decide)⟩, fun g hg => ?_, by decide +kernel⟩
  · have : (awaiting.enabledOn g).Sublist ((List.range 48).filter fun b => (awaiting.bar b).enabled) := by
      have h : awaiting.enabledOn g =
          ((List.range 48).filter fun b => (awaiting.bar b).enabled).filter fun b => (awaiting.bar b).lane == g := by
        simp [State.enabledOn, List.filter_filter, Bool.and_comm]
      rw [h]
      exact List.filter_sublist
    refine this.length_le.trans ?_
    decide +kernel
  · rcases lanes g with rfl | h
    · decide +kernel
    · rw [h]
      exact ⟨.nil, by decide⟩
  · rcases lanes g with rfl | h
    · have h : (awaiting.lane 2).queue = [{ bar := 5, kind := .move, target := 35 }] := by decide +kernel
      rw [h, List.mem_singleton] at he
      subst he
      exact ⟨by decide, by decide +kernel, by decide +kernel, _, rfl⟩
    · rw [h] at he
      exact absurd he (by simp)
  · by_cases hb : b < 48
    · have : ∀ b, b < 48 → ((awaiting.bar b).handshake = .off ↔ (awaiting.bar b).enabled = false) := by decide +kernel
      exact this b hb
    · rw [bar_beyond _ _ (by simpa [awaiting, sentLane, State.setLane, withBar, ready, State.reset] using hb)]
      exact ⟨fun _ => rfl, fun _ => rfl⟩
  · rcases lanes g with rfl | h
    · exact .inl (by decide +kernel)
    · exact absurd h hg

/-- The copy of section 9.6 beside the live extent of segment 3. -/
theorem witness_live_guard : (copying 256).EngineLaw ∧ (∃ x ∈ (copying 256).liveExtents, x.holds 262144 = true) ∧
    ∀ rest, (copying 256).pending ≠ .powerUp :: rest := by
  have live : (copying 256).liveExtents = [{ first := 262144, count := 8000 }] := by decide +kernel
  refine ⟨⟨fun _ => by decide, fun _ => rfl, ?_, ?_⟩, ⟨{ first := 262144, count := 8000 }, by simp [live], by decide⟩,
    fun _ h => nomatch h⟩
  · rintro op h
    cases h
    decide
  · rintro target h
    cases h
    refine ⟨fun a ha => ⟨{ first := 270144, count := 600 }, by simp [copying], ha⟩, fun a ha x hx => ?_⟩
    rw [live, List.mem_singleton] at hx
    subst hx
    simp [Extent.holds] at ha ⊢
    omega

end Sys2Proof.Tests
end

section
/-! What each shared operation leaves in run control: postings, lanes and lane events leave it alone; a stop cause is
added; a hard fault enters FAULTED or marks the record; and nothing but the return to HALTED halts the part. -/

namespace Sys2Proof.Machine

@[simp] theorem State.transmit_run (g : Nat) (s : State) : (s.transmit g).run = s.run := by
  unfold State.transmit
  dsimp only
  split
  · rfl
  · split <;> rfl

@[simp] theorem State.enqueue_run (b : Nat) (o : Order) (s : State) : (s.enqueue b o).run = s.run := by
  simp [State.enqueue]

@[simp] theorem State.setPosted_run (b : Nat) (o : Order) (c : Chain) (s : State) : (s.setPosted b o c).run = s.run := rfl

@[simp] theorem State.postWet_run (b : Nat) (o : Order) (s : State) : (s.postWet b o).run = s.run := by
  unfold State.postWet
  dsimp only
  split
  case h_4 => split
              · rfl
              · split <;> rfl
  all_goals simp

/-- A posting leaves run control as it was. -/
@[simp] theorem State.post_run (b : Nat) (o : Order) (s : State) : (s.post b o).run = s.run := by
  unfold State.post
  split
  · split
    · rfl
    · exact State.postWet_run b o s
  · rfl

@[simp] theorem State.orderTo_run (b x : Nat) (d : Option Deadline) (s : State) : (s.orderTo b x d).run = s.run := by
  unfold State.orderTo
  split
  · rfl
  · exact State.post_run b _ s

@[simp] theorem State.placeOne_run (ts : List (Option Nat)) (b : Nat) (s : State) : (s.placeOne ts b).run = s.run := by
  unfold State.placeOne
  split
  · split
    · exact State.orderTo_run b _ none s
    · rfl
  · rfl

/-- A fold of steps that leave a part of the state alone leaves it alone. -/
theorem foldl_reads {α β : Type} {f : State → α → State} {read : State → β} (h : ∀ s a, read (f s a) = read s)
    (l : List α) (s : State) : read (l.foldl f s) = read s := by
  induction l generalizing s with
  | nil => rfl
  | cons a l ih => exact (ih (f s a)).trans (h s a)

@[simp] theorem State.watchStop_run (f : State → State) (s : State) : (s.watchStop f).run = (f s).run := by
  simp [State.watchStop]

/-- R142: a report adds its cause to the set. -/
@[simp] theorem State.setCause_run (c : StopCause) (s : State) :
    (s.setCause c).run = { s.run with causes := s.run.causes.add c } := by
  simp [State.setCause]

@[simp] theorem State.purge_run (s : State) : s.purge.run = s.run := by simp [State.purge]

/-- R136: the entry to FAULTED records the fault with the angle as it stands. -/
@[simp] theorem State.enterFaulted_run (k : FaultKind) (b c : Option Nat) (s : State) :
    (s.enterFaulted k b c).run = { s.run with
      state := .faulted
      placement := none
      fault := some { kind := k, bar := b, course := c, angle := s.angle, more := false } } := by
  simp [State.enterFaulted]

/-- No hard fault halts the part. -/
theorem hardFault_state_halted {k : FaultKind} {b c : Option Nat} {s : State}
    (h : (s.hardFault k b c).run.state = .halted) : s.run.state = .halted := by
  unfold State.hardFault at h
  split at h
  · simp at h
  · simp at h
  · split at h
    · simp at h
    · exact h
  · exact h
  · exact h

end Sys2Proof.Machine
end

section
/-! Every step keeps the constants, the run side cleared in HALTED and the ceilings in their range. -/

namespace Sys2Proof.Machine

/-! ### Only run control runs, and it does not halt -/

/-- Only the run side has changed, and the part has not been halted. -/
structure RunKept (s t : State) : Prop where
  side : RunSide s t
  halted : t.run.state = .halted → s.run.state = .halted

theorem RunKept.refl (s : State) : RunKept s s := ⟨.refl s, id⟩

theorem RunKept.trans {s t u : State} (h : RunKept s t) (k : RunKept t u) : RunKept s u :=
  ⟨h.side.trans k.side, h.halted ∘ k.halted⟩

theorem RunKept.foldl {α : Type} {f : State → α → State} (h : ∀ s a, RunKept s (f s a)) (l : List α) (s : State) :
    RunKept s (l.foldl f s) := by
  induction l generalizing s with
  | nil => exact .refl s
  | cons a l ih => exact (h s a).trans (ih (f s a))

/-- Run control keeps its sequencer state. -/
theorem RunSide.kept {s t : State} (h : RunSide s t) (hs : t.run.state = s.run.state) : RunKept s t :=
  ⟨h, fun ht => hs ▸ ht⟩

theorem raise_runKept (e : Event) (s : State) : RunKept s (s.raise e) := (raise_runSide e s).kept rfl

theorem setCause_runKept (c : StopCause) (s : State) : RunKept s (s.setCause c) := (setCause_runSide c s).kept (by simp)

theorem hardFault_runKept (k : FaultKind) (b c : Option Nat) (s : State) : RunKept s (s.hardFault k b c) :=
  ⟨hardFault_runSide k b c s, hardFault_state_halted⟩

theorem barFault_runKept (k : FaultKind) (b : Nat) (s : State) : RunKept s (s.barFault k b) :=
  (raise_runKept _ s).trans (hardFault_runKept k _ _ _)

theorem completePlacement_runKept (s : State) : RunKept s s.completePlacement :=
  ⟨completePlacement_runSide s, by
    unfold State.completePlacement
    split
    · simp
    · exact id⟩

theorem tryPlacement_runKept (s : State) : RunKept s s.tryPlacement := by
  refine ⟨tryPlacement_runSide s, ?_⟩
  unfold State.tryPlacement
  split
  · next h _ =>
    dsimp only
    split
    · intro ht
      have hf := (completePlacement_runKept _).halted ht
      rw [foldl_reads (read := State.run) fun s b => State.placeOne_run _ b s] at hf
      exact hf
    · exact id
  · exact id

theorem deadlineCrossing_runKept (d : Deadline) (s : State) : RunKept s (s.deadlineCrossing d) := by
  refine (deadlineCrossing_runSide d s).kept ?_
  unfold State.deadlineCrossing
  split <;> simp

theorem deadlinesFrom_runKept (a a' : Nat) (s : State) : RunKept s (s.deadlinesFrom a a') := by
  have one (c : Prop) [Decidable c] (d : Deadline) (s : State) : RunKept s (if c then s.deadlineCrossing d else s) := by
    split
    · exact deadlineCrossing_runKept d s
    · exact .refl s
  exact (one _ _ s).trans (one _ _ _)

theorem orderAtCrossing_runKept (g : Nat) (x : Crossing) (s : State) (b : Nat) :
    RunKept s (s.orderAtCrossing g x b) := by
  refine (orderAtCrossing_runSide g x s b).kept ?_
  unfold State.orderAtCrossing
  split
  · rfl
  · split <;> simp

theorem zoneCrossing_runKept (g : Nat) (x : Crossing) (s : State) : RunKept s (s.zoneCrossing g x) := by
  unfold State.zoneCrossing
  split
  · split
    · exact .foldl (orderAtCrossing_runKept g x) _ s
    · split
      · exact hardFault_runKept _ _ _ s
      · exact .refl s
  · exact .refl s

/-- A group's two crossings of a count, each taken where its condition holds. -/
theorem twoCrossings_runKept (c c' : Prop) [Decidable c] [Decidable c'] (g : Nat) (x x' : Crossing) (s : State) :
    RunKept s (if c' then (if c then s.zoneCrossing g x else s).zoneCrossing g x'
      else (if c then s.zoneCrossing g x else s)) := by
  have one (c : Prop) [Decidable c] (x : Crossing) (s : State) : RunKept s (if c then s.zoneCrossing g x else s) := by
    split
    · exact zoneCrossing_runKept g x s
    · exact .refl s
  exact (one c x s).trans (one c' x' _)

theorem zonesForward_runKept (a a' : Nat) (s : State) (g : Nat) : RunKept s (s.zonesForward a a' g) :=
  twoCrossings_runKept _ _ g .enterZ1 .enterZ2 s

theorem zonesReverse_runKept (a a' : Nat) (s : State) (g : Nat) : RunKept s (s.zonesReverse a a' g) :=
  twoCrossings_runKept _ _ g .backToZ1 .backToZ0 s

theorem reportCount_runKept (s : State) : RunKept s s.reportCount := by
  unfold State.reportCount
  split
  · exact hardFault_runKept _ _ _ s
  · exact .refl s

/-! ### The laws kept -/

/-- From `s` to `t` the three laws are kept. -/
structure LawsKept (s t : State) : Prop where
  tracker : s.TrackerLaw → t.TrackerLaw
  halted : s.HaltedLaw → t.HaltedLaw
  ceilings : s.TrackerLaw → s.HaltedLaw → s.CeilingLaw → t.CeilingLaw

theorem LawsKept.refl (s : State) : LawsKept s s := ⟨id, id, fun _ _ h => h⟩

theorem LawsKept.trans {s t u : State} (h : LawsKept s t) (k : LawsKept t u) : LawsKept s u :=
  ⟨k.tracker ∘ h.tracker, k.halted ∘ h.halted,
    fun ht hh hc => k.ceilings (h.tracker ht) (h.halted hh) (h.ceilings ht hh hc)⟩

/-- The constants, the shaft's counter and simulated rate, the queue and the builder are as they were, and the part has
not been halted. -/
theorem LawsKept.of_same {s t : State} (constants : t.constants = s.constants)
    (counter : t.tracker.counter = s.tracker.counter) (rate : t.tracker.simRate = s.tracker.simRate)
    (queue : t.queue = s.queue) (builder : t.builder = s.builder)
    (halted : t.run.state = .halted → s.run.state = .halted) : LawsKept s t := by
  refine ⟨fun h => ?_, fun h ht => ?_, fun _ _ h => ?_⟩
  · simpa only [State.TrackerLaw, constants, counter, rate] using h
  · simpa only [queue, builder] using h (halted ht)
  · simpa only [State.CeilingLaw, constants, queue] using h

theorem RunKept.lawsKept {s t : State} (h : RunKept s t) : LawsKept s t :=
  .of_same h.side.constants (by rw [h.side.tracker]) (by rw [h.side.tracker]) h.side.queue h.side.builder h.halted

/-- The tracker alone has changed: its counter stays in the revolution, and its simulated rate is as it was. -/
theorem LawsKept.of_tracker (s : State) (k : Tracker)
    (counter : s.TrackerLaw → k.counter < s.constants.counts) (rate : k.simRate = s.tracker.simRate) :
    LawsKept s { s with tracker := k } := by
  refine ⟨fun h => ?_, fun h => h, fun _ _ h => h⟩
  obtain ⟨valid, -, low, high⟩ := id h
  exact ⟨valid, counter h, by simpa [rate] using low, by simpa [rate] using high⟩

/-! ### Ceilings -/

/-- R81: every ceiling of the queue and the history lies in crawl rpm..max rpm. -/
def CeilingsIn (k : MachineConstants) (q : CourseQueue) : Prop :=
  ∀ r ∈ q.records ++ q.history, k.crawlRpm ≤ r.ceiling ∧ r.ceiling ≤ k.maxRpm

theorem ceilingLaw_iff (s : State) : s.CeilingLaw ↔ CeilingsIn s.constants s.queue := Iff.rfl

/-- In a part that does not stand HALTED the queue block, the builder and run control change, with the ceilings in their
range. -/
theorem LawsKept.of_queue {s t : State} (ht : s.HaltedLaw → t.run.state ≠ .halted)
    (constants : t.constants = s.constants) (tracker : t.tracker = s.tracker)
    (ceilings : s.TrackerLaw → CeilingsIn s.constants s.queue → CeilingsIn s.constants t.queue) : LawsKept s t := by
  refine ⟨fun h => ?_, fun law h => absurd h (ht law), fun h _ hc => ?_⟩
  · simpa only [State.TrackerLaw, constants, tracker] using h
  · rw [ceilingLaw_iff, constants]
    exact ceilings h hc

/-- In a part that is not HALTED the backlog and the overrun count alone change. -/
theorem LawsKept.of_counts (s : State) (h : s.run.state ≠ .halted) (b o : Nat) :
    LawsKept s { s with queue := { s.queue with backlog := b, overrun := o } } :=
  .of_queue (fun _ => h) rfl rfl fun _ hc => hc

/-- R81: the ceiling for a period lies in crawl rpm..max rpm. -/
theorem ceilingFor_range {k : MachineConstants} (h : k.crawlRpm ≤ k.maxRpm) (p : Nat) :
    k.crawlRpm ≤ (ceilingFor k p).1 ∧ (ceilingFor k p).1 ≤ k.maxRpm := by
  unfold ceilingFor
  split
  · exact ⟨h, Nat.le_refl _⟩
  · dsimp only
    split
    · exact ⟨Nat.le_refl _, h⟩
    · next hs => exact ⟨Nat.le_of_not_lt hs, Nat.min_le_right _ _⟩

/-- R17 in ordinary inequalities. -/
theorem validConstants_iff (k : MachineConstants) : validConstants k = true ↔
    (400 ≤ k.counts ∧ k.counts ≤ 16384) ∧
    (1 ≤ k.overlapStart ∧ k.overlapStart < k.overlapEnd ∧ k.overlapEnd ≤ k.underlapStart ∧
      k.underlapStart < k.underlapEnd ∧ k.underlapEnd ≤ 4095) ∧
    k.stagger ≤ 255 ∧
    (k.overlapStart + 3 * k.stagger + 64 ≤ k.overlapEnd ∧ k.underlapStart + 3 * k.stagger + 64 ≤ k.underlapEnd) ∧
    k.underlapStart + 3 * k.stagger < 4096 ∧
    (1 ≤ k.maxRpm ∧ k.maxRpm ≤ 1500 ∧ 1 ≤ k.crawlRpm ∧ k.crawlRpm ≤ k.maxRpm) ∧
    (1 ≤ k.lookAhead ∧ k.lookAhead ≤ 12) ∧ 500 ≤ k.slack ∧ k.slack ≤ 50000 := by
  simp [validConstants, and_assoc]

theorem State.TrackerLaw.crawl_le_max {s : State} (h : s.TrackerLaw) : s.constants.crawlRpm ≤ s.constants.maxRpm := by
  obtain ⟨valid, -⟩ := h
  have := (validConstants_iff s.constants).mp valid
  omega

theorem reopen_ceiling {k : MachineConstants} {r : Record} (h : k.crawlRpm ≤ k.maxRpm)
    (hr : k.crawlRpm ≤ r.ceiling ∧ r.ceiling ≤ k.maxRpm) :
    k.crawlRpm ≤ (r.reopen k).ceiling ∧ (r.reopen k).ceiling ≤ k.maxRpm := by
  unfold Record.reopen
  split
  · exact hr
  · exact ceilingFor_range h _

theorem close_ceiling {k : MachineConstants} {r : Record} (a : Advance) (h : k.crawlRpm ≤ k.maxRpm)
    (hr : k.crawlRpm ≤ r.ceiling ∧ r.ceiling ≤ k.maxRpm) :
    k.crawlRpm ≤ (r.close k a).ceiling ∧ (r.close k a).ceiling ≤ k.maxRpm := by
  unfold Record.close
  split
  · exact ceilingFor_range h _
  · exact hr

theorem finalize_ceiling {s : State} {r : Record} (next : List Pair) (h : s.constants.crawlRpm ≤ s.constants.maxRpm)
    (hr : s.constants.crawlRpm ≤ r.ceiling ∧ r.ceiling ≤ s.constants.maxRpm) :
    s.constants.crawlRpm ≤ (s.finalize next r).ceiling ∧ (s.finalize next r).ceiling ≤ s.constants.maxRpm := by
  unfold State.finalize
  split
  · exact hr
  · exact ceilingFor_range h _

theorem mapLast_concat {α : Type} (f : α → α) (x : α) : ∀ l : List α, mapLast f (l ++ [x]) = l ++ [f x]
  | [] => rfl
  | [_] => rfl
  | y :: z :: rest => congrArg (y :: ·) (mapLast_concat f x (z :: rest))

/-- What holds of every element, and is kept by the change of the last, holds of every element after it. -/
theorem forall_mem_mapLast {α : Type} {f : α → α} {P : α → Prop} (hf : ∀ x, P x → P (f x)) {l : List α}
    (h : ∀ x ∈ l, P x) : ∀ x ∈ mapLast f l, P x := by
  rcases List.eq_nil_or_concat l with rfl | ⟨front, y, rfl⟩
  · exact h
  · rw [List.concat_eq_append, mapLast_concat]
    intro x hx
    rcases List.mem_append.mp hx with hx | hx
    · exact h x (by simp [hx])
    · rw [List.mem_singleton.mp hx]
      exact hf y (h y (by simp))

/-! ### The boundaries -/

theorem setCause_lawsKept (c : StopCause) (s : State) : LawsKept s (s.setCause c) := (setCause_runKept c s).lawsKept

theorem raise_lawsKept (e : Event) (s : State) : LawsKept s (s.raise e) := (raise_runKept e s).lawsKept

theorem hardFault_lawsKept (k : FaultKind) (b c : Option Nat) (s : State) : LawsKept s (s.hardFault k b c) :=
  (hardFault_runKept k b c s).lawsKept

theorem overrunForward_lawsKept {s : State} (h : s.run.state ≠ .halted) : LawsKept s s.overrunForward :=
  ((LawsKept.of_counts s h s.queue.backlog (min 255 (s.queue.overrun + 1))).trans (setCause_lawsKept .overrun _)).trans
    (raise_lawsKept .overrun _)

/-- A record that leaves for the history was in the queue. -/
theorem execute_ceilings {k : MachineConstants} {q : CourseQueue} {r : Record} {rest : List Record}
    (hq : q.records = r :: rest) (h : CeilingsIn k q) : CeilingsIn k (q.execute r rest) := by
  intro x hx
  refine h x ?_
  simp only [CourseQueue.execute, List.mem_append] at hx
  rcases hx with hx | hx
  · simp [hq, hx]
  · have := List.mem_of_mem_take hx
    simp only [hq, List.mem_append, List.mem_cons] at this ⊢
    tauto

theorem headLeaves_lawsKept {s : State} {r : Record} {rest : List Record} (h : s.run.state ≠ .halted)
    (hq : s.queue.records = r :: rest) : LawsKept s (s.headLeaves r rest) := by
  have left : LawsKept s { s with queue := s.queue.execute r rest } :=
    .of_queue (fun _ => h) rfl rfl fun _ => execute_ceilings hq
  unfold State.headLeaves
  split
  · exact left.trans (setCause_lawsKept .mark _)
  · exact left

@[simp] theorem State.headLeaves_run_state (r : Record) (rest : List Record) (s : State) :
    (s.headLeaves r rest).run.state = s.run.state := by
  unfold State.headLeaves
  split <;> simp

theorem endArticle_lawsKept (s : State) : LawsKept s s.endArticle := by
  unfold State.endArticle
  split
  · have ended : LawsKept s { s with
        run := { s.run with state := .ended }, queue := { s.queue with overrun := 0 } } :=
      .of_queue (fun _ => by simp) rfl rfl fun _ hc => hc
    exact ended.trans (raise_lawsKept .ended _)
  · exact .refl s

theorem advanceQueue_lawsKept {s : State} (h : s.run.state ≠ .halted) : LawsKept s s.advanceQueue := by
  unfold State.advanceQueue
  split
  · split
    · exact overrunForward_lawsKept h
    · exact hardFault_lawsKept _ _ _ s
  · next r hq =>
    split
    · exact (headLeaves_lawsKept h hq).trans (endArticle_lawsKept _)
    · exact (headLeaves_lawsKept h hq).trans (hardFault_lawsKept _ _ _ _)
  · next r rest _ hq => exact headLeaves_lawsKept h hq

theorem queueForward_lawsKept (s : State) : LawsKept s s.queueForward := by
  unfold State.queueForward
  split
  · exact .refl s
  · next h => exact overrunForward_lawsKept (by simp [h])
  · next h _ =>
    split
    · exact .of_queue (fun _ => h) rfl rfl fun _ hc => hc
    · exact advanceQueue_lawsKept h

theorem discardTail_lawsKept {s : State} (h : s.run.state ≠ .halted) : LawsKept s s.discardTail := by
  unfold State.discardTail
  split
  · exact .refl s
  · refine .of_queue (fun _ => h) rfl rfl fun law hc r hr => ?_
    rcases List.mem_append.mp hr with hr | hr
    · refine forall_mem_mapLast (P := fun x : Record => s.constants.crawlRpm ≤ x.ceiling ∧
        x.ceiling ≤ s.constants.maxRpm) (fun x => reopen_ceiling law.crawl_le_max) (fun x hx => ?_) r hr
      exact hc x (List.mem_append_left _ (List.mem_of_mem_dropLast hx))
    · exact hc r (List.mem_append_right _ hr)

/-- The build is abandoned: in HALTED the builder stood without one. -/
theorem abandonBuild_lawsKept (s : State) : LawsKept s s.abandonBuild := by
  refine ⟨fun h => h, fun h ht => ?_, fun _ _ h => h⟩
  obtain ⟨hq, hb⟩ := h ht
  exact ⟨hq, by simp [State.abandonBuild, hb, Builder.initial]⟩

theorem restore_lawsKept {s : State} (h : s.run.state ≠ .halted) : LawsKept s s.restore := by
  unfold State.restore
  split
  · exact .refl s
  · next r rest hh =>
    have restored : LawsKept s { s with
        queue := { s.queue with records := r :: s.queue.records, history := rest } } :=
      .of_queue (fun _ => h) rfl rfl fun _ hc x hx => hc x (by
        simp only [hh, List.mem_append, List.mem_cons] at hx ⊢
        tauto)
    dsimp only
    split
    · exact (restored.trans (discardTail_lawsKept h)).trans (abandonBuild_lawsKept _)
    · split
      · exact restored.trans (abandonBuild_lawsKept _)
      · exact restored

theorem retreat_lawsKept {s : State} (h : s.run.state ≠ .halted) : LawsKept s s.retreat := by
  have reported : LawsKept s ((State.setCause .backoff
      { s with queue := { s.queue with backlog := min 255 (s.queue.backlog + 1) } }).raise .backoff) :=
    ((LawsKept.of_counts s h (min 255 (s.queue.backlog + 1)) s.queue.overrun).trans (setCause_lawsKept .backoff _)).trans
      (raise_lawsKept .backoff _)
  unfold State.retreat
  dsimp only
  split
  · exact reported.trans (hardFault_lawsKept _ _ _ _)
  · exact reported

theorem overrunBackward_lawsKept {s : State} (h : s.run.state ≠ .halted) : LawsKept s s.overrunBackward := by
  unfold State.overrunBackward
  split
  · exact .of_queue (fun _ => h) rfl rfl fun _ hc => hc
  · split
    · exact .refl s
    · split
      · exact (restore_lawsKept h).trans (.of_same rfl rfl rfl rfl rfl (by simp))
      · exact restore_lawsKept h

theorem queueBackward_lawsKept (s : State) : LawsKept s s.queueBackward := by
  unfold State.queueBackward
  split
  · exact .refl s
  · next h => exact overrunBackward_lawsKept (by simp [h])
  · next h _ =>
    split
    · exact overrunBackward_lawsKept h
    · split
      · exact retreat_lawsKept h
      · exact restore_lawsKept h

theorem raiseIf_lawsKept (c : Bool) (e : Event) (s : State) : LawsKept s (s.raiseIf c e) :=
  ((raiseIf_runSide c e s).kept (by simp)).lawsKept

theorem watchCeiling_lawsKept {f : State → State} {s : State} (h : LawsKept s (f s)) : LawsKept s (s.watchCeiling f) :=
  h.trans (raiseIf_lawsKept _ _ _)

/-! ### Counts and the index -/

@[simp] theorem Tracker.measure_counter (t : Nat) (k : Tracker) : (k.measure t).counter = k.counter := by
  unfold Tracker.measure
  split <;> rfl

@[simp] theorem Tracker.measure_simRate (t : Nat) (k : Tracker) : (k.measure t).simRate = k.simRate := by
  unfold Tracker.measure
  split <;> rfl

theorem forwardBoundary_lawsKept (t : Nat) (s : State) : LawsKept s (s.forwardBoundary t) :=
  (LawsKept.of_tracker s (s.tracker.measure t)
    (fun law => by simpa using law.2.1) (by simp)).trans (watchCeiling_lawsKept (queueForward_lawsKept _))

theorem backwardBoundary_lawsKept (s : State) : LawsKept s s.backwardBoundary :=
  watchCeiling_lawsKept (queueBackward_lawsKept s)

theorem crossForward_lawsKept (c t : Nat) (s : State) : LawsKept s (s.crossForward c t) := by
  have crossed (a a' : Nat) : LawsKept s ((List.range 4).foldl (State.zonesForward a a') (s.deadlinesFrom a a')) :=
    ((deadlinesFrom_runKept a a' s).trans (.foldl (zonesForward_runKept a a') _ _)).lawsKept
  unfold State.crossForward
  dsimp only
  split
  · exact (crossed _ _).trans (forwardBoundary_lawsKept t _)
  · exact crossed _ _

theorem crossReverse_lawsKept (c : Nat) (s : State) : LawsKept s (s.crossReverse c) := by
  have crossed (a a' : Nat) (s : State) : LawsKept s ((List.range 4).foldl (State.zonesReverse a a') s) :=
    (RunKept.foldl (zonesReverse_runKept a a') _ _).lawsKept
  unfold State.crossReverse
  dsimp only
  split
  · exact (backwardBoundary_lawsKept s).trans (crossed _ _ _)
  · exact crossed _ _ s

/-- R1: a count keeps the counter in the revolution. -/
theorem countFrom_lt {counts counter : Nat} (h : counter < counts) (d : Direction) : countFrom counts counter d < counts := by
  unfold countFrom
  split <;> split <;> omega

@[simp] theorem Tracker.count_counter (counts t : Nat) (d : Direction) (k : Tracker) :
    (k.count counts t d).counter = countFrom counts k.counter d := by cases d <;> rfl

@[simp] theorem Tracker.count_simRate (counts t : Nat) (d : Direction) (k : Tracker) :
    (k.count counts t d).simRate = k.simRate := by cases d <;> rfl

theorem takeCount_lawsKept (d : Direction) (t : Nat) (s : State) : LawsKept s (s.takeCount d t) := by
  have counted : LawsKept s (State.reportCount { s with tracker := s.tracker.count s.constants.counts t d }) :=
    (LawsKept.of_tracker s (s.tracker.count s.constants.counts t d)
      (fun law => by rw [Tracker.count_counter]; exact countFrom_lt law.2.1 d) (Tracker.count_simRate ..)).trans
      (reportCount_runKept _).lawsKept
  unfold State.takeCount
  dsimp only
  split
  · split
    · exact counted.trans (crossForward_lawsKept _ _ _)
    · exact counted.trans (crossReverse_lawsKept _ _)
  · exact counted

theorem takeIndex_lawsKept (s : State) : LawsKept s s.takeIndex := by
  have zeroed (k : Tracker) (h0 : k.counter = 0) (hr : k.simRate = s.tracker.simRate) :
      LawsKept s { s with tracker := k } :=
    .of_tracker s k (fun law => by have := law.2.1; omega) hr
  unfold State.takeIndex
  split
  · split
    · exact .refl s
    · have slipped := (zeroed { s.tracker with counter := 0, startTime := none, period := none } rfl rfl).trans
        (raise_lawsKept .slip _)
      unfold State.slip
      dsimp only
      split
      · exact slipped.trans (hardFault_lawsKept _ _ _ _)
      · exact slipped
  · exact zeroed _ rfl rfl

theorem simulate_lawsKept (t : Nat) (s : State) : LawsKept s (s.simulate t) := by
  have counted := (LawsKept.of_tracker s s.tracker.giveCount (fun law => law.2.1) rfl).trans
    (takeCount_lawsKept .forward t _)
  unfold State.simulate
  dsimp only
  split
  · exact counted.trans (takeIndex_lawsKept _)
  · exact counted

/-! ### The builder -/

theorem closeIteration_lawsKept {s : State} (h : s.run.state ≠ .halted) : LawsKept s s.closeIteration := by
  refine .of_queue (fun _ => h) rfl rfl fun law hc r hr => ?_
  rcases List.mem_append.mp hr with hr | hr
  · refine forall_mem_mapLast (P := fun x : Record => s.constants.crawlRpm ≤ x.ceiling ∧
      x.ceiling ≤ s.constants.maxRpm) (fun x => close_ceiling _ law.crawl_le_max) (fun x hx => ?_) r hr
    exact hc x (List.mem_append_left _ hx)
  · exact hc r (List.mem_append_right _ hr)

/-- A switch touches the map, the engine and event flags. -/
theorem startSegment_lawsKept (g : Nat) (s : State) : LawsKept s (s.startSegment g) := by
  unfold State.startSegment
  split
  · split
    · exact .of_same rfl rfl rfl rfl rfl id
    · exact raise_lawsKept _ s
  · exact .refl s

@[simp] theorem State.startSegment_run (g : Nat) (s : State) : (s.startSegment g).run = s.run := by
  unfold State.startSegment
  split
  · split <;> rfl
  · rfl

theorem beginCourse_lawsKept {s : State} (h : s.run.state ≠ .halted) : LawsKept s s.beginCourse := by
  have switched (c : Prop) [Decidable c] (g : Nat) : LawsKept s (if c then s.startSegment g else s) := by
    split
    · exact startSegment_lawsKept g s
    · exact .refl s
  have active (c : Prop) [Decidable c] (g : Nat) : (if c then s.startSegment g else s).run.state ≠ .halted := by
    split <;> simpa using h
  unfold State.beginCourse
  dsimp only
  split
  · exact .refl s
  · exact (switched _ _).trans (.of_queue (fun _ => active _ _) rfl rfl fun _ hc => hc)

theorem beginBuild_lawsKept {s : State} (h : s.run.state ≠ .halted) : LawsKept s s.beginBuild := by
  unfold State.beginBuild
  split
  · exact .refl s
  · split
    · split
      · exact closeIteration_lawsKept h
      · exact (closeIteration_lawsKept h).trans (beginCourse_lawsKept (s := s.closeIteration) h)
    · exact beginCourse_lawsKept h

/-- R68: a build begins in PLACING, RUNNING or FAULTED. -/
theorem canBegin_active {s : State} (h : s.canBegin = true) : s.run.state ≠ .halted := by
  intro hs
  simp [State.canBegin, hs] at h

/-- A build in progress shows that the part is not HALTED. -/
theorem State.HaltedLaw.active_of_build {s : State} {b : Build} (law : s.HaltedLaw) (h : s.builder.build = some b) :
    s.run.state ≠ .halted := fun hs => by simp [(law hs).2, Builder.initial] at h

theorem endFetch_lawsKept (s : State) : LawsKept s s.endFetch := by
  unfold State.endFetch
  split
  · next b hb =>
    have build : ∃ x, s.builder.build = some x := by
      unfold State.fetchedBuild at hb
      split at hb
      · exact ⟨_, ‹_›⟩
      · cases hb
    obtain ⟨x, hx⟩ := build
    exact .of_queue (fun law => law.active_of_build hx) rfl rfl fun _ hc => hc
  · exact .of_same rfl rfl rfl rfl rfl id

theorem finalizedQueue_ceilings {s : State} (next : List Pair) (h : s.constants.crawlRpm ≤ s.constants.maxRpm)
    (hc : CeilingsIn s.constants s.queue) : CeilingsIn s.constants (s.finalizedQueue next) := by
  unfold State.finalizedQueue
  split
  · intro r hr
    rcases List.mem_append.mp hr with hr | hr
    · refine forall_mem_mapLast (P := fun x : Record => s.constants.crawlRpm ≤ x.ceiling ∧
        x.ceiling ≤ s.constants.maxRpm) (fun x => finalize_ceiling next h) (fun x hx => ?_) r hr
      exact hc x (List.mem_append_left _ hx)
    · exact hc r (List.mem_append_right _ hr)
  · next hq =>
    split
    · next r rest hh =>
      intro x hx
      simp only [hq, List.nil_append, List.mem_cons] at hx
      have old : ∀ y ∈ r :: rest, s.constants.crawlRpm ≤ y.ceiling ∧ y.ceiling ≤ s.constants.maxRpm :=
        fun y hy => hc y (by simp [hq, hh, List.mem_cons.mp hy])
      rcases hx with rfl | hx
      · split
        · exact finalize_ceiling next h (old r (by simp))
        · exact old r (by simp)
      · exact old x (by simp [hx])
    · exact hc

theorem appendBuild_lawsKept {b : Build} {s : State} (h : s.readyBuild = some b) : LawsKept s (s.appendBuild b) := by
  have build : ∃ x, s.builder.build = some x := by
    unfold State.readyBuild at h
    split at h
    · exact ⟨_, ‹_›⟩
    · cases h
  obtain ⟨x, hx⟩ := build
  have appended (f : Builder) : LawsKept s { s with
      queue := { s.finalizedQueue (s.newRecord b).pairs with
        records := (s.finalizedQueue (s.newRecord b).pairs).records ++ [s.newRecord b] }
      builder := f } := by
    refine .of_queue (fun law => law.active_of_build hx) rfl rfl fun law hc r hr => ?_
    simp only [List.mem_append, List.mem_singleton] at hr
    have fin := finalizedQueue_ceilings (s.newRecord b).pairs law.crawl_le_max hc
    rcases hr with (hr | rfl) | hr
    · exact fin r (by simp [hr])
    · exact ceilingFor_range law.crawl_le_max _
    · exact fin r (by simp [hr])
  exact (((appended _).trans (raiseIf_lawsKept _ _ _)).trans (raiseIf_lawsKept _ _ _)).trans
    (tryPlacement_runKept _).lawsKept

/-! ### The ports, the arbiter and the engine -/

theorem setPort_lawsKept (p : Port) (x : PortState) (s : State) : LawsKept s (s.setPort p x) := by
  cases p <;> exact .of_same rfl rfl rfl rfl rfl id

theorem setSlot_lawsKept (p : Port) (x : Slot) (s : State) : LawsKept s (s.setSlot p x) := setPort_lawsKept p _ s

theorem receive_lawsKept (p : Port) (f : List Byte) (s : State) : LawsKept s (s.receive p f) := setPort_lawsKept p _ s

/-- A port that takes a frame keeps the laws where the frame's body does. -/
theorem take_lawsKept {body : Body} (h : ∀ u, LawsKept u (body u).1) (p : Port) (f : List Byte) (first : Option Status)
    (s : State) : LawsKept s (s.take p f first body) := by
  have received := receive_lawsKept p f s
  rcases take_cases p f first body s with ⟨-, e⟩ | ⟨-, -, e⟩ | ⟨-, -, _, -, e⟩ | ⟨-, -, -, e⟩ <;> rw [e]
  · exact .refl s
  · exact received.trans (setPort_lawsKept p _ _)
  · exact received.trans (setSlot_lawsKept p _ _)
  · exact (received.trans (h _)).trans (setSlot_lawsKept p _ _)

/-- A judged command keeps the laws where its effect does, once no test refuses. -/
theorem judged_lawsKept {refusal : State → Option Reply} {effect : State → State} {data : State → List Byte}
    (h : ∀ u, refusal u = none → LawsKept u (effect u)) (s : State) : LawsKept s (judged refusal effect data s).1 := by
  rcases judged_cases refusal effect data s with ⟨r, -, e⟩ | ⟨hr, e⟩ <;> rw [e]
  · exact .refl s
  · exact h s hr

theorem command_lawsKept {refusal : State → Option Reply} {effect : State → State} {data : State → List Byte}
    (h : ∀ u, refusal u = none → LawsKept u (effect u)) (p : Port) (onlyM : Bool) (i : Instr) (s : State) :
    LawsKept s (s.command p onlyM i (judged refusal effect data)) :=
  take_lawsKept (judged_lawsKept h) p _ _ s

theorem elapse_lawsKept (t : Nat) (s : State) : LawsKept s (s.elapse t) := .of_same rfl rfl rfl rfl rfl id

theorem unlessHeld_lawsKept {f : State → State} (h : ∀ u, LawsKept u (f u)) (s : State) :
    LawsKept s (s.unlessHeld f) := by
  unfold State.unlessHeld
  split
  · exact .refl s
  · exact h s

theorem askChunk_lawsKept (s : State) : LawsKept s s.askChunk := by
  have asked : LawsKept s { s with arbiter := { s.arbiter with chunkWaiting := true } } :=
    .of_same rfl rfl rfl rfl rfl id
  unfold State.askChunk
  dsimp only
  split <;> split
  all_goals first | exact asked | exact .refl s

theorem startOp_lawsKept (k : OpKind) (p : Port) (n : Nat) (l : List Extent) (s : State) :
    LawsKept s (s.startOp k p n l) := by
  have started : LawsKept s { s with engine := s.engine.start k p n l } := .of_same rfl rfl rfl rfl rfl id
  exact (started.trans (askChunk_lawsKept _)).trans (.of_same rfl rfl rfl rfl rfl id)

theorem unverify_lawsKept (e : Extent) (s : State) : LawsKept s (s.unverify e) := .of_same rfl rfl rfl rfl rfl id

theorem endOp_lawsKept (owner : Option Port) (r : OpResult) (s : State) : LawsKept s (s.endOp owner r) := by
  have ended : LawsKept s { s with engine := s.engine.finish r } := .of_same rfl rfl rfl rfl rfl id
  cases owner with
  | none => exact ended
  | some p => exact ended.trans (setPort_lawsKept p _ _)

theorem doCells_lawsKept (op : Operation) (s : State) : LawsKept s (s.doCells op) := by
  unfold State.doCells
  split <;> exact .of_same rfl rfl rfl rfl rfl id

theorem settleCheck_lawsKept (g : Nat) (ok : Bool) (s : State) : LawsKept s (s.settleCheck g ok) := by
  unfold State.settleCheck
  split
  · exact .of_same rfl rfl rfl rfl rfl id
  · exact .refl s

theorem settleChunk_lawsKept (op : Operation) (s : State) : LawsKept s (s.settleChunk op) := by
  have engine (s : State) (e : Engine) : LawsKept s { s with engine := e } := .of_same rfl rfl rfl rfl rfl id
  unfold State.settleChunk
  split
  · exact engine s _
  · split
    · exact endOp_lawsKept _ _ s
    · split
      · split
        · exact engine s _
        · exact ((settleCheck_lawsKept _ _ s).trans (engine _ _)).trans (endOp_lawsKept _ _ _)
        · exact endOp_lawsKept _ _ s
        · exact endOp_lawsKept _ _ s
      · exact .refl s

theorem runChunk_lawsKept (op : Operation) (s : State) : LawsKept s (s.runChunk op) := by
  have engine (s : State) (e : Engine) : LawsKept s { s with engine := e } := .of_same rfl rfl rfl rfl rfl id
  have granted (s : State) : LawsKept s s.endGrant := .of_same rfl rfl rfl rfl rfl id
  exact (((((doCells_lawsKept op s).trans (engine _ _)).trans (settleChunk_lawsKept _ _)).trans (granted _)).trans
    (askChunk_lawsKept _)).trans (.of_same rfl rfl rfl rfl rfl id)

theorem endAccess_lawsKept (p : Port) (r : Reply) (s : State) : LawsKept s (s.endAccess p r) :=
  (setSlot_lawsKept p (.ready r) s).trans (.of_same rfl rfl rfl rfl rfl id)

theorem writeInGrant_lawsKept (p : Port) (a : Nat) (cells : List Cell) (s : State) :
    LawsKept s (s.writeInGrant p a cells).1 := by
  unfold State.writeInGrant
  split
  · exact .refl s
  · exact .of_same rfl rfl rfl rfl rfl id

/-! ### The commands' effects -/

/-- R92: the return to HALTED leaves the queue and the builder cleared. -/
theorem clearRun_lawsKept (s : State) : LawsKept s s.clearRun :=
  ⟨fun h => h, fun _ _ => ⟨rfl, rfl⟩, fun _ _ _ r hr => by simp [State.clearRun, CourseQueue.initial] at hr⟩

/-- R17: the new constants are valid, the counter stands in the new revolution, and max rpm bounds the simulated rate. -/
theorem setConstantsEffect_lawsKept {k : MachineConstants} {s : State} (h : setConstantsRefusal k s = none) :
    LawsKept s (setConstantsEffect k s) := by
  obtain ⟨halted, valid⟩ : s.run.state = .halted ∧ validConstants k = true := by
    simpa [setConstantsRefusal, firstRefusal_none] using h
  have range := (validConstants_iff k).mp valid
  have changed : (setConstantsEffect k s).constants = k ∧ (setConstantsEffect k s).queue = s.queue ∧
      (setConstantsEffect k s).builder = s.builder ∧
      (setConstantsEffect k s).tracker.simRate = min s.tracker.simRate k.maxRpm ∧
      ((setConstantsEffect k s).tracker.counter = 0 ∨
        k.counts = s.constants.counts ∧ (setConstantsEffect k s).tracker.counter = s.tracker.counter) := by
    unfold setConstantsEffect
    dsimp only
    by_cases hr : k.maxRpm < s.tracker.simRate <;> by_cases hc : k.counts = s.constants.counts <;>
      simp [hr, hc, State.restartSchedule, Tracker.forgetAngle] <;> omega
  obtain ⟨constants, queue, builder, rate, counter⟩ := changed
  refine ⟨fun law => ?_, fun law _ => ?_, fun _ law _ r hr => ?_⟩
  · obtain ⟨-, inside, low, -⟩ := law
    unfold State.TrackerLaw
    rw [constants, rate]
    refine ⟨valid, ?_, by omega, by omega⟩
    rcases counter with counter | ⟨same, counter⟩ <;> rw [counter] <;> omega
  · rw [queue, builder]
    exact law halted
  · rw [queue, (law halted).1] at hr
    simp [CourseQueue.initial] at hr

/-- A schedule that starts anew leaves the counter and the rate. -/
theorem restartSchedule_lawsKept (s : State) : LawsKept s s.restartSchedule := .of_same rfl rfl rfl rfl rfl id

theorem setSourceEffect_lawsKept (x : Nat) (s : State) : LawsKept s (setSourceEffect x s) := by
  have lost (s : State) : LawsKept s s.loseEnabled := by
    have barred : LawsKept s.purge { s.purge with bars := s.purge.bars.map Bar.loseIdle } :=
      .of_same rfl rfl rfl rfl rfl id
    exact (((purge_runSide s).kept (by simp)).lawsKept.trans barred).trans (raiseIf_lawsKept _ _ _)
  unfold setSourceEffect
  split
  · exact .refl s
  · next src _ =>
    split
    · exact .refl s
    · have forgotten := LawsKept.of_tracker s { s.tracker.forgetAngle with source := src }
        (fun law => by have := law.2.1; simp [Tracker.forgetAngle]; omega) rfl
      exact (forgotten.trans (restartSchedule_lawsKept _)).trans (lost _)

theorem simSpeedEffect_lawsKept {x : Nat} {s : State} (h : simSpeedRefusal x s = none) :
    LawsKept s (simSpeedEffect x s) := by
  obtain ⟨low, high⟩ : x ≠ 0 ∧ x ≤ s.constants.maxRpm := by simpa [simSpeedRefusal, firstRefusal_none] using h
  refine ⟨fun law => ?_, fun h => h, fun _ _ h => h⟩
  obtain ⟨valid, inside, -, -⟩ := law
  exact ⟨valid, inside, Nat.one_le_iff_ne_zero.mpr low, high⟩

theorem simGateEffect_lawsKept (x : Nat) (s : State) : LawsKept s (simGateEffect x s) := by
  unfold simGateEffect
  split
  · exact .refl s
  · exact .of_same rfl rfl rfl rfl rfl id

theorem mem_clearFirstMark {r : Record} : ∀ {l : List Record}, r ∈ clearFirstMark l → ∃ x ∈ l, r.ceiling = x.ceiling
  | [], h => by simp [clearFirstMark] at h
  | x :: rest, h => by
    unfold clearFirstMark at h
    split at h
    · rcases List.mem_cons.mp h with rfl | h
      · exact ⟨x, by simp, rfl⟩
      · exact ⟨r, by simp [h], rfl⟩
    · rcases List.mem_cons.mp h with rfl | h
      · exact ⟨r, by simp, rfl⟩
      · obtain ⟨y, hy, e⟩ := mem_clearFirstMark h
        exact ⟨y, by simp [hy], e⟩

theorem continueEffect_lawsKept (s : State) : LawsKept s (continueEffect s) := by
  refine watchCeiling_lawsKept ⟨fun h => h, fun h ht => ?_, fun _ _ h r hr => ?_⟩
  · obtain ⟨hq, hb⟩ := h ht
    exact ⟨by simp [hq, CourseQueue.initial, clearFirstMark], hb⟩
  · rcases List.mem_append.mp hr with hr | hr
    · obtain ⟨x, hx, e⟩ := mem_clearFirstMark hr
      rw [e]
      exact h x (List.mem_append_left _ hx)
    · exact h r (List.mem_append_right _ hr)

theorem beginPlacement_lawsKept (f : Builder) (r : RunControl) (s : State) :
    LawsKept s (State.beginPlacement { s with builder := f, run := r }) :=
  .of_queue (fun _ => by simp [State.beginPlacement]) rfl rfl fun _ hc => hc

theorem homeEffect_lawsKept (b : Nat) (s : State) : LawsKept s (homeEffect b s) := by
  have one (s : State) (b : Nat) : (s.homeOne b).run = s.run := by
    unfold State.homeOne
    split <;> simp
  have run : (homeEffect b s).run = s.run := by
    unfold homeEffect
    split
    · exact foldl_reads (read := State.run) one _ s
    · exact one s b
  exact ((homeEffect_runSide b s).kept (by rw [run])).lawsKept

theorem opCheckEffect_lawsKept (p : Port) (g w : Nat) (s : State) : LawsKept s (opCheckEffect p g w s) := by
  have engine (e : Engine) : LawsKept s { s with engine := e } := .of_same rfl rfl rfl rfl rfl id
  unfold opCheckEffect
  split
  · exact .refl s
  · exact ((engine _).trans (askChunk_lawsKept _)).trans (.of_same rfl rfl rfl rfl rfl id)

theorem opSuspendEffect_lawsKept (s : State) : LawsKept s (opSuspendEffect s) := by
  unfold opSuspendEffect
  split
  · exact .of_same rfl rfl rfl rfl rfl id
  · exact .refl s

theorem opResumeEffect_lawsKept (s : State) : LawsKept s (opResumeEffect s) := by
  have resumed : LawsKept s { s with engine := { s.engine with state := .active } } := .of_same rfl rfl rfl rfl rfl id
  unfold opResumeEffect
  split
  · exact (resumed.trans (askChunk_lawsKept _)).trans (.of_same rfl rfl rfl rfl rfl id)
  · exact .refl s

theorem opAbortEffect_lawsKept (s : State) : LawsKept s (opAbortEffect s) := by
  have withdrawn : LawsKept s s.withdrawChunk := .of_same rfl rfl rfl rfl rfl id
  unfold opAbortEffect
  split
  · exact .refl s
  · split
    · exact .of_same rfl rfl rfl rfl rfl id
    · exact withdrawn.trans (endOp_lawsKept _ _ _)

theorem mapEffect_lawsKept (g : Nat) (m : Mapping) (s : State) : LawsKept s (mapEffect g m s) := by
  unfold mapEffect
  split <;> exact .of_same rfl rfl rfl rfl rfl id

theorem mapCancelEffect_lawsKept (g : Nat) (s : State) : LawsKept s (mapCancelEffect g s) := by
  unfold mapCancelEffect
  split
  · exact .refl s
  · exact .of_same rfl rfl rfl rfl rfl id

/-- A cell command waits for its grant, or is refused. -/
theorem waitForGrant_lawsKept (p : Port) (refusal : State → Option Reply) (x : Access) (s : State) :
    LawsKept s (waitForGrant p refusal x s).1 := by
  unfold waitForGrant
  split
  · exact .refl s
  · exact .of_same rfl rfl rfl rfl rfl id

/-! ### Power and the reset input -/

theorem reset_trackerLaw : State.reset.TrackerLaw := ⟨by decide, by decide, by decide, by decide⟩
theorem reset_haltedLaw : State.reset.HaltedLaw := fun _ => ⟨rfl, rfl⟩
theorem reset_ceilingLaw : State.reset.CeilingLaw := fun r hr => by simp [State.reset, CourseQueue.initial] at hr

theorem completeAccess_lawsKept (s : State) : LawsKept s s.completeAccess := by
  unfold State.completeAccess
  split
  · split
    · split
      · exact writeInGrant_lawsKept _ _ _ s
      · exact .refl s
    · exact .refl s
  · exact .refl s

/-- R18, R92: the reset input leaves the run side cleared and the shaft at its reset values. -/
theorem onReset_lawsKept (s : State) : LawsKept s s.onReset := by
  refine ⟨fun law => ?_, fun _ _ => ⟨rfl, rfl⟩, fun _ _ _ r hr => by simp [State.onReset, CourseQueue.initial] at hr⟩
  obtain ⟨valid, inside, low, high⟩ := law
  have range := (validConstants_iff s.constants).mp valid
  refine ⟨valid, ?_, ?_, ?_⟩ <;> simp [State.onReset, Tracker.initial] <;> omega

/-! ### Every command and event -/

theorem replyTaken_runKept (b : Nat) (s : State) : RunKept s (s.replyTaken b) := by
  refine (replyTaken_runSide b s).kept ?_
  unfold State.replyTaken
  dsimp only
  repeat' split
  all_goals simp

theorem replyInPosition_runKept (b x : Nat) (s : State) : RunKept s (s.replyInPosition b x) := by
  unfold State.replyInPosition
  split
  · split
    · exact ((setBar_runSide b _ s).kept rfl).trans (completePlacement_runKept _)
    · exact ((setBar_runSide b _ s).kept rfl).trans (barFault_runKept _ _ _)
  · exact .refl s

theorem loseFromLane_runKept (b : Nat) (s : State) : RunKept s (s.loseFromLane b) :=
  (loseFromLane_runSide b s).kept (by simp [State.loseFromLane])

theorem replyFault_runKept (b c : Nat) (s : State) : RunKept s (s.replyFault b c) := by
  unfold State.replyFault
  split
  · exact (((setBar_runSide b _ s).kept rfl).trans (loseFromLane_runKept _ _)).trans (barFault_runKept _ _ _)
  · exact .refl s

theorem driveReply_lawsKept (l a : Nat) (r : DriveReply) (s : State) : LawsKept s (s.driveReply l a r) := by
  unfold State.driveReply
  split
  · exact .refl s
  · split
    · exact (replyTaken_runKept _ s).lawsKept
    · exact (replyInPosition_runKept _ _ s).lawsKept
    · exact (replyFault_runKept _ _ s).lawsKept
    · exact .refl s

theorem frameSent_lawsKept (g : Nat) (s : State) : LawsKept s (s.frameSent g) := by
  refine ((frameSent_runSide g s).kept ?_).lawsKept
  unfold State.frameSent
  dsimp only
  repeat' split
  all_goals simp

theorem takeLimitReached_lawsKept (b : Nat) (s : State) : LawsKept s (s.takeLimitReached b) := by
  unfold State.takeLimitReached
  split
  · split
    · split
      · exact ((loseFromLane_runKept b s).trans (barFault_runKept _ _ _)).lawsKept
      · exact .refl s
    · exact .refl s
  · exact .refl s

theorem moveLimitReached_lawsKept (b : Nat) (s : State) : LawsKept s (s.moveLimitReached b) := by
  unfold State.moveLimitReached
  split
  · split
    · split
      · exact (((setBar_runSide b _ s).kept rfl).trans (barFault_runKept _ _ _)).lawsKept
      · exact .refl s
    · exact .refl s
  · exact .refl s

/-- A lane event at a time: the timebase reaches it, and while the reset input is held nothing follows. -/
theorem timed_lawsKept {f : State → State} (h : ∀ u, LawsKept u (f u)) (t : Nat) (s : State) :
    LawsKept s ((s.elapse t).unlessHeld f) := (elapse_lawsKept t s).trans (unlessHeld_lawsKept h _)

/-- A command that reads alone. -/
theorem reading_lawsKept {refusal : State → Option Reply} {data : State → List Byte} (p : Port) (onlyM : Bool) (i : Instr)
    (s : State) : LawsKept s (s.command p onlyM i (judged refusal id data)) :=
  command_lawsKept (fun u _ => .refl u) p onlyM i s

/-- A command whose effect leaves the constants, the shaft, the queue, the builder and run control alone. -/
theorem setting_lawsKept {refusal : State → Option Reply} {effect : State → State} {data : State → List Byte} (p : Port)
    (onlyM : Bool) (i : Instr) (s : State)
    (h : ∀ u, (effect u).constants = u.constants ∧ (effect u).tracker = u.tracker ∧ (effect u).queue = u.queue ∧
      (effect u).builder = u.builder ∧ (effect u).run = u.run) :
    LawsKept s (s.command p onlyM i (judged refusal effect data)) := by
  refine command_lawsKept (fun u _ => ?_) p onlyM i s
  obtain ⟨constants, tracker, queue, builder, run⟩ := h u
  exact .of_same constants (by rw [tracker]) (by rw [tracker]) queue builder (by rw [run]; exact id)

theorem encoderCount_lawsKept (e : Edge) (t : Nat) (s : State) :
    LawsKept s ((s.elapse t).unlessHeld fun s =>
      if s.tracker.source = .encoder then
        match e with
        | .forward => s.takeCount .forward s.now
        | .reverse => s.takeCount .reverse s.now
        | .together => s
      else s) := by
  refine timed_lawsKept (fun u => ?_) t s
  split
  · cases e with
    | forward => exact takeCount_lawsKept _ _ u
    | reverse => exact takeCount_lawsKept _ _ u
    | together => exact .refl u
  · exact .refl u

/-- Every command and event keeps the laws. -/
theorem exec_lawsKept (c : Instr) (s t : State) (h : exec c s = .next t) : LawsKept s t := by
  have next {u : State} (e : exec c s = .next u) (k : LawsKept s u) : LawsKept s t :=
    Host.Outcome.next.inj (e.symm.trans h) ▸ k
  cases c with
  | powerUp => exact next rfl ⟨fun _ => reset_trackerLaw, fun _ => reset_haltedLaw, fun _ _ _ => reset_ceilingLaw⟩
  | resetInput => exact next rfl ((completeAccess_lawsKept s).trans (onReset_lawsKept _))
  | encoderCount e time => exact next rfl (encoderCount_lawsKept e time s)
  | encoderIndex =>
    refine next rfl (unlessHeld_lawsKept (fun u => ?_) s)
    split
    · exact takeIndex_lawsKept u
    · exact .refl u
  | simulatedCount time =>
    refine next rfl (timed_lawsKept (fun u => ?_) time s)
    split
    · split
      · exact simulate_lawsKept _ u
      · exact .refl u
    · exact .refl u
  | stillTimerExpiry time =>
    refine next rfl (timed_lawsKept (fun u => ?_) time s)
    split
    · split
      · exact .of_same rfl rfl rfl rfl rfl id
      · exact .refl u
    · exact .refl u
  | buildBegin =>
    refine next rfl (unlessHeld_lawsKept (fun u => ?_) s)
    split
    · next hb => exact watchCeiling_lawsKept (beginBuild_lawsKept (canBegin_active hb))
    · exact .refl u
  | builderFetch =>
    change execBuilderFetch s = .next t at h
    unfold execBuilderFetch at h
    split at h
    · split at h
      · split at h
        · cases h
        · cases h
          exact endFetch_lawsKept s
      · cases h
        exact endFetch_lawsKept s
    · cases h
      exact .refl s
  | append =>
    refine next rfl (unlessHeld_lawsKept (fun u => ?_) s)
    split
    · next hb => exact watchCeiling_lawsKept (appendBuild_lawsKept hb)
    · exact .refl u
  | orderFrameSent lane time => exact next rfl (timed_lawsKept (frameSent_lawsKept lane) time s)
  | taken lane address time => exact next rfl (timed_lawsKept (driveReply_lawsKept lane address _) time s)
  | inPosition lane address position =>
    refine next rfl ?_
    split
    · exact unlessHeld_lawsKept (driveReply_lawsKept lane address _) s
    · exact .refl s
  | fault lane address code =>
    refine next rfl ?_
    split
    · exact .refl s
    · exact unlessHeld_lawsKept (driveReply_lawsKept lane address _) s
  | replyFrameIgnored lane frame time =>
    refine next rfl ?_
    split
    · exact .refl s
    · exact timed_lawsKept (driveReply_lawsKept lane _ _) time s
  | takeLimitExpiry bar time => exact next rfl (timed_lawsKept (takeLimitReached_lawsKept bar) time s)
  | moveLimitExpiry bar time => exact next rfl (timed_lawsKept (moveLimitReached_lawsKept bar) time s)
  | chunk =>
    change execChunk s = .next t at h
    unfold execChunk at h
    split at h
    · split at h
      · cases h
      · cases h
        exact runChunk_lawsKept _ s
    · cases h
      exact .refl s
  | readCellsGrant port =>
    change execReadCellsGrant port s = .next t at h
    unfold execReadCellsGrant at h
    split at h
    · split at h
      · split at h
        · cases h
        · cases h
          exact endAccess_lawsKept port _ s
      · cases h
        exact .refl s
    · cases h
      exact .refl s
  | writeCellsGrant port =>
    change execWriteCellsGrant port s = .next t at h
    unfold execWriteCellsGrant at h
    split at h
    · split at h
      · split at h
        · cases h
        · cases h
          exact (writeInGrant_lawsKept port _ _ s).trans (endAccess_lawsKept port _ _)
      · cases h
        exact .refl s
    · cases h
      exact .refl s
  | transactionBegin port =>
    refine next rfl ?_
    split
    · exact setPort_lawsKept port _ s
    · split
      · exact setPort_lawsKept port _ s
      · exact .refl s
  | transactionEnd port bits => exact next rfl (setPort_lawsKept port _ s)
  | replyRead port =>
    refine next rfl ?_
    split
    · exact setPort_lawsKept port _ s
    · exact .refl s
  | unknownCommand port code => exact next rfl (take_lawsKept (fun u => .refl u) port _ _ s)
  | status port => exact next rfl (take_lawsKept (judged_lawsKept fun u _ => .refl u) port _ _ s)
  | eventsRead port => exact next rfl (reading_lawsKept port _ _ s)
  | eventsClear port mask => exact next rfl (command_lawsKept (fun u _ => setPort_lawsKept port _ u) port _ _ s)
  | eventsEnable port mask => exact next rfl (command_lawsKept (fun u _ => setPort_lawsKept port _ u) port _ _ s)
  | shaftLatch port =>
    refine next rfl (command_lawsKept (fun u _ => ?_) port _ _ s)
    cases port <;> exact .of_same rfl rfl rfl rfl rfl id
  | shaftRead port => exact next rfl (reading_lawsKept port _ _ s)
  | getConstants port => exact next rfl (reading_lawsKept port _ _ s)
  | setConstants port k time =>
    exact next rfl ((elapse_lawsKept time s).trans (command_lawsKept (fun _ => setConstantsEffect_lawsKept) port _ _ _))
  | setSource port source time =>
    exact next rfl ((elapse_lawsKept time s).trans
      (command_lawsKept (fun u _ => setSourceEffect_lawsKept source u) port _ _ _))
  | simSpeed port rate time =>
    exact next rfl ((elapse_lawsKept time s).trans (command_lawsKept (fun _ => simSpeedEffect_lawsKept) port _ _ _))
  | simGate port gate time =>
    exact next rfl ((elapse_lawsKept time s).trans
      (command_lawsKept (fun u _ => simGateEffect_lawsKept gate u) port _ _ _))
  | readCells port address count => exact next rfl (take_lawsKept (waitForGrant_lawsKept port _ _) port _ _ s)
  | writeCells port address count cells => exact next rfl (take_lawsKept (waitForGrant_lawsKept port _ _) port _ _ s)
  | regionSet port region base size => exact next rfl (setting_lawsKept port _ _ s fun _ => ⟨rfl, rfl, rfl, rfl, rfl⟩)
  | regionClear port region => exact next rfl (setting_lawsKept port _ _ s fun _ => ⟨rfl, rfl, rfl, rfl, rfl⟩)
  | regionGet port region => exact next rfl (reading_lawsKept port _ _ s)
  | lock port region => exact next rfl (setting_lawsKept port _ _ s fun _ => ⟨rfl, rfl, rfl, rfl, rfl⟩)
  | unlock port region => exact next rfl (setting_lawsKept port _ _ s fun _ => ⟨rfl, rfl, rfl, rfl, rfl⟩)
  | lockDown port region => exact next rfl (setting_lawsKept port _ _ s fun _ => ⟨rfl, rfl, rfl, rfl, rfl⟩)
  | map port segment base courses bars expected =>
    exact next rfl (command_lawsKept (fun u _ => mapEffect_lawsKept segment _ u) port _ _ s)
  | mapCancel port segment => exact next rfl (command_lawsKept (fun u _ => mapCancelEffect_lawsKept segment u) port _ _ s)
  | mapClear port segment => exact next rfl (setting_lawsKept port _ _ s fun _ => ⟨rfl, rfl, rfl, rfl, rfl⟩)
  | mapGet port segment => exact next rfl (reading_lawsKept port _ _ s)
  | seqWrite port entry segment repeats flags => exact next rfl (setting_lawsKept port _ _ s fun _ => ⟨rfl, rfl, rfl, rfl, rfl⟩)
  | seqForm port length mode => exact next rfl (setting_lawsKept port _ _ s fun _ => ⟨rfl, rfl, rfl, rfl, rfl⟩)
  | seqRepeat port entry repeats => exact next rfl (setting_lawsKept port _ _ s fun _ => ⟨rfl, rfl, rfl, rfl, rfl⟩)
  | seqGet port entry => exact next rfl (reading_lawsKept port _ _ s)
  | setClass port cls base perSpace => exact next rfl (setting_lawsKept port _ _ s fun _ => ⟨rfl, rfl, rfl, rfl, rfl⟩)
  | setBar port bar enabled lane address cls limit => exact next rfl (setting_lawsKept port _ _ s fun _ => ⟨rfl, rfl, rfl, rfl, rfl⟩)
  | home port bar => exact next rfl (command_lawsKept (fun u _ => homeEffect_lawsKept bar u) port _ _ s)
  | placeBar port bar position =>
    exact next rfl (command_lawsKept (fun u _ => ((orderTo_runSide bar position none u).kept (by simp)).lawsKept) port _ _ s)
  | getBar port bar => exact next rfl (reading_lawsKept port _ _ s)
  | queueRead port list index => exact next rfl (reading_lawsKept port _ _ s)
  | arm port entry iteration course =>
    exact next rfl (command_lawsKept (fun u _ => (beginPlacement_lawsKept _ u.run u).trans
      (tryPlacement_runKept _).lawsKept) port _ _ s)
  | disarm port => exact next rfl (command_lawsKept (fun u _ => clearRun_lawsKept u) port _ _ s)
  | resume port =>
    exact next rfl (command_lawsKept (fun u _ => (beginPlacement_lawsKept u.builder _ u).trans
      (tryPlacement_runKept _).lawsKept) port _ _ s)
  | restart port =>
    exact next rfl (command_lawsKept (fun u _ => ((purge_runSide u).kept (by simp)).lawsKept.trans
      (clearRun_lawsKept _)) port _ _ s)
  | clearStop port =>
    refine next rfl (command_lawsKept (fun u _ => ?_) port _ _ s)
    exact .of_same rfl rfl rfl rfl rfl id
  | continueRun port => exact next rfl (command_lawsKept (fun u _ => continueEffect_lawsKept u) port _ _ s)
  | opFill port region value =>
    exact next rfl (command_lawsKept (fun u _ => (unverify_lawsKept _ u).trans (startOp_lawsKept _ _ _ _ _)) port _ _ s)
  | opCopy port source destination count =>
    exact next rfl (command_lawsKept (fun u _ => (unverify_lawsKept _ u).trans (startOp_lawsKept _ _ _ _ _)) port _ _ s)
  | opCheck port segment mapping =>
    exact next rfl (command_lawsKept (fun u _ => opCheckEffect_lawsKept port segment mapping u) port _ _ s)
  | opSuspend port => exact next rfl (command_lawsKept (fun u _ => opSuspendEffect_lawsKept u) port _ _ s)
  | opResume port => exact next rfl (command_lawsKept (fun u _ => opResumeEffect_lawsKept u) port _ _ s)
  | opAbort port => exact next rfl (command_lawsKept (fun u _ => opAbortEffect_lawsKept u) port _ _ s)
  | opStatus port => exact next rfl (reading_lawsKept port _ _ s)
  | resetRelease => exact next rfl (.of_same rfl rfl rfl rfl rfl id)

/-- Settles O56: a tick keeps the laws, and so does every command and event that a step runs. -/
theorem stepsKeepConstantsAndCeilings : Obligations.StepsKeepConstantsAndCeilings := by
  intro s t h
  have kept : LawsKept s t := by
    unfold step at h
    split at h
    · cases h
      exact .of_same rfl rfl rfl rfl rfl id
    · next c rest hp =>
      have popped : LawsKept s { s with pending := rest } := .of_same rfl rfl rfl rfl rfl id
      exact popped.trans (exec_lawsKept c _ t h)
  exact ⟨kept.tracker, kept.halted, kept.ceilings⟩

end Sys2Proof.Machine
end


section
/-! Power and the reset state: the values after POWER_UP, and the laws that hold there. -/

namespace Sys2Proof.Machine

/-! ### The state after POWER_UP -/

/-- A table of equal items reads the item everywhere, beyond its end too. -/
theorem getD_replicate_self {α : Type} (k n : Nat) (x : α) : (List.replicate k x).getD n x = x := by
  rw [List.getD_eq_getElem?_getD, List.getElem?_getD_replicate_default_eq]

@[simp] theorem reset_region (n : Nat) : State.reset.region n = Region.initial := getD_replicate_self _ _ _
@[simp] theorem reset_segment (g : Nat) : State.reset.segment g = .empty := getD_replicate_self _ _ _
@[simp] theorem reset_seqEntry (e : Nat) : State.reset.seqEntry e = SeqEntry.initial := getD_replicate_self _ _ _
@[simp] theorem reset_driveClass (c : Nat) : State.reset.driveClass c = DriveClass.initial :=
  getD_replicate_self _ _ _
@[simp] theorem reset_lane (g : Nat) : State.reset.lane g = Lane.initial := getD_replicate_self _ _ _

@[simp] theorem reset_bar (n : Nat) : State.reset.bar n = Bar.initial n := by
  by_cases h : n < 48 <;> simp [State.bar, State.reset, List.getD_eq_getElem?_getD, h]

/-- R107: after power-up no bar is enabled. -/
theorem reset_enabledOn (g : Nat) : State.reset.enabledOn g = [] := by
  simp [State.enabledOn, Bar.initial]

/-- R35: after power-up no extent is live. -/
theorem reset_liveExtents : State.reset.liveExtents = [] := rfl

/-- Settles O4: the state after POWER_UP is `State.reset` but for the waiting commands. -/
theorem powerUpGivesPowerUpValues : Obligations.PowerUpGivesPowerUpValues := by
  intro s
  refine ⟨_, rfl, rfl, rfl, rfl, rfl, rfl, rfl, rfl, rfl, rfl, rfl, rfl, rfl, ⟨rfl, rfl, rfl, rfl⟩, reset_region,
    reset_segment, reset_seqEntry, rfl, rfl, rfl, rfl, rfl, rfl, rfl, rfl, rfl, rfl, fun n _ => reset_bar n,
    fun c _ => reset_driveClass c, fun g => ?_, rfl, rfl, rfl, rfl, rfl, rfl, rfl, rfl, fun p => ?_⟩
  · have lane := reset_lane g
    exact ⟨congrArg Lane.queue lane, congrArg Lane.awaiting lane⟩
  · have quiet : PortState.initial.attention = false := by decide
    cases p <;> exact ⟨rfl, rfl, rfl, rfl, rfl, quiet⟩

/-! ### The laws at reset -/

theorem reset_barLaw : State.reset.BarLaw :=
  ⟨fun i j _ _ _ hi => by simp [Bar.initial] at hi, fun g => by simp [reset_enabledOn]⟩

theorem reset_laneEntriesLaw : State.reset.LaneEntriesLaw :=
  ⟨fun g e he => by simp [Lane.initial] at he, fun b => by simp [Bar.initial], fun _ g => by simp [Lane.initial]⟩

/-- The start-up fill's first chunk is in its grant, and its busy extent covers the memory it writes. -/
theorem reset_engineLaw : State.reset.EngineLaw := by
  refine ⟨fun _ => by decide, fun _ => rfl, fun op h => ?_, fun target h => ⟨fun a ha => ?_, fun a _ x hx => ?_⟩⟩
  · cases h
    exact Nat.zero_le _
  · cases h
    exact ⟨{ first := 0, count := 1048576 }, by simp [State.reset, Engine.startUp], ha⟩
  · rw [reset_liveExtents] at hx
    cases hx

theorem reset_tableLaw : State.reset.TableLaw := by
  refine ⟨⟨rfl, rfl, rfl, rfl, rfl, rfl⟩, fun n h => ?_⟩
  rw [reset_bar]
  exact Nat.div_lt_of_lt_mul h

/-- Settles O5: POWER_UP gives `State.reset`, where the tables are empty and the run side is cleared. -/
theorem resetStateMeetsTheLaws : Obligations.ResetStateMeetsTheLaws := by
  refine ⟨fun s h => ?_, ⟨.nil, fun c hc => by cases hc⟩, ⟨by decide, by decide, fun h => absurd h (by decide)⟩,
    ⟨fun h => absurd h (by decide), by decide⟩, .nil, fun i j _ _ _ hi => ?_, fun n h => ?_, reset_trackerLaw,
    reset_haltedLaw, reset_ceilingLaw, reset_barLaw, fun g => ?_, reset_laneEntriesLaw, fun g h => ?_, reset_engineLaw,
    reset_tableLaw⟩
  · change Host.Outcome.next { State.reset with pending := s.pending } = _
    rw [h]
    rfl
  · simp [Region.initial] at hi
  · simp [Region.initial] at h
  · simp [Lane.initial]
  · simp [Lane.initial] at h

end Sys2Proof.Machine
end

section
/-! What a port command of the shaft answers: the snapshots, the constants, the source and the simulated shaft. -/

namespace Sys2Proof.Machine

/-! ### Answers -/

/-- A received frame changes its port alone. -/
theorem State.receive_eq (p : Port) (f : List Byte) (s : State) :
    s.receive p f = s.setPort p ((s.receive p f).port p) := by cases p <;> rfl

/-- A command whose effect on the received state leaves `u`, but for its port, answers from `u`. -/
theorem answers_received {p : Port} {status : Status} {data frame : List Byte} {s u v : State}
    (hv : v = u.setPort p ((s.receive p frame).port p)) (hu : u.port p = s.port p) :
    Answers p status data u (v.setSlot p (.ready { status := status, data := data })) := by
  subst hv
  refine ⟨?_, ?_, ?_, ?_, ?_, fun a => ?_⟩
  · simp [State.setSlot]
  · simp
  · simp
  · simp [hu]
  · simp [hu]
  · simp

/-- R158: a command that its rule refuses answers the refusal, and nothing but its port changes. -/
theorem command_answers_refusal {p : Port} {onlyM : Bool} {i : Instr} {refusal : State → Option Reply}
    {effect : State → State} {data : State → List Byte} {s : State} {status : Status} {bytes : List Byte}
    (h : s.accepts p) (hm : onlyM = true → p = .m)
    (hr : refusal (s.receive p (commandFrame i)) = some { status := status, data := bytes }) :
    Answers p status bytes s (s.command p onlyM i (judged refusal effect data)) := by
  rw [command_refused h hm hr]
  exact answers_received (State.receive_eq p _ s) rfl

/-- An accepted command answers OK with its data, from the state that its effect leaves. -/
theorem command_answers_ok {p : Port} {onlyM : Bool} {i : Instr} {refusal : State → Option Reply}
    {effect : State → State} {data : State → List Byte} {s u : State} {bytes : List Byte} (h : s.accepts p)
    (hm : onlyM = true → p = .m) (hr : refusal (s.receive p (commandFrame i)) = none)
    (he : effect (s.receive p (commandFrame i)) = u.setPort p ((s.receive p (commandFrame i)).port p))
    (hu : u.port p = s.port p) (hd : data (s.receive p (commandFrame i)) = bytes) :
    Answers p .ok bytes u (s.command p onlyM i (judged refusal effect data)) := by
  rw [command_ok h hm hr, hd]
  exact answers_received he hu

/-- The timebase that reaches a later reading. -/
theorem State.elapse_eq {time : Nat} {s : State} (h : s.now ≤ time) : s.elapse time = { s with now := time } := by
  simp [State.elapse, Nat.max_eq_right h]

/-! ### Snapshots (R14, R15) -/

@[simp] theorem State.receive_angle (p : Port) (f : List Byte) (s : State) : (s.receive p f).angle = s.angle := by
  simp [State.angle]

@[simp] theorem State.receive_headCourse (p : Port) (f : List Byte) (s : State) :
    (s.receive p f).headCourse = s.headCourse := by
  simp [State.headCourse]

@[simp] theorem State.receive_shaft (p : Port) (f : List Byte) (s : State) : (s.receive p f).shaft = s.shaft := by
  simp [State.shaft]

@[simp] theorem Tracker.snapshot_setSnapshot (p : Port) (x : Snapshot) (k : Tracker) :
    (k.setSnapshot p x).snapshot p = some x := by cases p <;> rfl

@[simp] theorem Tracker.snapshot_setSnapshot_other (p : Port) (x : Snapshot) (k : Tracker) :
    (k.setSnapshot p x).snapshot (otherPort p) = k.snapshot (otherPort p) := by cases p <;> rfl

/-- A latch changes the tracker by its snapshot alone. -/
theorem command_shaftLatch {p : Port} {s : State} (h : s.accepts p) :
    Accepts p { s with tracker := s.tracker.setSnapshot p s.shaft }
      (s.command p false (.shaftLatch p) (judged (fun _ => none) (shaftLatchEffect p) (fun _ => []))) := by
  refine command_answers_ok h (by simp) rfl ?_ (by cases p <;> rfl) rfl
  simp only [shaftLatchEffect, State.receive_shaft, State.receive_tracker]
  cases p <;> rfl

/-- Settles O15: a latch takes the shaft into its own port's snapshot, and a read gives that snapshot's bytes. -/
theorem snapshotsAreLatchedAndRead : Obligations.SnapshotsAreLatchedAndRead := by
  intro p s h
  refine ⟨⟨_, rfl, ?_⟩, ⟨_, rfl, ?_⟩⟩
  · have latched := command_shaftLatch h
    have tracker := congrArg State.tracker latched.1
    simp only [State.setPort_tracker] at tracker
    rw [tracker]
    refine ⟨latched, by simp [State.shaft, State.headCourse], by simp, ?_⟩
    cases p <;> rfl
  · cases hx : s.tracker.snapshot p with
    | none =>
      refine command_answers_refusal h (by simp) ?_
      simp [shaftReadRefusal, firstRefusal, refuse, hx]
    | some x =>
      refine command_answers_ok h (by simp) (by simp [shaftReadRefusal, firstRefusal, hx])
        (State.receive_eq p _ s) rfl ?_
      simp only [shaftReadData, State.receive_tracker, hx, Snapshot.bytes]
      cases x.motion <;> rfl

/-! ### The simulated shaft (R12, R13) -/

/-- Settles O18: each command sets its field and begins the schedule anew, once its tests pass. -/
theorem simulatedShaftIsSetByPortM : Obligations.SimulatedShaftIsSetByPortM := by
  intro x time s h hn
  have elapsed := s.elapse_eq hn
  have accepts : (s.elapse time).accepts .m := h
  rw [elapsed] at accepts
  constructor
  · refine ⟨_, rfl, ?_⟩
    rw [elapsed]
    split
    · next hx =>
      refine command_answers_refusal accepts (fun _ => rfl) ?_
      simp only [simSpeedRefusal, State.receive_constants, firstRefusal]
      rw [if_pos (by simpa using hx)]
      rfl
    · next hx =>
      refine command_answers_ok accepts (fun _ => rfl) ?_ ?_ rfl rfl
      · simp only [simSpeedRefusal, State.receive_constants, firstRefusal]
        rw [if_neg (by simpa using hx)]
      · simp [simSpeedEffect, State.restartSchedule]
        rfl
  · refine ⟨_, rfl, ?_⟩
    rw [elapsed]
    split
    · next hx =>
      refine command_answers_refusal accepts (fun _ => rfl) ?_
      simp only [simGateRefusal, firstRefusal]
      rw [if_pos (by simpa using hx)]
      rfl
    · next hx =>
      have taken : simGateRefusal x = fun _ => none := by
        funext u
        simp only [simGateRefusal, firstRefusal]
        rw [if_neg (by simpa using hx)]
      split
      · next hg =>
        refine command_answers_ok accepts (fun _ => rfl) (by rw [taken]) ?_ rfl rfl
        rw [simGateEffect, if_pos (by simpa using hg)]
        exact State.receive_eq .m _ _
      · next hg =>
        refine command_answers_ok accepts (fun _ => rfl) (by rw [taken]) ?_ rfl rfl
        rw [simGateEffect, if_neg (by simpa using hg)]
        simp [State.restartSchedule]
        rfl

/-! ### The machine constants (R16, R17) -/

/-- New constants change the constants and the tracker alone. -/
theorem setConstantsEffect_eq (k : MachineConstants) (s : State) :
    setConstantsEffect k s = { s with constants := k, tracker := (setConstantsEffect k s).tracker } := by
  unfold setConstantsEffect
  dsimp only
  split <;> split <;> rfl

/-- R13, R17: what new constants do to the tracker. -/
theorem setConstantsEffect_tracker (k : MachineConstants) (s : State) : (setConstantsEffect k s).tracker =
    { s.tracker with
      counter := if k.counts = s.constants.counts then s.tracker.counter else 0
      angleValid := if k.counts = s.constants.counts then s.tracker.angleValid else false
      startTime := if k.counts = s.constants.counts then s.tracker.startTime else none
      period := if k.counts = s.constants.counts then s.tracker.period else none
      simRate := min s.tracker.simRate k.maxRpm
      schedule :=
        if k.counts = s.constants.counts ∧ s.tracker.simRate ≤ k.maxRpm then s.tracker.schedule
        else if s.tracker.source = .simulated && s.tracker.simGate then some { start := s.now, given := 0 } else none } := by
  unfold setConstantsEffect State.restartSchedule Tracker.forgetAngle
  dsimp only
  by_cases hr : k.maxRpm < s.tracker.simRate <;> by_cases hc : k.counts = s.constants.counts
  · simp [hr, hc, Nat.min_eq_right (Nat.le_of_lt hr), Nat.not_le_of_lt hr]
  · simp [hr, hc, Nat.min_eq_right (Nat.le_of_lt hr)]
  · simp [hr, hc, Nat.le_of_not_lt hr]
  · simp [hr, hc, Nat.min_eq_left (Nat.le_of_not_lt hr)]

/-- R17's conditions as the rule writes its differences. -/
theorem validConstants_iff_differences (k : MachineConstants) : validConstants k = true ↔
    (400 ≤ k.counts ∧ k.counts ≤ 16384) ∧
    (1 ≤ k.overlapStart ∧ k.overlapStart < k.overlapEnd ∧ k.overlapEnd ≤ k.underlapStart ∧
      k.underlapStart < k.underlapEnd ∧ k.underlapEnd ≤ 4095) ∧
    k.stagger ≤ 255 ∧
    ((k.overlapEnd : Int) - k.overlapStart - 3 * k.stagger ≥ 64 ∧
      (k.underlapEnd : Int) - k.underlapStart - 3 * k.stagger ≥ 64) ∧
    k.underlapStart + 3 * k.stagger < 4096 ∧
    (1 ≤ k.maxRpm ∧ k.maxRpm ≤ 1500 ∧ 1 ≤ k.crawlRpm ∧ k.crawlRpm ≤ k.maxRpm) ∧
    (1 ≤ k.lookAhead ∧ k.lookAhead ≤ 12) ∧ 500 ≤ k.slack ∧ k.slack ≤ 50000 := by
  rw [validConstants_iff]
  omega

theorem setConstantsRefusal_eq (k : MachineConstants) (s : State) : setConstantsRefusal k s =
    if s.run.state ≠ .halted then some (refuse .state)
    else if validConstants k = true then none else some (refuse .badValue) := by
  by_cases hs : s.run.state = .halted <;> cases hk : validConstants k <;>
    simp [setConstantsRefusal, firstRefusal, hs, hk]

/-- Settles O16: the layout of GET_CONSTANTS, and R17's tests in order with the tracker that new constants leave. -/
theorem machineConstantsAreReplacedWhole : Obligations.MachineConstantsAreReplacedWhole := by
  refine ⟨fun p s h => ⟨_, rfl, command_answers_ok h (by simp) rfl (State.receive_eq p _ s) rfl ?_⟩,
    fun k time s h hn => ⟨_, rfl, ?_⟩⟩
  · rw [State.receive_constants]
    rfl
  have accepts : (s.elapse time).accepts .m := h
  rw [State.elapse_eq hn] at accepts ⊢
  have refusal (f : List Byte) := setConstantsRefusal_eq k (State.receive .m f { s with now := time })
  simp only [State.receive_run] at refusal
  split
  · next hs =>
    refine command_answers_refusal accepts (fun _ => rfl) ?_
    rw [refusal, if_pos hs]
    rfl
  · next hs =>
    split
    · next hk =>
      rw [← validConstants_iff_differences] at hk
      refine command_answers_refusal accepts (fun _ => rfl) ?_
      rw [refusal, if_neg hs, if_neg hk]
      rfl
    · next hk =>
      rw [not_not, ← validConstants_iff_differences] at hk
      have answered : Accepts .m
          { s with now := time, constants := k, tracker := (setConstantsEffect k { s with now := time }).tracker }
          (State.command .m true (.setConstants .m k time)
            (judged (setConstantsRefusal k) (setConstantsEffect k) (fun _ => [])) { s with now := time }) := by
        refine command_answers_ok accepts (fun _ => rfl) ?_ ?_ rfl rfl
        · rw [refusal, if_neg hs, if_pos hk]
        · rw [setConstantsEffect_eq, setConstantsEffect_tracker, setConstantsEffect_tracker]
          rfl
      have tracker := congrArg State.tracker answered.1
      simp only [State.setPort_tracker] at tracker
      rw [tracker]
      refine ⟨answered, ?_⟩
      rw [setConstantsEffect_tracker]
      refine ⟨fun hc => ?_, fun hc => ?_, rfl, fun hc hr => ?_, fun hc hsrc hgate => ?_, rfl⟩
      · simp [hc]
      · simp [hc]
      · simp [hc, hr]
      · rcases hc with hc | hc
        · simp [hc, hsrc, hgate]
        · simp [Nat.not_le_of_lt hc, hsrc, hgate]

end Sys2Proof.Machine
end


section
/-! The bars and lanes after a change of the whole table, what a purge leaves, and SET_SOURCE. -/

namespace Sys2Proof.Machine

/-! ### Whole tables -/

/-- A bar after a change of every bar that leaves the bars beyond the table as they read. -/
theorem bar_of_map {s t : State} {f : Bar → Bar} {b : Nat} (h : t.bars = s.bars.map f)
    (hf : f (Bar.initial b) = Bar.initial b) : t.bar b = f (s.bar b) := by
  unfold State.bar
  rw [h, List.getD_eq_getElem?_getD, List.getD_eq_getElem?_getD, List.getElem?_map]
  cases s.bars[b]? with
  | none => exact hf.symm
  | some x => rfl

/-- A lane after a change of every lane that leaves the lanes beyond the table as they read. -/
theorem lane_of_map {s t : State} {f : Lane → Lane} (h : t.lanes = s.lanes.map f) (hf : f Lane.initial = Lane.initial)
    (g : Nat) : t.lane g = f (s.lane g) := by
  unfold State.lane
  rw [h, List.getD_eq_getElem?_getD, List.getD_eq_getElem?_getD, List.getElem?_map]
  cases s.lanes[g]? with
  | none => exact hf.symm
  | some x => rfl

/-- A bar of the table meets a condition. -/
theorem any_bars {s : State} {P : Bar → Bool} : s.bars.any P = true ↔ ∃ b, b < s.bars.length ∧ P (s.bar b) = true := by
  rw [List.any_eq_true]
  constructor
  · rintro ⟨x, hx, hP⟩
    obtain ⟨b, hb, rfl⟩ := List.mem_iff_getElem.mp hx
    exact ⟨b, hb, by simpa [State.bar, List.getD_eq_getElem?_getD, hb] using hP⟩
  · rintro ⟨b, hb, hP⟩
    exact ⟨s.bars[b], List.getElem_mem hb, by simpa [State.bar, List.getD_eq_getElem?_getD, hb] using hP⟩

/-- A bar beyond the table is OFF. -/
theorem State.bar_beyond {s : State} {b : Nat} (h : s.bars.length ≤ b) : s.bar b = Bar.initial b := by
  simp [State.bar, List.getD_eq_getElem?_getD, List.getElem?_eq_none h]

/-! ### The purge (R127) -/

@[simp] theorem State.purge_bars (s : State) : s.purge.bars = s.bars.map Bar.purge := by simp [State.purge]
@[simp] theorem State.purge_lanes (s : State) : s.purge.lanes = s.lanes.map Lane.purge := by simp [State.purge]

/-- After a purge no order is outstanding. -/
theorem Bar.purge_outstanding (x : Bar) : x.purge.outstanding = false := by
  unfold Bar.purge
  split
  · rfl
  · next h => simpa using h

/-! ### Events stand set -/

theorem bothShow_raise (e : Event) (s : State) : BothShow e (s.raise e) := fun p => by
  rw [State.raise_port]
  exact Event.isIn_raise e _

theorem bothShow_raiseIf {c : Bool} (h : c = true) (e : Event) (s : State) : BothShow e (s.raiseIf c e) := by
  subst h
  exact bothShow_raise e s

/-- A flag that stands set stays so while flags are only raised. -/
theorem BothShow.mono {e : Event} {s t : State} (h : BothShow e s) (k : ∀ p, Raised (s.port p) (t.port p)) :
    BothShow e t := fun p => (k p).events e (h p)

theorem BothShow.setSlot {e : Event} {s : State} (h : BothShow e s) (p : Port) (x : Slot) :
    BothShow e (s.setSlot p x) := fun q => by rw [State.setSlot_events]; exact h q

/-- The part but for the run side. -/
theorem RunSide.eq {s t : State} (h : RunSide s t) :
    t = { s with run := t.run, bars := t.bars, lanes := t.lanes, portM := t.portM, portD := t.portD } := by
  obtain ⟨pending, now, resetHeld, tracker, constants, memory, arbiter, regions, segments, sequence, builder, queue,
    classes, engine, -⟩ := h
  cases s
  cases t
  simp_all

/-! ### SET_SOURCE (R11, R128) -/

/-- A bar that a change of source makes LOST: it has an order outstanding, or it is enabled and IDLE. -/
def Bar.losesSource (bar : Bar) : Bool := bar.outstanding || (bar.enabled && bar.handshake == .idle)

theorem Bar.losesSource_iff (bar : Bar) :
    bar.losesSource = true ↔ bar.outstanding = true ∨ (bar.enabled = true ∧ bar.handshake = .idle) := by
  simp [Bar.losesSource]

/-- R128: the purge and the loss of the IDLE bars together. -/
theorem Bar.loseIdle_purge (bar : Bar) :
    bar.purge.loseIdle = if bar.losesSource then { bar with handshake := .lost, known := none } else bar := by
  unfold Bar.losesSource
  cases ho : bar.outstanding
  · have kept : bar.purge = bar := by simp [Bar.purge, ho]
    rw [kept]
    rfl
  · simp [Bar.purge, ho, Bar.lose, Bar.loseIdle]

theorem loseEnabled_runSide (s : State) : RunSide s s.loseEnabled :=
  ((purge_runSide s).trans (.update s.purge s.purge.run _ s.purge.lanes)).trans (raiseIf_runSide _ _ _)

@[simp] theorem State.loseEnabled_run (s : State) : s.loseEnabled.run = s.run := by simp [State.loseEnabled]

theorem State.loseEnabled_bar (s : State) (b : Nat) : s.loseEnabled.bar b =
    if (s.bar b).losesSource then { s.bar b with handshake := .lost, known := none } else s.bar b := by
  rw [← Bar.loseIdle_purge]
  exact bar_of_map (f := fun x => x.purge.loseIdle) (by simp [State.loseEnabled, Function.comp_def]) rfl

theorem State.loseEnabled_lane (s : State) (g : Nat) : s.loseEnabled.lane g = (s.lane g).purge :=
  lane_of_map (by simp [State.loseEnabled]) rfl g

/-- R128: BAR_LOST where a bar of the table goes LOST. -/
theorem loseEnabled_barLost {s : State} {b : Nat} (hb : b < s.bars.length) (h : (s.bar b).losesSource = true) :
    BothShow .barLost s.loseEnabled := by
  rcases (Bar.losesSource_iff _).mp h with h | ⟨he, hi⟩
  · have purged : BothShow .barLost s.purge := bothShow_raiseIf (any_bars.mpr ⟨b, hb, h⟩) _ _
    exact purged.mono ((RunSide.update s.purge s.purge.run _ s.purge.lanes).trans (raiseIf_runSide _ _ _)).ports
  · exact bothShow_raiseIf (any_bars.mpr ⟨b, hb, by simp [he, hi]⟩) _ _

/-- R128: no event where no bar of the table goes LOST. -/
theorem loseEnabled_quiet {s : State} (h : ∀ b, b < s.bars.length → (s.bar b).losesSource = false) (p : Port) :
    s.loseEnabled.port p = s.port p := by
  have purged : s.bars.any Bar.outstanding = false := by
    rw [Bool.eq_false_iff, Ne, any_bars]
    rintro ⟨b, hb, ho⟩
    simpa [Bar.losesSource, ho] using h b hb
  have idle : (s.bars.any fun bar => bar.enabled && bar.handshake == .idle) = false := by
    rw [Bool.eq_false_iff, Ne, any_bars]
    rintro ⟨b, hb, ho⟩
    simpa [Bar.losesSource, ho] using h b hb
  unfold State.loseEnabled State.purge
  rw [purged, idle]
  cases p <;> rfl

theorem setSourceRefusal_eq (x : Nat) (s : State) : setSourceRefusal x s =
    if s.run.state ≠ .halted then some (refuse .state) else if 1 < x then some (refuse .badValue) else none := by
  have named : (sourceNamed x).isNone = decide (1 < x) := by
    match x with
    | 0 => rfl
    | 1 => rfl
    | n + 2 => simp [sourceNamed]
  by_cases hs : s.run.state = .halted <;> by_cases hx : 1 < x <;>
    simp [setSourceRefusal, firstRefusal, hs, hx, named]

/-- The source that the argument 0 or 1 names. -/
theorem sourceNamed_eq {x : Nat} (h : ¬1 < x) : sourceNamed x = some (if x = 0 then .encoder else .simulated) := by
  match x with
  | 0 => rfl
  | 1 => rfl
  | n + 2 => omega

/-- Settles O17: R11's tests in order; a source already selected changes nothing; another loses the angle and the bars. -/
theorem sourceChangesLoseTheBars : Obligations.SourceChangesLoseTheBars := by
  intro x time s h hn
  refine ⟨_, rfl, ?_⟩
  have accepts : (s.elapse time).accepts .m := h
  rw [State.elapse_eq hn] at accepts ⊢
  have refusal (f : List Byte) := setSourceRefusal_eq x (State.receive .m f { s with now := time })
  simp only [State.receive_run] at refusal
  split
  · next hs =>
    refine command_answers_refusal accepts (fun _ => rfl) ?_
    rw [refusal, if_pos hs]
    rfl
  · next hs =>
    split
    · next hx =>
      refine command_answers_refusal accepts (fun _ => rfl) ?_
      rw [refusal, if_neg hs, if_pos hx]
      rfl
    · next hx =>
      have taken (f : List Byte) : setSourceRefusal x (State.receive .m f { s with now := time }) = none := by
        rw [refusal, if_neg hs, if_neg hx]
      by_cases hsrc : (if x = 0 then Source.encoder else .simulated) = s.tracker.source
      · rw [if_pos hsrc]
        refine command_answers_ok accepts (fun _ => rfl) (taken _) ?_ rfl rfl
        simp only [setSourceEffect, sourceNamed_eq hx, State.receive_tracker, hsrc, if_true]
        exact State.receive_eq .m _ _
      · rw [if_neg hsrc, command_ok accepts (fun _ => rfl) (taken _)]
        simp only [setSourceEffect, sourceNamed_eq hx, State.receive_tracker, hsrc, if_false]
        generalize hsel : State.selectSource (if x = 0 then .encoder else .simulated)
          (State.receive .m (commandFrame (.setSource .m x time)) { s with now := time }) = sel
        have side := loseEnabled_runSide sel
        have bar (b : Nat) : sel.bar b = s.bar b := by rw [← hsel]; rfl
        have bars : sel.bars = s.bars := by rw [← hsel]; rfl
        refine ⟨?_, fun a => ?_, by simp, ?_, fun b => ?_, fun g => ?_, fun ⟨b, hb, ho⟩ => ?_, fun quiet => ?_⟩
        · rw [side.eq, State.loseEnabled_run, ← hsel]
          rfl
        · rw [State.setSlot_memory, side.memory, ← hsel]
          rfl
        · rw [State.setSlot_tracker, side.tracker, ← hsel]
          match x with
          | 0 => simp [State.selectSource, State.restartSchedule, Tracker.forgetAngle]
          | 1 => simp [State.selectSource, State.restartSchedule, Tracker.forgetAngle]
          | n + 2 => omega
        · change sel.loseEnabled.bar b = _
          rw [State.loseEnabled_bar, bar]
          simp only [Bar.losesSource_iff]
        · have lane : sel.lane g = s.lane g := by rw [← hsel]; rfl
          change (sel.loseEnabled.lane g).queue = [] ∧ (sel.loseEnabled.lane g).awaiting = false ∧
            (sel.loseEnabled.lane g).frame = _
          rw [State.loseEnabled_lane, lane]
          exact ⟨rfl, rfl, rfl⟩
        · exact (loseEnabled_barLost (bars ▸ hb) (by rw [bar, Bar.losesSource_iff]; exact ho)).setSlot _ _
        · have still := loseEnabled_quiet (s := sel) fun b hb => by
            rw [Bool.eq_false_iff, Ne, bar, Bar.losesSource_iff]
            exact quiet b (bars ▸ hb)
          refine ⟨(still .d).trans ?_, (congrArg PortState.events (still .m)).trans ?_⟩ <;> rw [← hsel] <;> rfl

end Sys2Proof.Machine
end

section
/-! STATUS: the 34 bytes of its reply. -/

namespace Sys2Proof.Machine

/-! ### Flags packed in a byte -/

theorem packFlags_lt : ∀ l : List Bool, packFlags l < 2 ^ l.length
  | [] => by decide
  | b :: rest => by
    have ih := packFlags_lt rest
    simp only [packFlags, List.length_cons, Nat.pow_succ]
    have := b.toNat_le
    omega

/-- Each flag stands in its bit. -/
theorem packFlags_testBit : ∀ (l : List Bool) (i : Nat), (packFlags l).testBit i = l.getD i false
  | [], i => by simp [packFlags]
  | b :: rest, 0 => by cases b <;> simp [packFlags, Nat.testBit_zero]
  | b :: rest, i + 1 => by
    have half : (b.toNat + 2 * packFlags rest) / 2 = packFlags rest := by
      have := b.toNat_le
      omega
    simp only [packFlags, Nat.testBit_succ, half, packFlags_testBit rest i, List.getD_cons_succ]

/-- A bit of a byte made from flags. -/
theorem getLsbD_packFlags (l : List Bool) {i : Nat} (h : i < 8) :
    (BitVec.ofNat 8 (packFlags l)).getLsbD i = l.getD i false := by
  rw [BitVec.getLsbD_ofNat, packFlags_testBit]
  simp [h]

/-- Byte 1 of STATUS: six flags, and the motion state's code above them. -/
theorem getLsbD_statusFlags (s : State) {i : Nat} (h : i < 8) :
    (BitVec.ofNat 8 s.statusFlags).getLsbD i =
      if i < 6 then [s.filling, s.tracker.angleValid, s.stopRequested, s.builder.ended, s.tracker.source == .simulated,
        s.tracker.simGate].getD i false
      else s.tracker.motion.code.testBit (i - 6) := by
  have below := packFlags_lt [s.filling, s.tracker.angleValid, s.stopRequested, s.builder.ended,
    s.tracker.source == .simulated, s.tracker.simGate]
  have split := Nat.testBit_two_pow_mul_add s.tracker.motion.code below i
  rw [packFlags_testBit] at split
  have order : s.statusFlags = 2 ^ 6 * s.tracker.motion.code + packFlags [s.filling, s.tracker.angleValid,
    s.stopRequested, s.builder.ended, s.tracker.source == .simulated, s.tracker.simGate] := by
    unfold State.statusFlags
    omega
  rw [BitVec.getLsbD_ofNat, order]
  simpa [h] using split

/-! ### The fault record's bytes -/

/-- Bytes 9 to 17 of STATUS, with whatever stands in the field of an absent course number. -/
theorem faultBytes_eq (f : Option FaultRecord) : ∃ course : Nat, (∀ n, f.bind FaultRecord.course = some n → course = n) ∧
    faultBytes f = field1 ((f.map fun f => f.kind.code).getD 0) ++ field1 ((f.bind FaultRecord.bar).getD 0xFF) ++
      field4 course ++
      field1 (packFlags [(f.bind FaultRecord.course).isSome, (f.bind FaultRecord.angle).isSome,
        (f.map FaultRecord.more).getD false]) ++
      field2 ((f.bind FaultRecord.angle).getD 0xFFFF) := by
  unfold faultBytes
  cases f.bind FaultRecord.course with
  | none => exact ⟨_, fun n h => (by cases h), rfl⟩
  | some n => exact ⟨n, fun m h => Option.some.inj h, rfl⟩

/-- R10: the speed field of a measured period that the two bytes can carry. -/
theorem speedField_of_period {k : Tracker} {x : Nat} (h : k.period = some x) (hx : 916 ≤ x) :
    setField k.speedField = field2 (60000000 / x) := by
  have small : 60000000 / x ≤ 65535 := by
    rw [Nat.div_le_iff_le_mul_add_pred (by omega)]
    omega
  match x, h with
  | x + 1, h =>
    simp only [Tracker.speedField, h, if_pos small, setField, BitVec.toNat_ofNat]
    rw [Nat.mod_eq_of_lt (by omega)]

theorem statusCode_eq (s : State) : s.engine.statusCode = if s.filling then 3 else s.engine.state.code := by
  unfold Engine.statusCode State.filling
  split
  · rfl
  · cases s.engine.state <;> rfl

/-- A frame that its port takes, and that no test refuses, answers its data and changes nothing but the port. -/
theorem take_answers {p : Port} {frame bytes : List Byte} {refusal : State → Option Reply} {data : State → List Byte}
    {s : State} (h : s.takes p) (hr : ∀ u, refusal u = none) (hd : data (s.receive p frame) = bytes) :
    Answers p .ok bytes s (s.take p frame none (judged refusal id data)) := by
  obtain ⟨hl, hs⟩ := h
  have taken : s.take p frame none (judged refusal id data) =
      (s.receive p frame).setSlot p (.ready { status := .ok, data := bytes }) := by
    simp [State.take, judged, hl, hs, hr, hd]
  rw [taken]
  exact answers_received (State.receive_eq p frame s) rfl

/-- The reply byte by byte, with whatever stands in the field of an absent course number. -/
theorem statusData_bytes (p : Port) (s : State) : ∃ course : Nat,
    (∀ n, s.run.fault.bind FaultRecord.course = some n → course = n) ∧
    statusData p s =
      [BitVec.ofNat 8 s.run.state.code, BitVec.ofNat 8 s.statusFlags,
        BitVec.ofNat 8 (s.angle.getD 0xFFFF / 256), BitVec.ofNat 8 (s.angle.getD 0xFFFF),
        BitVec.ofNat 8 (s.tracker.speedField.toNat / 256), BitVec.ofNat 8 s.tracker.speedField.toNat,
        BitVec.ofNat 8 (s.governingCeiling / 256), BitVec.ofNat 8 s.governingCeiling,
        BitVec.ofNat 8 s.run.causes.byte, BitVec.ofNat 8 ((s.run.fault.map fun f => f.kind.code).getD 0),
        BitVec.ofNat 8 ((s.run.fault.bind FaultRecord.bar).getD 0xFF),
        BitVec.ofNat 8 (course / 16777216), BitVec.ofNat 8 (course / 65536), BitVec.ofNat 8 (course / 256),
        BitVec.ofNat 8 course,
        BitVec.ofNat 8 (packFlags [(s.run.fault.bind FaultRecord.course).isSome,
          (s.run.fault.bind FaultRecord.angle).isSome, (s.run.fault.map FaultRecord.more).getD false]),
        BitVec.ofNat 8 ((s.run.fault.bind FaultRecord.angle).getD 0xFFFF / 256),
        BitVec.ofNat 8 ((s.run.fault.bind FaultRecord.angle).getD 0xFFFF),
        BitVec.ofNat 8 s.queue.backlog, BitVec.ofNat 8 s.queue.overrun, BitVec.ofNat 8 s.builder.position.entry,
        BitVec.ofNat 8 (s.builder.position.iteration / 256), BitVec.ofNat 8 s.builder.position.iteration,
        BitVec.ofNat 8 (s.builder.position.course / 256), BitVec.ofNat 8 s.builder.position.course,
        BitVec.ofNat 8 (s.headCourse.getD 0 / 16777216), BitVec.ofNat 8 (s.headCourse.getD 0 / 65536),
        BitVec.ofNat 8 (s.headCourse.getD 0 / 256), BitVec.ofNat 8 (s.headCourse.getD 0),
        BitVec.ofNat 8 s.queue.records.length, BitVec.ofNat 8 s.queue.history.length,
        BitVec.ofNat 8 s.engine.statusCode, BitVec.ofNat 8 ((s.port p).events.toNat / 256),
        BitVec.ofNat 8 (s.port p).events.toNat] := by
  obtain ⟨course, hcourse, fault⟩ := faultBytes_eq s.run.fault
  refine ⟨course, hcourse, ?_⟩
  simp only [statusData, fault, field1, field2, field3, field4, setField, angleField, List.cons_append,
    List.nil_append]

/-- Settles O13: STATUS is taken in every state, and each field stands at its place. -/
theorem statusReportsThePart : Obligations.StatusReportsThePart := by
  intro p s h
  refine ⟨_, statusData p s, rfl, ?_, ?_⟩
  · exact take_answers h (fun u => rfl) (by cases p <;> rfl)
  obtain ⟨course, hcourse, bytes⟩ := statusData_bytes p s
  rw [bytes]
  have bit (i : Nat) (hi : i < 8) := getLsbD_statusFlags s hi
  refine ⟨rfl, ?_, ⟨(bit 0 (by decide)).trans rfl, (bit 1 (by decide)).trans rfl, (bit 2 (by decide)).trans rfl,
    (bit 3 (by decide)).trans rfl, (bit 4 (by decide)).trans rfl, (bit 5 (by decide)).trans rfl,
    (bit 6 (by decide)).trans ?_, (bit 7 (by decide)).trans ?_⟩, rfl, fun x hx hlow => speedField_of_period hx hlow,
    fun hx => ?_, rfl, ⟨getLsbD_packFlags _ (by decide), getLsbD_packFlags _ (by decide), getLsbD_packFlags _ (by decide),
    getLsbD_packFlags _ (by decide)⟩, fun hf => ?_, fun f hf => ?_, rfl, rfl, rfl, rfl, ?_, rfl⟩
  · cases s.run.state <;> rfl
  · cases s.tracker.motion <;> rfl
  · cases s.tracker.motion <;> rfl
  · change setField s.tracker.speedField = _
    simp [Tracker.speedField, hx, setField]
  · rw [hf]
    exact ⟨rfl, rfl⟩
  · rw [hf] at hcourse ⊢
    refine ⟨rfl, rfl, fun n hn => ?_, getLsbD_packFlags _ (by decide), getLsbD_packFlags _ (by decide),
      getLsbD_packFlags _ (by decide), fun a ha => ?_⟩
    · change field4 course = _
      rw [hcourse n hn]
    · change field2 (f.angle.getD 0xFFFF) = _
      rw [ha]
      rfl
  · change field1 s.engine.statusCode = _
    rw [statusCode_eq]

end Sys2Proof.Machine
end


section
/-! The reset input: what it lets act while it is held, and what it clears and keeps. -/

namespace Sys2Proof.Machine

/-! ### While the reset input is held -/

theorem take_held {s : State} (h : s.resetHeld = true) (p : Port) (f : List Byte) (first : Option Status) (body : Body) :
    s.take p f first body = s := by
  simp [State.take, State.listens, h]

theorem unlessHeld_held {s : State} (h : s.resetHeld = true) (f : State → State) : s.unlessHeld f = s := by
  simp [State.unlessHeld, h]

/-- A command or event that moves at most the timebase. -/
def OnlyElapses (c : Instr) (s : State) : Prop := ∃ n, exec c s = .next { s with now := n }

/-- The rows that act while the reset input is held: power, the reset input, chunks, grants and chip selects. -/
def actsHeld : Instr → Bool
  | .powerUp => true
  | .resetInput => true
  | .resetRelease => true
  | .chunk => true
  | .builderFetch => true
  | .readCellsGrant _ => true
  | .writeCellsGrant _ => true
  | .transactionBegin _ => true
  | .transactionEnd _ _ => true
  | _ => false

theorem actsHeld_cases {c : Instr} (h : actsHeld c = true) :
    c = .powerUp ∨ c = .resetInput ∨ c = .resetRelease ∨ c = .chunk ∨ c = .builderFetch ∨
      (∃ p, c = .readCellsGrant p) ∨ (∃ p, c = .writeCellsGrant p) ∨ (∃ p, c = .transactionBegin p) ∨
      ∃ p n, c = .transactionEnd p n := by
  unfold actsHeld at h
  split at h <;> simp_all

/-- R145: while the reset input is held every other row moves at most the timebase. -/
theorem onlyElapses_held {s : State} (h : s.resetHeld = true) {c : Instr} (hc : actsHeld c = false) :
    OnlyElapses c s := by
  have still (u : State) (e : exec c s = .next u) (hu : u = s) : OnlyElapses c s := ⟨s.now, e.trans (congrArg _ hu)⟩
  have timed (t : Nat) (u : State) (e : exec c s = .next u) (hu : u = s.elapse t) : OnlyElapses c s :=
    ⟨max s.now t, e.trans (congrArg _ hu)⟩
  have held (t : Nat) : (s.elapse t).resetHeld = true := h
  cases c with
  | powerUp | resetInput | resetRelease | chunk | builderFetch => cases hc
  | readCellsGrant | writeCellsGrant | transactionBegin | transactionEnd => cases hc
  | encoderCount _ time | simulatedCount time | stillTimerExpiry time | orderFrameSent _ time | taken _ _ time
  | takeLimitExpiry _ time | moveLimitExpiry _ time => exact timed time _ rfl (unlessHeld_held (held time) _)
  | encoderIndex | buildBegin | append => exact still _ rfl (unlessHeld_held h _)
  | inPosition lane address position =>
    refine still _ rfl ?_
    split
    · exact unlessHeld_held h _
    · rfl
  | fault lane address code =>
    refine still _ rfl ?_
    split
    · rfl
    · exact unlessHeld_held h _
  | replyFrameIgnored lane frame time =>
    cases hd : decodeReply frame with
    | none => exact still _ rfl (by simp [hd])
    | some x => exact timed time _ rfl (by simp [hd, unlessHeld_held (held time)])
  | replyRead port => exact still _ rfl (by simp [State.listens, h])
  | setConstants _ _ time | setSource _ _ time | simSpeed _ _ time | simGate _ _ time =>
    exact timed time _ rfl (take_held (held time) _ _ _ _)
  | _ => exact still _ rfl (take_held h _ _ _ _)

/-! ### A write in its grant (R22, R23) -/

/-- Two extents share a cell exactly when a cell of the one lies in the other. -/
theorem Extent.meets_iff (a n : Nat) (x : Extent) :
    Extent.meets { first := a, count := n } x = true ↔ ∃ i, i < n ∧ x.holds (a + i) = true := by
  simp only [Extent.meets, Extent.holds, Bool.and_eq_true, decide_eq_true_eq]
  constructor
  · rintro ⟨⟨⟨_, _⟩, _⟩, _⟩
    exact ⟨x.first - a, by omega, by omega, by omega⟩
  · rintro ⟨i, _, _, _⟩
    omega

theorem Extent.meetsAny_iff (a n : Nat) (l : List Extent) :
    Extent.meetsAny { first := a, count := n } l = true ↔ ∃ i, i < n ∧ ∃ x ∈ l, x.holds (a + i) = true := by
  simp only [Extent.meetsAny, List.any_eq_true, Extent.meets_iff]
  constructor
  · rintro ⟨x, hx, i, hi, hh⟩
    exact ⟨i, hi, x, hx, hh⟩
  · rintro ⟨i, hi, x, hx, hh⟩
    exact ⟨x, hx, i, hi, hh⟩

/-- From a cell of an extent, cells lie within it unless one of them does not. -/
theorem Extent.not_within_iff {a n : Nat} {x : Extent} (h : x.holds a = true) :
    (!Extent.within { first := a, count := n } x) = true ↔ ∃ i, i < n ∧ ¬x.holds (a + i) = true := by
  simp only [Extent.within, Extent.holds, Bool.not_eq_true', Bool.and_eq_false_iff, Bool.and_eq_true,
    decide_eq_true_eq, decide_eq_false_iff_not] at h ⊢
  constructor
  · intro _
    exact ⟨n - 1, by omega, by omega⟩
  · rintro ⟨i, _, _⟩
    omega

/-- R31: a region is locked against a port by its lock-down or by the other port. -/
theorem Region.lockedAgainst_iff (r : Region) (p : Port) :
    r.lockedAgainst p = true ↔ r.lockDown = true ∨ r.holder = some (otherPort p) := by
  unfold Region.lockedAgainst
  cases r.holder with
  | none => simp
  | some h => cases h <;> cases p <;> simp

/-- R22's tests in the words of its rule. -/
theorem judgeWrite_eq (p : Port) (a n : Nat) (s : State) :
    (s.judgeWrite p { first := a, count := n }).getD .ok =
      match s.regions.find? fun r => r.valid && r.range.holds a with
      | none => .noRegion
      | some r =>
        if ∃ i, i < n ∧ ¬r.range.holds (a + i) then .span
        else if r.lockDown ∨ r.holder = some (otherPort p) then .locked
        else if ∃ i, i < n ∧ ∃ x ∈ s.busyExtents, x.holds (a + i) then .busyRegion
        else if ∃ i, i < n ∧ ∃ x ∈ s.liveExtents, x.holds (a + i) then .live
        else .ok := by
  unfold State.judgeWrite State.regionHolding
  dsimp only
  cases hr : s.regions.find? fun r => r.valid && r.range.holds a with
  | none => rfl
  | some r =>
    have inside : r.range.holds a = true := by
      have found := List.find?_some hr
      rw [Bool.and_eq_true] at found
      exact found.2
    simp only [Extent.not_within_iff inside, Region.lockedAgainst_iff, Extent.meetsAny_iff]
    repeat' split
    all_goals rfl

/-- A write that is refused at its grant is not answered OK. -/
theorem judgeWrite_ne_ok {p : Port} {e : Extent} {s : State} {status : Status} (h : s.judgeWrite p e = some status) :
    status ≠ .ok := by
  rintro rfl
  unfold State.judgeWrite at h
  repeat' split at h
  all_goals cases h

/-- R23, R48: a mapping's verified flag after a write. -/
theorem Mapping.unverifyIn_eq (e : Extent) (m : Mapping) :
    m.unverifyIn e = { m with verified := m.verified && !m.extent.meets e } := by
  unfold Mapping.unverifyIn
  cases m.extent.meets e <;> simp

theorem State.unverify_segment (e : Extent) (s : State) (g : Nat) :
    (s.unverify e).segment g = match s.segment g with
      | .empty => .empty
      | .mapped c x =>
        .mapped { c with verified := c.verified && !c.extent.meets e }
          (x.map fun m => { m with verified := m.verified && !m.extent.meets e }) := by
  have mapped : (s.unverify e).segment g = (s.segment g).unverifyIn e := by
    unfold State.segment State.unverify
    rw [List.getD_eq_getElem?_getD, List.getD_eq_getElem?_getD, List.getElem?_map]
    cases s.segments[g]? <;> rfl
  rw [mapped]
  cases s.segment g with
  | empty => rfl
  | mapped c x =>
    have each : Mapping.unverifyIn e = fun m => { m with verified := m.verified && !m.extent.meets e } :=
      funext (Mapping.unverifyIn_eq e)
    simp only [MapEntry.unverifyIn, each]

/-- R22, R23: a write in its grant is judged and lands whole or not at all. -/
theorem writeOutcome_writeInGrant {p : Port} {a : Nat} {cells : List Cell} {s : State} (wf : MemoryWf s.memory)
    (inside : a + cells.length ≤ memorySize) :
    WriteOutcome p a cells (s.writeInGrant p a cells).2 s (s.writeInGrant p a cells).1 := by
  have judged := judgeWrite_eq p a cells.length s
  unfold State.writeInGrant
  cases hj : s.judgeWrite p { first := a, count := cells.length } with
  | some status =>
    rw [hj] at judged
    have refused := judgeWrite_ne_ok hj
    exact ⟨fun _ => ⟨fun _ => rfl, rfl⟩, fun h => absurd h refused, fun h => absurd h refused, judged⟩
  | none =>
    rw [hj] at judged
    exact ⟨fun h => absurd rfl h, fun _ b => readCell_writeCells wf inside b,
      fun _ g => State.unverify_segment _ { s with memory := writeCells s.memory a cells } g, judged⟩

/-! ### The reset input -/

/-- R26: the access in its grant changes cells and verified flags alone. -/
theorem completeAccess_eq (s : State) : s.completeAccess =
    { s with memory := s.completeAccess.memory, segments := s.completeAccess.segments } := by
  have write (p : Port) (a : Nat) (cells : List Cell) : (s.writeInGrant p a cells).1 =
      { s with
        memory := (s.writeInGrant p a cells).1.memory, segments := (s.writeInGrant p a cells).1.segments } := by
    unfold State.writeInGrant
    split <;> rfl
  unfold State.completeAccess
  split
  · split
    · split
      · exact write _ _ _
      · rfl
    · rfl
  · rfl

/-- R26: without a write in its grant nothing is completed. -/
theorem completeAccess_none {s : State}
    (h : ∀ p a cells, s.arbiter.grant = some (.port p) → s.arbiter.access p ≠ some (.write a cells)) :
    s.completeAccess = s := by
  unfold State.completeAccess
  split
  · next p hg =>
    split
    · next a cells ha => exact absurd ha (h p a cells hg)
    · rfl
  · rfl

/-- R26: the write in its grant is completed. -/
theorem completeAccess_write {p : Port} {a : Nat} {cells : List Cell} {s : State}
    (hg : s.arbiter.grant = some (.port p)) (ha : s.arbiter.access p = some (.write a cells))
    (inside : a + cells.length ≤ memorySize) : s.completeAccess = (s.writeInGrant p a cells).1 := by
  simp [State.completeAccess, hg, ha, inside]

theorem onReset_bar (s : State) (n : Nat) : s.onReset.bar n = (s.bar n).onReset := bar_of_map rfl rfl

theorem onReset_lane (s : State) (g : Nat) : s.onReset.lane g = Lane.initial :=
  lane_of_map (s := s) (f := fun _ => Lane.initial) rfl rfl g

/-- R155: the engine under the reset input, by whether it is busy and whether a chunk is in its grant. -/
theorem Engine.onReset_eq (chunk : Bool) (e : Engine) : e.onReset chunk =
    if e.filling = true ∨ e.state = .idle then e
    else if chunk then { e with abortRequested := true, resetStop := true } else .initial := by
  unfold Engine.onReset
  cases e.filling <;> simp

/-- Settles O6: the access in its grant is completed first, and then each block takes its reset values. -/
theorem resetInputClearsTheRunSide : Obligations.ResetInputClearsTheRunSide := by
  intro s
  refine ⟨fun held c t h h1 h2 h3 h4 h5 h6 h7 h8 h9 => ?_, fun held p => ⟨?_, fun none bits => ?_⟩, rfl,
    s.completeAccess.onReset, rfl, ?_⟩
  · have quiet : actsHeld c = false := by
      rw [Bool.eq_false_iff]
      intro acts
      rcases actsHeld_cases acts with h | h | h | h | h | ⟨p, h⟩ | ⟨p, h⟩ | ⟨p, h⟩ | ⟨p, n, h⟩
      exacts [h1 h, h2 h, h3 h, h4 h, h5 h, h6 p h, h7 p h, h8 p h, h9 p n h]
    obtain ⟨n, e⟩ := onlyElapses_held held quiet
    cases e.symm.trans h
    rfl
  · change Host.Outcome.next (if s.resetHeld then _ else _) = _
    rw [held]
    rfl
  · change Host.Outcome.next (s.setPort p ((s.port p).deselect bits)) = _
    unfold PortState.deselect
    split
    · rfl
    · next ht => cases none.symm.trans ht
  obtain ⟨mem, segs, completed⟩ : ∃ m g, s.completeAccess = { s with memory := m, segments := g } :=
    ⟨_, _, completeAccess_eq s⟩
  have kept : s.completeAccess.engine = s.engine ∧ s.completeAccess.arbiter = s.arbiter := by
    rw [completed]
    exact ⟨rfl, rfl⟩
  have engine : s.completeAccess.onReset.engine = s.engine.onReset (s.arbiter.grant == some .engine) := by
    rw [completed]
    rfl
  refine ⟨rfl, ?_, ?_, ?_, ?_, rfl, rfl, rfl, rfl, rfl, rfl, rfl, rfl, ?_, rfl, rfl, ⟨rfl, rfl, rfl, rfl, rfl⟩, rfl, rfl,
    rfl, rfl, rfl, rfl, rfl, rfl, fun n => ?_, fun g => ?_, rfl, rfl, rfl, rfl, rfl, fun busy => ?_, fun full busy free => ?_,
    fun full busy grant => ?_, fun p => ?_, fun none => ?_, fun p a cells wf hg ha _ inside => ?_⟩
  · rw [completed]; rfl
  · rw [completed]; rfl
  · rw [completed]; rfl
  · rw [completed]; rfl
  · rw [completed]; rfl
  · rw [onReset_bar, completed]; rfl
  · rw [onReset_lane]
    exact ⟨rfl, rfl, rfl⟩
  · rw [engine, Engine.onReset_eq, if_pos (by exact busy)]
  · have stopped : s.completeAccess.onReset.engine = .initial := by
      rw [engine, Engine.onReset_eq, if_neg (by simpa [State.filling, busy] using full), if_neg (by simpa using free)]
    unfold State.busyExtents
    rw [stopped]
    exact ⟨rfl, rfl, rfl, rfl⟩
  · have stopping : s.completeAccess.onReset.engine = { s.engine with abortRequested := true, resetStop := true } := by
      rw [engine, Engine.onReset_eq, if_neg (by simpa [State.filling, busy] using full), if_pos (by simp [grant])]
    unfold State.busyExtents
    rw [stopping]
    refine ⟨?_, rfl, rfl, rfl⟩
    change (s.completeAccess.arbiter.onReset).grant = _
    rw [kept.2]
    simp [Arbiter.onReset, grant]
  · have quiet (d : Bool) : ({ PortState.initial with deaf := d } : PortState).attention = false := by cases d <;> decide
    rw [completed]
    cases p <;> exact ⟨rfl, rfl, rfl, rfl, rfl, quiet _, rfl⟩
  · rw [completeAccess_none none]
    exact ⟨fun _ => rfl, rfl⟩
  · rw [completeAccess_write hg ha inside]
    exact ⟨_, writeOutcome_writeInGrant wf inside⟩

end Sys2Proof.Machine
end


section
/-! Postings to many bars: what a posting leaves of every other bar, and what a run of postings, each to its own bar, leaves
of one of them. -/

namespace Sys2Proof.Machine

/-! ### Runs of steps -/

/-- A relation that every step keeps holds from the first state of a run to the last. -/
theorem foldl_rel {σ α : Type} {f : σ → α → σ} {R : σ → σ → Prop} (refl : ∀ s, R s s)
    (trans : ∀ {s t u}, R s t → R t u → R s u) (l : List α) (h : ∀ a ∈ l, ∀ s, R s (f s a)) (s : σ) :
    R s (l.foldl f s) := by
  induction l generalizing s with
  | nil => exact refl s
  | cons a l ih =>
    exact trans (h a (by simp) s) (ih (fun b hb => h b (by simp [hb])) _)

/-- Of a run in which every step but `a`'s keeps a relation, the steps before `a`'s keep it, and so do those after. -/
theorem foldl_reaches {σ α : Type} {f : σ → α → σ} {R : σ → σ → Prop} (refl : ∀ s, R s s)
    (trans : ∀ {s t u}, R s t → R t u → R s u) {a : α} {l : List α} (nodup : l.Nodup) (ha : a ∈ l)
    (h : ∀ b ∈ l, b ≠ a → ∀ s, R s (f s b)) (s : σ) : ∃ m, R s m ∧ R (f m a) (l.foldl f s) := by
  obtain ⟨front, back, rfl⟩ := List.append_of_mem ha
  have apart : ∀ b ∈ front ++ back, b ≠ a := by
    rintro b hb rfl
    exact (List.nodup_middle.mp nodup).notMem hb
  refine ⟨front.foldl f s, foldl_rel refl trans front (fun b hb => ?_) s, ?_⟩
  · exact h b (by simp [hb]) (apart b (by simp [hb]))
  · rw [List.foldl_append, List.foldl_cons]
    exact foldl_rel refl trans back (fun b hb => h b (by simp [hb]) (apart b (by simp [hb]))) _

/-! ### The tables keep their lengths -/

@[simp] theorem State.transmit_lanes_length (g : Nat) (s : State) : (s.transmit g).lanes.length = s.lanes.length := by
  unfold State.transmit
  dsimp only
  split
  · rfl
  · split
    · rfl
    · simp

@[simp] theorem State.enqueue_lanes_length (b : Nat) (o : Order) (s : State) :
    (s.enqueue b o).lanes.length = s.lanes.length := by
  simp [State.enqueue]

theorem State.post_lengths (b : Nat) (o : Order) (s : State) :
    (s.post b o).bars.length = s.bars.length ∧ (s.post b o).lanes.length = s.lanes.length := by
  unfold State.post State.dryAnswer State.postWet State.setPosted
  dsimp only
  repeat' split
  all_goals simp

/-! ### What a posting leaves of another bar -/

/-- A lane that does not stand free with entries stays so, and shows entry `n` as sent or not as before. -/
def LaneAside (n : Nat) (x y : Lane) : Prop := x.Transmits → y.Transmits ∧ y.sentIs n = x.sentIs n

theorem LaneAside.refl (n : Nat) (x : Lane) : LaneAside n x x := fun h => ⟨h, rfl⟩

theorem Lane.sentIs_cons (x : Lane) {e : LaneEntry} {rest : List LaneEntry} (h : x.queue = e :: rest) (n : Nat) :
    x.sentIs n = (x.awaiting && e.bar == n) := by
  simp [Lane.sentIs, h]

theorem Lane.sentIs_nil (x : Lane) (h : x.queue = []) (n : Nat) : x.sentIs n = false := by
  simp [Lane.sentIs, h]

/-- An entry of another bar, not sent, leaves the queue. -/
theorem Lane.remove_aside {b : Nat} (n : Nat) (x : Lane) (hs : x.sentIs b = false) : LaneAside n x (x.remove b) := by
  intro ht
  have awaiting : (x.remove b).awaiting = x.awaiting := by simp [Lane.remove, hs]
  refine ⟨fun hq => ?_, ?_⟩
  · rw [awaiting]
    refine ht fun hx => hq ?_
    simp [Lane.remove, hx]
  · cases hx : x.queue with
    | nil => rw [Lane.sentIs_nil x hx, Lane.sentIs_nil _ (by simp [Lane.remove, hx])]
    | cons e rest =>
      cases ha : x.awaiting with
      | false => simp [Lane.sentIs, Lane.remove, ha]
      | true =>
        have he : e.bar ≠ b := by simpa [Lane.sentIs_cons x hx, ha] using hs
        rw [Lane.sentIs_cons x hx, Lane.sentIs_cons (x.remove b) (e := e) (rest := rest.filter fun e => e.bar != b)
          (by simp [Lane.remove, hx, he]), awaiting]

/-- An entry of another bar is replaced in place. -/
theorem Lane.replace_aside (b n : Nat) (o : Order) (x : Lane) : LaneAside n x (x.replace b o) := by
  intro ht
  refine ⟨fun hq => ht fun hx => hq (by simp [Lane.replace, hx]), ?_⟩
  cases hx : x.queue with
  | nil => rw [Lane.sentIs_nil x hx, Lane.sentIs_nil _ (by simp [Lane.replace, hx])]
  | cons e rest =>
    unfold Lane.sentIs Lane.replace
    rw [hx]
    by_cases he : e.bar = b <;> simp [he]

/-- An entry of another bar joins the tail. -/
theorem State.enqueue_aside {b n : Nat} (o : Order) (s : State) (hn : n ≠ b) (g : Nat) :
    LaneAside n (s.lane g) ((s.enqueue b o).lane g) := by
  by_cases hg : (s.bar b).lane = g
  · subst hg
    intro ht
    by_cases hl : (s.bar b).lane < s.lanes.length
    · refine ⟨State.transmit_transmits _ _, ?_⟩
      cases hx : (s.lane (s.bar b).lane).queue with
      | nil =>
        rw [Lane.sentIs_nil _ hx, Lane.sentIs_cons _ (by rw [State.enqueue_queue o s hl, hx]; rfl)]
        simp [Ne.symm hn]
      | cons e rest =>
        have busy := ht (by simp [hx])
        have still (u : State) (hu : (u.lane (s.bar b).lane).awaiting = true ∨
            (u.lane (s.bar b).lane).frame.isSome = true) : u.transmit (s.bar b).lane = u := by
          unfold State.transmit
          dsimp only
          split
          · rfl
          · rw [if_pos (by simpa using hu)]
        unfold State.enqueue
        dsimp only
        rw [still _ (by rw [State.lane_setLane s _ hl]; exact busy), State.lane_setLane s _ hl, Lane.sentIs_cons _ hx]
        simp [Lane.sentIs, hx]
    · have same : (s.enqueue b o).lane (s.bar b).lane = s.lane (s.bar b).lane := by
        rw [State.lane_beyond _ (by simpa using Nat.le_of_not_lt hl), State.lane_beyond _ (Nat.le_of_not_lt hl)]
      rw [same]
      exact ⟨ht, rfl⟩
  · rw [State.enqueue_lane_ne o s hg]
    exact .refl n _

/-- A lane that is set, where what is set stands aside from the bar. -/
theorem State.setLane_aside {n : Nat} (s : State) (k : Nat) (x : Lane) (h : LaneAside n (s.lane k) x) (g : Nat) :
    LaneAside n (s.lane g) ((s.setLane k x).lane g) := by
  by_cases hk : k = g
  · subst hk
    by_cases hl : k < s.lanes.length
    · rw [State.lane_setLane s x hl]
      exact h
    · rw [State.lane_beyond (s.setLane k x) (by simpa using Nat.le_of_not_lt hl),
        ← State.lane_beyond s (Nat.le_of_not_lt hl)]
      exact .refl n _
  · rw [State.lane_setLane_ne s x hk]
    exact .refl n _

/-- R117: a posting leaves every lane's view of another bar. -/
theorem State.post_lane_aside {b n : Nat} (o : Order) (s : State) (hn : n ≠ b) (g : Nat) :
    LaneAside n (s.lane g) ((s.post b o).lane g) := by
  have posted (c : Chain) := State.enqueue_aside o (s.setPosted b o c) hn g
  have placed (x : Bar) (y : Lane) := State.setLane_aside (n := n) (s.setBar b x) (s.bar b).lane y
  unfold State.post
  split
  · split
    · exact .refl n _
    · unfold State.postWet
      dsimp only
      split
      · exact .refl n _
      · exact posted _
      · exact posted _
      · split
        · exact .refl n _
        · next hsent =>
          split
          · exact placed _ _ (Lane.remove_aside n _ (by simpa using hsent)) g
          · exact placed _ _ (Lane.replace_aside b n o _) g
      · exact posted _
  · exact .refl n _

/-- From `s` to `t` bars and lanes alone have changed, with events raised, and bar `n` stands as it stood: its record, its
entries, and, on a lane that does not stand free with entries, whether its entry is sent. -/
structure Aside (n : Nat) (s t : State) : Prop where
  side : RunSide s t
  run : t.run = s.run
  bar : t.bar n = s.bar n
  entries : ∀ g, ((t.lane g).queue.filter fun e => e.bar == n) = (s.lane g).queue.filter fun e => e.bar == n
  sent : ∀ g, LaneAside n (s.lane g) (t.lane g)
  bars : t.bars.length = s.bars.length
  lanes : t.lanes.length = s.lanes.length

theorem Aside.refl (n : Nat) (s : State) : Aside n s s := ⟨.refl s, rfl, rfl, fun _ => rfl, fun _ => .refl n _, rfl, rfl⟩

theorem Aside.trans {n : Nat} {s t u : State} (h : Aside n s t) (k : Aside n t u) : Aside n s u :=
  ⟨h.side.trans k.side, k.run.trans h.run, k.bar.trans h.bar, fun g => (k.entries g).trans (h.entries g),
    fun g ht => ⟨(k.sent g (h.sent g ht).1).1, (k.sent g (h.sent g ht).1).2.trans (h.sent g ht).2⟩,
    k.bars.trans h.bars, k.lanes.trans h.lanes⟩

theorem raiseIf_aside (n : Nat) (c : Bool) (e : Event) (s : State) : Aside n s (s.raiseIf c e) := by
  cases c
  · exact .refl n s
  · exact ⟨raise_runSide e s, rfl, rfl, fun _ => rfl, fun _ => .refl n _, rfl, rfl⟩

theorem post_aside {b n : Nat} (o : Order) (s : State) (h : n ≠ b) : Aside n s (s.post b o) :=
  ⟨post_runSide b o s, State.post_run b o s, State.post_bar_ne o s h, State.post_entries_ne o s h,
    State.post_lane_aside o s h, (State.post_lengths b o s).1, (State.post_lengths b o s).2⟩

/-- A posting seen from before other bars' postings to after them. -/
theorem Ordered.aside {b : Nat} {o : Order} {s m m' t : State} (h : Ordered b o m m') (before : Aside b s m)
    (after : Aside b m' t) (lane : ∀ c, (s.bar b).handshake = .posted c → (s.lane (s.bar b).lane).Transmits) :
    Ordered b o s t := by
  unfold Ordered at h ⊢
  dsimp only at h ⊢
  rw [before.bar] at h
  rw [after.bar, after.entries]
  simp only [before.entries] at h
  cases hh : (s.bar b).handshake with
  | posted c =>
    rw [hh] at h
    dsimp only at h ⊢
    rw [(before.sent _ (lane c hh)).2] at h
    exact h
  | off | idle | moving c | lost =>
    rw [hh] at h
    exact h

/-! ### What a posting does to its own bar -/

/-- R129: with the source SIMULATED an order is answered at once. -/
theorem State.post_bar_dry {b : Nat} (o : Order) {s : State} (hb : b < s.bars.length)
    (hs : s.tracker.source = .simulated) (ht : (s.bar b).takesOrder o = true) :
    (s.post b o).bar b = { s.bar b with known := some o.target, handshake := .idle } := by
  unfold State.post
  rw [if_pos ht, if_pos hs]
  exact State.bar_setBar s _ hb

/-- R129: with the source SIMULATED no lane is touched. -/
theorem State.post_lanes_dry {b : Nat} (o : Order) {s : State} (hs : s.tracker.source = .simulated) :
    (s.post b o).lanes = s.lanes := by
  unfold State.post
  rw [if_pos hs]
  split <;> rfl

/-- A posting keeps what configures its bar (R107). -/
theorem State.post_bar_config (b : Nat) (o : Order) (s : State) :
    ((s.post b o).bar b).enabled = (s.bar b).enabled ∧ ((s.post b o).bar b).lane = (s.bar b).lane := by
  by_cases hb : b < s.bars.length
  · unfold State.post State.dryAnswer State.postWet State.setPosted
    dsimp only
    repeat' split
    all_goals simp [State.bar_setBar s _ hb]
  · have beyond := Nat.le_of_not_lt hb
    rw [State.bar_beyond beyond, State.bar_beyond (by rw [(State.post_lengths b o s).1]; exact beyond)]
    exact ⟨rfl, rfl⟩

/-- A bar that takes no postings is left as it is. -/
theorem State.post_refused {b : Nat} {o : Order} {s : State} (h : (s.bar b).takesOrder o = false) : s.post b o = s := by
  simp [State.post, h]

theorem Bar.takesOrder_of_active {x : Bar} {o : Order} (h : x.handshake = .idle ∨ x.outstanding = true) :
    x.takesOrder o = true := by
  unfold Bar.takesOrder
  unfold Bar.outstanding Handshake.chain? at h
  cases hh : x.handshake <;> simp_all

/-- A bar that was IDLE stands at the order's target or is bound for it. -/
theorem State.post_standing_of_idle {b : Nat} (o : Order) {s : State} (hb : b < s.bars.length)
    (hi : (s.bar b).handshake = .idle) : ((s.post b o).bar b).standing = some o.target := by
  have takes : (s.bar b).takesOrder o = true := Bar.takesOrder_of_active (.inl hi)
  unfold State.post
  rw [if_pos takes]
  split
  · rw [State.dryAnswer, State.bar_setBar s _ hb]
    rfl
  · unfold State.postWet
    dsimp only
    rw [hi]
    dsimp only
    rw [State.enqueue_bar, State.setPosted, State.bar_setBar s _ hb]
    rfl

end Sys2Proof.Machine
end


section
/-! Zone crossings: what one crossing of a group, and all the crossings of a count, do to each bar. -/

namespace Sys2Proof.Machine

/-! ### One bar at a crossing (R113) -/

/-- The bar is ordered at this crossing: it follows the group's zones, and neither stands at the target nor is bound for
it. -/
def State.ordersAt (g : Nat) (x : Crossing) (b : Nat) (s : State) : Bool :=
  match s.queue.zoneTarget x.zone b with
  | none => false
  | some t => (s.bar b).followsZones g && (s.bar b).standing != some t

/-- The bar's order at this crossing is at RISK (R115). -/
def State.risksAt (g : Nat) (x : Crossing) (b : Nat) (s : State) : Bool := s.ordersAt g x b && s.atRisk x b

theorem orderAtCrossing_not {g : Nat} {x : Crossing} {b : Nat} {s : State} (h : s.ordersAt g x b = false) :
    s.orderAtCrossing g x b = s := by
  unfold State.ordersAt at h
  unfold State.orderAtCrossing
  split
  · rfl
  · next t ht =>
    rw [ht] at h
    dsimp only at h
    rw [if_neg (by simpa using h)]

theorem orderAtCrossing_orders {g : Nat} {x : Crossing} {b t : Nat} {s : State} (h : s.ordersAt g x b = true)
    (ht : s.queue.zoneTarget x.zone b = some t) : s.orderAtCrossing g x b =
      (s.raiseIf (s.atRisk x b) .risk).post b { kind := .move, target := t, deadline := x.deadline } := by
  unfold State.ordersAt at h
  rw [ht] at h
  unfold State.orderAtCrossing
  rw [ht]
  dsimp only at h ⊢
  rw [if_pos (by simpa using h)]

/-- A bar that is ordered has a target. -/
theorem State.target_of_ordersAt {g : Nat} {x : Crossing} {b : Nat} {s : State} (h : s.ordersAt g x b = true) :
    ∃ t, s.queue.zoneTarget x.zone b = some t := by
  unfold State.ordersAt at h
  split at h
  · cases h
  · exact ⟨_, ‹_›⟩

/-- A bar of another lane is not ordered. -/
theorem State.ordersAt_other {g : Nat} {x : Crossing} {b : Nat} {s : State} (h : (s.bar b).lane ≠ g) :
    s.ordersAt g x b = false := by
  unfold State.ordersAt
  split
  · rfl
  · simp [Bar.followsZones, h]

theorem orderAtCrossing_aside {b n : Nat} (g : Nat) (x : Crossing) (s : State) (h : n ≠ b) :
    Aside n s (s.orderAtCrossing g x b) := by
  cases ho : s.ordersAt g x b with
  | false => rw [orderAtCrossing_not ho]; exact .refl n s
  | true =>
    obtain ⟨t, ht⟩ := State.target_of_ordersAt ho
    rw [orderAtCrossing_orders ho ht]
    exact (raiseIf_aside n _ _ s).trans (post_aside _ _ h)

@[simp] theorem State.orderAtCrossing_run (g : Nat) (x : Crossing) (b : Nat) (s : State) :
    (s.orderAtCrossing g x b).run = s.run := by
  unfold State.orderAtCrossing
  split
  · rfl
  · split <;> simp

theorem orderFold_run (g : Nat) (x : Crossing) (l : List Nat) (s : State) :
    (l.foldl (State.orderAtCrossing g x) s).run = s.run :=
  foldl_reads (read := State.run) (fun s b => State.orderAtCrossing_run g x b s) l s

/-- An order keeps what configures its bar. -/
theorem orderAtCrossing_config (g : Nat) (x : Crossing) (b : Nat) (s : State) :
    ((s.orderAtCrossing g x b).bar b).enabled = (s.bar b).enabled ∧
      ((s.orderAtCrossing g x b).bar b).lane = (s.bar b).lane := by
  cases ho : s.ordersAt g x b with
  | false => rw [orderAtCrossing_not ho]; exact ⟨rfl, rfl⟩
  | true =>
    obtain ⟨t, ht⟩ := State.target_of_ordersAt ho
    rw [orderAtCrossing_orders ho ht]
    have kept := (raiseIf_aside b (s.atRisk x b) .risk s).bar
    have config := State.post_bar_config b { kind := .move, target := t, deadline := x.deadline }
      (s.raiseIf (s.atRisk x b) .risk)
    rw [kept] at config
    exact config

/-! ### One group's crossing -/

/-- The queue gives all bars a target in a zone, or none (R98). -/
theorem CourseQueue.zoneTarget_isSome (q : CourseQueue) (z : Zone) (b : Nat) :
    (q.zoneTarget z b).isSome = (q.zoneTarget z 0).isSome := by
  unfold CourseQueue.zoneTarget
  split <;> try rfl
  split <;> rfl

/-- R113: no lane takes a crossing but in RUNNING with a retreat backlog of 0. -/
theorem zoneCrossing_quiet {s : State} (h : ¬(s.run.state = .running ∧ s.queue.backlog = 0)) (g : Nat) (x : Crossing) :
    s.zoneCrossing g x = s := by
  unfold State.zoneCrossing
  rw [if_neg h]

theorem zoneCrossing_targets {g : Nat} {x : Crossing} {s : State} (h : s.run.state = .running ∧ s.queue.backlog = 0)
    (ht : (s.queue.zoneTarget x.zone 0).isSome = true) :
    s.zoneCrossing g x = (List.range 48).foldl (State.orderAtCrossing g x) s := by
  unfold State.zoneCrossing
  rw [if_pos h, if_pos ht]

/-- A bar of another lane stands aside from a group's crossing. -/
theorem orderFold_aside {n g : Nat} (x : Crossing) (l : List Nat) {s : State} (h : n ∉ l ∨ (s.bar n).lane ≠ g) :
    Aside n s (l.foldl (State.orderAtCrossing g x) s) := by
  have steps := foldl_rel (f := State.orderAtCrossing g x)
    (R := fun s t => n ∉ l ∨ (s.bar n).lane ≠ g → Aside n s t) (fun s _ => .refl n s)
    (fun {s t u} hst htu h => (hst h).trans (htu (by rwa [(hst h).bar]))) l
    (fun b hb s h => by
      by_cases hbn : n = b
      · subst hbn
        rw [orderAtCrossing_not (State.ordersAt_other (h.resolve_left (not_not.mpr hb)))]
        exact .refl n s
      · exact orderAtCrossing_aside g x s hbn) s
  exact steps h

/-- A group's crossing reaches each bar with the bars before it ordered, and the bars after it leave it. -/
theorem orderFold_reaches {n : Nat} (g : Nat) (x : Crossing) {l : List Nat} (nodup : l.Nodup) (hn : n ∈ l) (s : State) :
    ∃ m, Aside n s m ∧ Aside n (m.orderAtCrossing g x n) (l.foldl (State.orderAtCrossing g x) s) :=
  foldl_reaches (R := Aside n) (.refl n) (.trans) nodup hn
    (fun _ _ hb s => orderAtCrossing_aside g x s (Ne.symm hb)) s

/-! ### The crossings of a count -/

/-- One group's crossing of a count, where it has one. -/
def State.takeCrossing (f : Nat → Option Crossing) (s : State) (g : Nat) : State :=
  match f g with
  | some x => s.zoneCrossing g x
  | none => s

/-- The crossings of the four groups in a count, each group's given by `f`. -/
def State.crossings (f : Nat → Option Crossing) (s : State) : State := (List.range 4).foldl (State.takeCrossing f) s

theorem takeCrossing_some {f : Nat → Option Crossing} {g : Nat} {x : Crossing} (h : f g = some x) (s : State) :
    s.takeCrossing f g = s.zoneCrossing g x := by
  simp [State.takeCrossing, h]

theorem takeCrossing_none {f : Nat → Option Crossing} {g : Nat} (h : f g = none) (s : State) :
    s.takeCrossing f g = s := by
  simp [State.takeCrossing, h]

theorem crossings_none {f : Nat → Option Crossing} (h : ∀ g, g < 4 → f g = none) (s : State) : s.crossings f = s := by
  have steps := foldl_rel (f := State.takeCrossing f) (R := fun s t => t = s) (fun _ => rfl)
    (fun h k => k.trans h) (List.range 4) (fun g hg s => takeCrossing_none (h g (List.mem_range.mp hg)) s) s
  exact steps

theorem crossings_quiet {s : State} (h : ¬(s.run.state = .running ∧ s.queue.backlog = 0)) (f : Nat → Option Crossing) :
    s.crossings f = s := by
  have steps := foldl_rel (f := State.takeCrossing f)
    (R := fun s t => ¬(s.run.state = .running ∧ s.queue.backlog = 0) → t = s) (fun _ _ => rfl)
    (fun {s t u} hst htu h => by have e := hst h; subst e; exact htu h) (List.range 4)
    (fun g _ s h => by
      unfold State.takeCrossing
      split
      · exact zoneCrossing_quiet h g _
      · rfl) s
  exact steps h

theorem takeCrossing_runSide (f : Nat → Option Crossing) (s : State) (g : Nat) : RunSide s (s.takeCrossing f g) := by
  unfold State.takeCrossing
  split
  · exact zoneCrossing_runSide g _ s
  · exact .refl s

theorem crossings_runSide (f : Nat → Option Crossing) (s : State) : RunSide s (s.crossings f) :=
  RunSide.foldl (takeCrossing_runSide f) (List.range 4) s

/-- In RUNNING with a retreat backlog of 0 the queue gives targets for every crossing of the count. -/
structure Crossable (f : Nat → Option Crossing) (s : State) : Prop where
  running : s.run.state = .running
  backlog : s.queue.backlog = 0
  targets : ∀ g, g < 4 → ∀ x, f g = some x → (s.queue.zoneTarget x.zone 0).isSome = true

theorem Crossable.of_same {f : Nat → Option Crossing} {s t : State} (h : Crossable f s) (run : t.run = s.run)
    (queue : t.queue = s.queue) : Crossable f t := by
  obtain ⟨running, backlog, targets⟩ := h
  exact ⟨by rw [run]; exact running, by rw [queue]; exact backlog, by rw [queue]; exact targets⟩

theorem Crossable.aside {f : Nat → Option Crossing} {n : Nat} {s t : State} (h : Crossable f s) (k : Aside n s t) :
    Crossable f t := h.of_same k.run k.side.queue

/-- Whether a count orders a bar's group: the bar is one of the 48, on one of the four lanes, and its group crosses. -/
def crossingOf (f : Nat → Option Crossing) (n : Nat) (bar : Bar) : Option Crossing :=
  if n < 48 ∧ bar.lane < 4 then f bar.lane else none

/-- A crossing of another group, or of a group that does not cross, leaves a bar aside. -/
theorem takeCrossing_aside {f : Nat → Option Crossing} {n g : Nat} {s : State} (hs : Crossable f s) (hg : g < 4)
    (h : (s.bar n).lane ≠ g ∨ crossingOf f n (s.bar n) = none) : Aside n s (s.takeCrossing f g) := by
  cases hx : f g with
  | none => rw [takeCrossing_none hx]; exact .refl n s
  | some x =>
    rw [takeCrossing_some hx, zoneCrossing_targets ⟨hs.running, hs.backlog⟩ (hs.targets g hg x hx)]
    refine orderFold_aside x _ ?_
    rcases h with h | h
    · exact .inr h
    · by_cases hl : (s.bar n).lane = g
      · refine .inl fun hn => ?_
        rw [crossingOf, if_pos ⟨List.mem_range.mp hn, hl ▸ hg⟩, hl, hx] at h
        cases h
      · exact .inr hl

/-- A count leaves aside every bar whose group it does not take over a boundary. -/
theorem crossings_aside {f : Nat → Option Crossing} {n : Nat} {s : State} (hs : Crossable f s)
    (h : crossingOf f n (s.bar n) = none) : Aside n s (s.crossings f) := by
  have steps := foldl_rel (f := State.takeCrossing f)
    (R := fun s t => Crossable f s → crossingOf f n (s.bar n) = none → Aside n s t) (fun s _ _ => .refl n s)
    (fun {s t u} hst htu hs h => (hst hs h).trans (htu (hs.aside (hst hs h)) (by rwa [(hst hs h).bar])))
    (List.range 4) (fun g hg s hs h => takeCrossing_aside hs (List.mem_range.mp hg) (.inr h)) s
  exact steps hs h

/-- A count reaches a bar of a crossing group with other bars ordered before it and others after it. -/
theorem crossings_reaches {f : Nat → Option Crossing} {n : Nat} {x : Crossing} {s : State} (hs : Crossable f s)
    (h : crossingOf f n (s.bar n) = some x) :
    ∃ m, Aside n s m ∧ Aside n (m.orderAtCrossing (s.bar n).lane x n) (s.crossings f) := by
  unfold crossingOf at h
  split at h
  case isFalse => cases h
  next hn =>
  obtain ⟨m, before, after⟩ := foldl_reaches (f := State.takeCrossing f)
    (R := fun u t => Crossable f u → (u.bar n).lane = (s.bar n).lane → Aside n u t) (fun u _ _ => .refl n u)
    (fun {a b c} hab hbc ha h => (hab ha h).trans (hbc (ha.aside (hab ha h)) (by rwa [(hab ha h).bar])))
    (List.nodup_range (n := 4)) (List.mem_range.mpr hn.2)
    (fun g hg hne u hu h => takeCrossing_aside hu (List.mem_range.mp hg) (.inl fun e => hne (e.symm.trans h))) s
  have first := before hs rfl
  have ready := hs.aside first
  rw [takeCrossing_some h, zoneCrossing_targets ⟨ready.running, ready.backlog⟩ (ready.targets _ hn.2 x h)] at after
  obtain ⟨m', before', after'⟩ := orderFold_reaches (s.bar n).lane x (List.nodup_range (n := 48))
    (List.mem_range.mpr hn.1) m
  have own := orderAtCrossing_config (s.bar n).lane x n m'
  refine ⟨m', first.trans before', after'.trans (after ?_ ?_)⟩
  · exact ready.of_same (orderFold_run _ _ _ m) (RunSide.foldl (orderAtCrossing_runSide _ x) _ m).queue
  · rw [after'.bar, own.2, before'.bar, first.bar]

/-- Where the queue gives targets no crossing of a count changes run control. -/
theorem crossings_run {f : Nat → Option Crossing} {s : State} (hs : Crossable f s) : (s.crossings f).run = s.run := by
  have steps := foldl_rel (f := State.takeCrossing f)
    (R := fun s t => Crossable f s → t.run = s.run ∧ t.queue = s.queue) (fun s _ => ⟨rfl, rfl⟩)
    (fun {s t u} hst htu hs => by
      obtain ⟨run, queue⟩ := hst hs
      obtain ⟨run', queue'⟩ := htu (hs.of_same run queue)
      exact ⟨run'.trans run, queue'.trans queue⟩)
    (List.range 4) (fun g hg s hs => by
      cases hx : f g with
      | none => rw [takeCrossing_none hx]; exact ⟨rfl, rfl⟩
      | some x =>
        rw [takeCrossing_some hx, zoneCrossing_targets ⟨hs.running, hs.backlog⟩
          (hs.targets g (List.mem_range.mp hg) x hx)]
        exact ⟨orderFold_run _ _ _ s, (RunSide.foldl (orderAtCrossing_runSide _ x) _ s).queue⟩) s
  exact (steps hs).1

/-- Where a crossing has no targets, only a forward entry to Z2 does anything: it is QUEUE_DRY (R98). -/
theorem zoneCrossing_dry {g : Nat} {x : Crossing} {s : State} (h : s.run.state = .running ∧ s.queue.backlog = 0)
    (ht : (s.queue.zoneTarget x.zone 0).isSome = false) :
    s.zoneCrossing g x = if x = .enterZ2 then s.hardFault .queueDry none s.headCourse else s := by
  unfold State.zoneCrossing
  rw [if_pos h, if_neg (by simp [ht])]

/-- In RUNNING a hard fault enters FAULTED. -/
theorem State.hardFault_running {s : State} (h : s.run.state = .running) (k : FaultKind) (b c : Option Nat) :
    s.hardFault k b c = s.enterFaulted k b c := by
  simp [State.hardFault, h]

/-- Crossings of which none has targets: the first forward entry to Z2 is QUEUE_DRY, and in FAULTED nothing follows. -/
theorem crossings_dry {f : Nat → Option Crossing} {s : State} (h : s.run.state = .running ∧ s.queue.backlog = 0)
    (ht : ∀ g, g < 4 → ∀ x, f g = some x → (s.queue.zoneTarget x.zone 0).isSome = false) :
    s.crossings f = if ∃ g ∈ List.range 4, f g = some .enterZ2 then s.enterFaulted .queueDry none s.headCourse else s := by
  have faulted : ¬((s.enterFaulted .queueDry none s.headCourse).run.state = .running ∧
      (s.enterFaulted .queueDry none s.headCourse).queue.backlog = 0) := by simp
  have rest (l : List Nat) : l.foldl (State.takeCrossing f) (s.enterFaulted .queueDry none s.headCourse) =
      s.enterFaulted .queueDry none s.headCourse := by
    refine foldl_rel (R := fun u t => u = s.enterFaulted .queueDry none s.headCourse → t = u) (fun _ _ => rfl)
      (fun {a b c} hab hbc ha => by have e := hab ha; subst e; exact hbc ha) l (fun g _ u hu => ?_) _ rfl
    unfold State.takeCrossing
    split
    · rw [hu]
      exact zoneCrossing_quiet faulted g _
    · rfl
  have run (l : List Nat) (hl : ∀ g ∈ l, g < 4) : l.foldl (State.takeCrossing f) s =
      if ∃ g ∈ l, f g = some .enterZ2 then s.enterFaulted .queueDry none s.headCourse else s := by
    induction l with
    | nil => simp
    | cons g l ih =>
      rw [List.foldl_cons]
      cases hx : f g with
      | none => rw [takeCrossing_none hx, ih fun g hg => hl g (by simp [hg])]; simp [hx]
      | some x =>
        rw [takeCrossing_some hx, zoneCrossing_dry h (ht g (hl g (by simp)) x hx)]
        by_cases h2 : x = .enterZ2
        · subst h2
          rw [if_pos rfl, State.hardFault_running h.1, rest, if_pos ⟨g, by simp, hx⟩]
        · rw [if_neg h2, ih fun g hg => hl g (by simp [hg])]
          simp [hx, h2]
  exact run _ fun g hg => List.mem_range.mp hg

/-! ### Events of the crossings (R115) -/

theorem any_congr_mem {α : Type} {p q : α → Bool} {l : List α} (h : ∀ a ∈ l, p a = q a) : l.any p = l.any q := by
  rw [Bool.eq_iff_iff, List.any_eq_true, List.any_eq_true]
  exact exists_congr fun a => and_congr_right fun ha => by rw [h a ha]

theorem State.raiseIf_or (c d : Bool) (e : Event) (s : State) : (s.raiseIf c e).raiseIf d e = s.raiseIf (c || d) e := by
  have twice (x : PortState) : (x.raise e).raise e = x.raise e := by
    simp [PortState.raise, BitVec.or_assoc]
  cases c <;> cases d <;> try rfl
  simp [State.raiseIf, State.raise, twice]

theorem State.raiseIf_port (c : Bool) (e : Event) (s : State) (p : Port) :
    (s.raiseIf c e).port p = if c then (s.port p).raise e else s.port p := by
  cases c <;> cases p <;> rfl

/-- A posting leaves the ports. -/
theorem State.post_port (b : Nat) (o : Order) (s : State) (p : Port) : (s.post b o).port p = s.port p := by
  have enqueued (u : State) : (u.enqueue b o).port p = u.port p := by
    unfold State.enqueue State.transmit
    dsimp only
    split
    · cases p <;> rfl
    · split <;> cases p <;> rfl
  unfold State.post State.dryAnswer State.postWet State.setPosted
  dsimp only
  repeat' split
  all_goals first
    | rfl
    | exact enqueued _

/-- What RISK is judged by: the bar, the queue, the last measured period, and the constants and classes of the bars. -/
theorem State.risksAt_congr {s t : State} {b : Nat} (bar : t.bar b = s.bar b) (queue : t.queue = s.queue)
    (period : t.tracker.period = s.tracker.period) (constants : t.constants = s.constants) (classes : t.classes = s.classes)
    (g : Nat) (x : Crossing) : t.risksAt g x b = s.risksAt g x b := by
  simp only [State.risksAt, State.ordersAt, State.atRisk, State.shogNeed, State.overlapNeed, State.underlapNeed,
    State.driveClass, bar, queue, period, constants, classes]

theorem Aside.risksAt {n : Nat} {s t : State} (h : Aside n s t) (g : Nat) (x : Crossing) :
    t.risksAt g x n = s.risksAt g x n :=
  State.risksAt_congr h.bar h.side.queue (by rw [h.side.tracker]) h.side.constants h.side.classes g x

theorem orderAtCrossing_port (g : Nat) (x : Crossing) (b : Nat) (s : State) (p : Port) :
    (s.orderAtCrossing g x b).port p = (s.raiseIf (s.risksAt g x b) .risk).port p := by
  cases ho : s.ordersAt g x b with
  | false =>
    rw [orderAtCrossing_not ho]
    simp [State.risksAt, ho, State.raiseIf]
  | true =>
    obtain ⟨t, ht⟩ := State.target_of_ordersAt ho
    rw [orderAtCrossing_orders ho ht, State.post_port]
    simp [State.risksAt, ho]

/-- A group's crossing raises RISK where one of its bars is at risk as the crossing begins, and no other event. -/
theorem orderFold_port (g : Nat) (x : Crossing) (p : Port) {l : List Nat} (nodup : l.Nodup) (s : State) :
    (l.foldl (State.orderAtCrossing g x) s).port p =
      (s.raiseIf (l.any fun b => s.risksAt g x b) .risk).port p := by
  induction l generalizing s with
  | nil => rfl
  | cons b l ih =>
    obtain ⟨hb, nodup⟩ := List.nodup_cons.mp nodup
    have later : (l.any fun n => (s.orderAtCrossing g x b).risksAt g x n) = l.any fun n => s.risksAt g x n := by
      refine any_congr_mem fun n hn => ?_
      exact (orderAtCrossing_aside g x s fun e : n = b => hb (e ▸ hn)).risksAt g x
    rw [List.foldl_cons, ih nodup, later, State.raiseIf_port, orderAtCrossing_port, ← State.raiseIf_port,
      State.raiseIf_or, List.any_cons]

/-- R115: a bar is at risk at one of the crossings of a count. -/
def State.anyRisk (f : Nat → Option Crossing) (l : List Nat) (s : State) : Bool :=
  l.any fun g => match f g with
    | some x => (List.range 48).any fun b => s.risksAt g x b
    | none => false

/-- A bar of another group than `g` is not at risk at `g`'s crossing. -/
theorem State.risksAt_other {g : Nat} {x : Crossing} {b : Nat} {s : State} (h : (s.bar b).lane ≠ g) :
    s.risksAt g x b = false := by
  simp [State.risksAt, State.ordersAt_other h]

/-- The crossings of a count raise RISK where a bar is at risk as they begin, and no other event. -/
theorem crossings_port {f : Nat → Option Crossing} {s : State} (hs : Crossable f s) (p : Port) :
    (s.crossings f).port p = (s.raiseIf (s.anyRisk f (List.range 4)) .risk).port p := by
  have run (l : List Nat) (nodup : l.Nodup) (hl : ∀ g ∈ l, g < 4) (s : State) (hs : Crossable f s) :
      (l.foldl (State.takeCrossing f) s).port p = (s.raiseIf (s.anyRisk f l) .risk).port p := by
    induction l generalizing s with
    | nil => rfl
    | cons g l ih =>
      obtain ⟨hg, nodup⟩ := List.nodup_cons.mp nodup
      have inside : g < 4 := hl g (by simp)
      rw [List.foldl_cons]
      cases hx : f g with
      | none =>
        rw [takeCrossing_none hx, ih nodup (fun g hg => hl g (by simp [hg])) s hs]
        simp [State.anyRisk, hx]
      | some x =>
        have aside (n : Nat) (hn : (s.bar n).lane ≠ g) := takeCrossing_aside hs inside (.inl hn)
        have crossed : s.takeCrossing f g = (List.range 48).foldl (State.orderAtCrossing g x) s := by
          rw [takeCrossing_some hx, zoneCrossing_targets ⟨hs.running, hs.backlog⟩ (hs.targets g inside x hx)]
        have same : Crossable f (s.takeCrossing f g) := by
          rw [crossed]
          exact hs.of_same (orderFold_run _ _ _ s) (RunSide.foldl (orderAtCrossing_runSide _ x) _ s).queue
        have lane (n : Nat) : ((s.takeCrossing f g).bar n).lane = (s.bar n).lane := by
          by_cases hn : (s.bar n).lane = g
          · rw [crossed]
            by_cases h48 : n ∈ List.range 48
            · obtain ⟨m, before, after⟩ := orderFold_reaches g x List.nodup_range h48 s
              rw [after.bar, (orderAtCrossing_config g x n m).2, before.bar]
            · rw [(orderFold_aside x _ (.inl h48)).bar]
          · rw [(aside n hn).bar]
        have later : (s.takeCrossing f g).anyRisk f l = s.anyRisk f l := by
          refine any_congr_mem fun g' hg' => ?_
          have apart : g' ≠ g := fun e => hg (e ▸ hg')
          split
          · refine any_congr_mem fun n _ => ?_
            by_cases hn : (s.bar n).lane = g
            · rw [State.risksAt_other (by rw [lane, hn]; exact Ne.symm apart),
                State.risksAt_other (by rw [hn]; exact Ne.symm apart)]
            · exact (aside n hn).risksAt g' _
          · rfl
        rw [ih nodup (fun g hg => hl g (by simp [hg])) _ same, later, State.raiseIf_port, crossed,
          orderFold_port g x p List.nodup_range, ← State.raiseIf_port, State.raiseIf_or]
        simp [State.anyRisk, hx]
  exact run _ List.nodup_range (fun g hg => List.mem_range.mp hg) s hs

/-- R129: with the source SIMULATED the crossings of a count touch no lane. -/
theorem crossings_lanes_dry {f : Nat → Option Crossing} {s : State} (hs : Crossable f s)
    (dry : s.tracker.source = .simulated) : (s.crossings f).lanes = s.lanes := by
  have order (g b : Nat) (x : Crossing) (s : State) (dry : s.tracker.source = .simulated) :
      (s.orderAtCrossing g x b).lanes = s.lanes := by
    cases ho : s.ordersAt g x b with
    | false => rw [orderAtCrossing_not ho]
    | true =>
      obtain ⟨t, ht⟩ := State.target_of_ordersAt ho
      rw [orderAtCrossing_orders ho ht, State.post_lanes_dry _ (by simpa using dry)]
      simp
  have group (g : Nat) (x : Crossing) (s : State) (dry : s.tracker.source = .simulated) :
      ((List.range 48).foldl (State.orderAtCrossing g x) s).lanes = s.lanes := by
    refine (foldl_rel (R := fun s t => s.tracker.source = .simulated →
      t.lanes = s.lanes ∧ t.tracker.source = .simulated) (fun s h => ⟨rfl, h⟩) (fun {a b c} hab hbc h => ?_) _
      (fun b _ s h => ⟨order g b x s h, ?_⟩) s dry).1
    · obtain ⟨lanes, source⟩ := hab h
      exact ⟨(hbc source).1.trans lanes, (hbc source).2⟩
    · rw [(orderAtCrossing_runSide g x s b).tracker]
      exact h
  refine (foldl_rel (R := fun s t => Crossable f s → s.tracker.source = .simulated →
    t.lanes = s.lanes ∧ t.tracker.source = .simulated ∧ Crossable f t) (fun s h k => ⟨rfl, k, h⟩)
    (fun {a b c} hab hbc h k => ?_) (List.range 4) (fun g hg s h k => ?_) s hs dry).1
  · obtain ⟨lanes, source, ready⟩ := hab h k
    obtain ⟨lanes', rest⟩ := hbc ready source
    exact ⟨lanes'.trans lanes, rest⟩
  · cases hx : f g with
    | none => rw [takeCrossing_none hx]; exact ⟨rfl, k, h⟩
    | some x =>
      have side := RunSide.foldl (orderAtCrossing_runSide g x) (List.range 48) s
      rw [takeCrossing_some hx, zoneCrossing_targets ⟨h.running, h.backlog⟩
        (h.targets g (List.mem_range.mp hg) x hx)]
      exact ⟨group g x s k, by rw [side.tracker]; exact k, h.of_same (orderFold_run _ _ _ s) side.queue⟩

end Sys2Proof.Machine
end


section
/-! What a count of the shaft does: the tracker counts, run control is told, and with the angle valid the deadlines, the
zones and the boundary follow. Valid constants keep these apart, so that a count passes one deadline at most and takes the
groups over one kind of boundary at most. -/

namespace Sys2Proof.Machine

/-! ### How far a count moves the angle (R2, R5, R17) -/

theorem angleOf_succ_le {counts : Nat} (h : 400 ≤ counts) (c : Nat) : angleOf (c + 1) counts ≤ angleOf c counts + 11 := by
  unfold angleOf
  have step : (c + 1) * 4096 / counts ≤ (c * 4096 + 11 * counts) / counts := Nat.div_le_div_right (by omega)
  rwa [Nat.add_mul_div_right _ _ (by omega)] at step

/-- The last count before the wrap starts past every boundary and every deadline but U_e. -/
theorem angleOf_wrap {counts c : Nat} (h : 400 ≤ counts) (hc : counts ≤ c + 1) : 4085 ≤ angleOf c counts :=
  (Nat.le_div_iff_mul_le (by omega)).mpr (by omega)

/-- R17: the order of the boundaries and deadlines, 64 steps of angle between a group's boundary and its deadline. -/
theorem groups_apart {k : MachineConstants} (hk : validConstants k = true) {g : Nat} (hg : g < 4) :
    1 ≤ k.overlapStart ∧ k.overlapStart ≤ groupStart1 k g ∧ groupStart1 k g + 64 ≤ k.overlapEnd ∧
      k.overlapEnd ≤ k.underlapStart ∧ k.underlapStart ≤ groupStart2 k g ∧ groupStart2 k g + 64 ≤ k.underlapEnd ∧
      k.underlapEnd ≤ 4095 := by
  have stagger : g * k.stagger ≤ 3 * k.stagger := Nat.mul_le_mul_right _ (by omega)
  rw [validConstants_iff] at hk
  simp only [groupStart1, groupStart2]
  omega

/-- The angle that a count starts from. -/
def State.startAngle (s : State) : Nat := angleOf s.tracker.counter s.constants.counts

/-- The angle that a forward count reaches, 4096 at the wrap (R5). -/
def State.reach (s : State) : Nat :=
  if s.tracker.counter + 1 < s.constants.counts then angleOf (s.tracker.counter + 1) s.constants.counts else 4096

/-- The angle that a reverse count starts from, 4096 at the wrap (R5). -/
def State.backStart (s : State) : Nat := if s.tracker.counter = 0 then 4096 else s.startAngle

/-- The angle that a reverse count reaches. -/
def State.backReach (s : State) : Nat :=
  angleOf (if s.tracker.counter = 0 then s.constants.counts - 1 else s.tracker.counter - 1) s.constants.counts

theorem counts_ge {k : MachineConstants} (hk : validConstants k = true) : 400 ≤ k.counts := by
  rw [validConstants_iff] at hk
  omega

theorem State.reach_le {s : State} (hk : validConstants s.constants = true) : s.reach ≤ s.startAngle + 11 := by
  unfold State.reach
  split
  · exact angleOf_succ_le (counts_ge hk) _
  · have := angleOf_wrap (counts_ge hk) (c := s.tracker.counter) (by omega)
    unfold State.startAngle
    omega

theorem State.backStart_le {s : State} (hk : validConstants s.constants = true) : s.backStart ≤ s.backReach + 11 := by
  have counts := counts_ge hk
  unfold State.backStart State.backReach
  split
  · have := angleOf_wrap counts (c := s.constants.counts - 1) (by omega)
    omega
  · have step := angleOf_succ_le counts (s.tracker.counter - 1)
    rwa [Nat.sub_add_cancel (by omega)] at step

/-! ### The zones a count takes the groups over (R5) -/

/-- A group's crossing in a forward count from angle `a` to `a'`. -/
def forwardCrossing (k : MachineConstants) (a a' g : Nat) : Option Crossing :=
  if a < groupStart1 k g ∧ groupStart1 k g ≤ a' then some .enterZ1
  else if a < groupStart2 k g ∧ groupStart2 k g ≤ a' then some .enterZ2 else none

/-- A group's crossing in a reverse count from angle `a` to `a'`. -/
def reverseCrossing (k : MachineConstants) (a a' g : Nat) : Option Crossing :=
  if a' < groupStart2 k g ∧ groupStart2 k g ≤ a then some .backToZ1
  else if a' < groupStart1 k g ∧ groupStart1 k g ≤ a then some .backToZ0 else none

/-- A group's crossing in the forward count that a state takes. -/
def State.entered (s : State) : Nat → Option Crossing := forwardCrossing s.constants s.startAngle s.reach

/-- A group's crossing in the reverse count that a state takes. -/
def State.left (s : State) : Nat → Option Crossing := reverseCrossing s.constants s.backStart s.backReach

theorem forwardCrossing_cases {k : MachineConstants} {a a' g : Nat} {x : Crossing} (h : forwardCrossing k a a' g = some x) :
    (x = .enterZ1 ∧ a < groupStart1 k g ∧ groupStart1 k g ≤ a') ∨
      (x = .enterZ2 ∧ a < groupStart2 k g ∧ groupStart2 k g ≤ a') := by
  unfold forwardCrossing at h
  split at h
  · exact .inl ⟨(Option.some.inj h).symm, ‹_›⟩
  · split at h
    · exact .inr ⟨(Option.some.inj h).symm, ‹_›⟩
    · cases h

theorem reverseCrossing_cases {k : MachineConstants} {a a' g : Nat} {x : Crossing} (h : reverseCrossing k a a' g = some x) :
    (x = .backToZ1 ∧ a' < groupStart2 k g ∧ groupStart2 k g ≤ a) ∨
      (x = .backToZ0 ∧ a' < groupStart1 k g ∧ groupStart1 k g ≤ a) := by
  unfold reverseCrossing at h
  split at h
  · exact .inl ⟨(Option.some.inj h).symm, ‹_›⟩
  · split at h
    · exact .inr ⟨(Option.some.inj h).symm, ‹_›⟩
    · cases h

/-- No group crosses both its boundaries in one count, so a forward count has at most this crossing of a group. -/
theorem zonesForward_eq {a a' g : Nat} {s : State} (hk : validConstants s.constants = true) (ha : a' ≤ a + 11)
    (hg : g < 4) : s.zonesForward a a' g = s.takeCrossing (forwardCrossing s.constants a a') g := by
  have apart := groups_apart hk hg
  unfold State.zonesForward State.takeCrossing forwardCrossing
  dsimp only
  by_cases h1 : a < groupStart1 s.constants g ∧ groupStart1 s.constants g ≤ a'
  · have h2 : ¬(a < groupStart2 s.constants g ∧ groupStart2 s.constants g ≤ a') := by omega
    simp only [if_pos h1, if_neg h2]
  · simp only [if_neg h1]
    split
    · simp only
    · rfl

theorem zonesReverse_eq {a a' g : Nat} {s : State} (hk : validConstants s.constants = true) (ha : a ≤ a' + 11)
    (hg : g < 4) : s.zonesReverse a a' g = s.takeCrossing (reverseCrossing s.constants a a') g := by
  have apart := groups_apart hk hg
  unfold State.zonesReverse State.takeCrossing reverseCrossing
  dsimp only
  by_cases h2 : a' < groupStart2 s.constants g ∧ groupStart2 s.constants g ≤ a
  · have h1 : ¬(a' < groupStart1 s.constants g ∧ groupStart1 s.constants g ≤ a) := by omega
    simp only [if_pos h2, if_neg h1]
  · simp only [if_neg h2]
    split
    · simp only
    · rfl

/-- Folds of steps that agree while the constants stand. -/
theorem foldl_congr_constants {f f' : State → Nat → State} {l : List Nat} {s : State}
    (same : ∀ u : State, u.constants = s.constants → ∀ g ∈ l, f u g = f' u g)
    (kept : ∀ (u : State) (g : Nat), (f' u g).constants = u.constants) : l.foldl f s = l.foldl f' s := by
  induction l generalizing s with
  | nil => rfl
  | cons g l ih =>
    rw [List.foldl_cons, List.foldl_cons, same s rfl g (by simp)]
    exact ih fun u hu n hn => same u (hu.trans (kept s g)) n (by simp [hn])

theorem zonesForward_fold {a a' : Nat} {s : State} (hk : validConstants s.constants = true) (ha : a' ≤ a + 11) :
    (List.range 4).foldl (State.zonesForward a a') s = s.crossings (forwardCrossing s.constants a a') :=
  foldl_congr_constants (fun u hu g hg => by
    rw [zonesForward_eq (by rwa [hu]) ha (List.mem_range.mp hg), hu])
    fun u g => (takeCrossing_runSide _ u g).constants

theorem zonesReverse_fold {a a' : Nat} {s : State} (hk : validConstants s.constants = true) (ha : a ≤ a' + 11) :
    (List.range 4).foldl (State.zonesReverse a a') s = s.crossings (reverseCrossing s.constants a a') :=
  foldl_congr_constants (fun u hu g hg => by
    rw [zonesReverse_eq (by rwa [hu]) ha (List.mem_range.mp hg), hu])
    fun u g => (takeCrossing_runSide _ u g).constants

/-- At the wrap no group enters a zone. -/
theorem entered_wrap {s : State} (hk : validConstants s.constants = true)
    (wrap : ¬s.tracker.counter + 1 < s.constants.counts) (g : Nat) (hg : g < 4) : s.entered g = none := by
  have start : 4085 ≤ s.startAngle := angleOf_wrap (counts_ge hk) (by omega)
  have apart := groups_apart hk hg
  cases h : s.entered g with
  | none => rfl
  | some x => rcases forwardCrossing_cases h with h | h <;> omega

theorem left_wrap {s : State} (hk : validConstants s.constants = true) (wrap : s.tracker.counter = 0) (g : Nat)
    (hg : g < 4) : s.left g = none := by
  have counts := counts_ge hk
  have reach : 4085 ≤ s.backReach := by
    rw [State.backReach, if_pos wrap]
    exact angleOf_wrap counts (by omega)
  have apart := groups_apart hk hg
  cases h : s.left g with
  | none => rfl
  | some x => rcases reverseCrossing_cases h with h | h <;> omega

/-- All the groups that a count takes over a boundary go over the same. -/
theorem entered_uniform {s : State} (hk : validConstants s.constants = true) {g g' : Nat} (hg : g < 4) (hg' : g' < 4)
    {x y : Crossing} (hx : s.entered g = some x) (hy : s.entered g' = some y) : x = y := by
  have reach := s.reach_le hk
  have apart := groups_apart hk hg
  have apart' := groups_apart hk hg'
  rcases forwardCrossing_cases hx with ⟨rfl, hx⟩ | ⟨rfl, hx⟩
  · rcases forwardCrossing_cases hy with ⟨rfl, -⟩ | ⟨-, hy⟩
    · rfl
    · omega
  · rcases forwardCrossing_cases hy with ⟨-, hy⟩ | ⟨rfl, -⟩
    · omega
    · rfl

theorem left_uniform {s : State} (hk : validConstants s.constants = true) {g g' : Nat} (hg : g < 4) (hg' : g' < 4)
    {x y : Crossing} (hx : s.left g = some x) (hy : s.left g' = some y) : x = y := by
  have reach := s.backStart_le hk
  have apart := groups_apart hk hg
  have apart' := groups_apart hk hg'
  rcases reverseCrossing_cases hx with ⟨rfl, hx⟩ | ⟨rfl, hx⟩
  · rcases reverseCrossing_cases hy with ⟨rfl, -⟩ | ⟨-, hy⟩
    · rfl
    · omega
  · rcases reverseCrossing_cases hy with ⟨-, hy⟩ | ⟨rfl, -⟩
    · omega
    · rfl

/-- In RUNNING with a retreat backlog of 0, crossings of one kind have targets for all the groups or for none. -/
theorem crossable_or_dry {f : Nat → Option Crossing} {s : State} (running : s.run.state = .running)
    (backlog : s.queue.backlog = 0)
    (uniform : ∀ g, g < 4 → ∀ g', g' < 4 → ∀ x y, f g = some x → f g' = some y → x = y) :
    Crossable f s ∨ ∀ g, g < 4 → ∀ x, f g = some x → (s.queue.zoneTarget x.zone 0).isSome = false := by
  by_cases h : ∃ g, g < 4 ∧ ∃ x, f g = some x ∧ (s.queue.zoneTarget x.zone 0).isSome = true
  · obtain ⟨g, hg, x, hx, ht⟩ := h
    exact .inl ⟨running, backlog, fun g' hg' y hy => by rwa [← uniform g hg g' hg' x y hx hy]⟩
  · refine .inr fun g hg x hx => ?_
    by_contra ht
    exact h ⟨g, hg, x, hx, eq_true_of_ne_false ht⟩

/-! ### The deadlines a count passes (R7, R114) -/

/-- The forward count that a state takes passes this deadline. -/
def State.passes (d : Deadline) (s : State) : Prop :=
  s.startAngle < deadlineAngle s.constants d ∧ deadlineAngle s.constants d ≤ s.reach

theorem Bar.hasDeadline_iff (d : Deadline) (bar : Bar) : bar.hasDeadline d = true ↔ bar.Due d := by
  unfold Bar.hasDeadline Bar.Due Handshake.chain?
  cases bar.handshake <;> simp

/-- A bar after the deadline `d` has been passed. -/
def Bar.passDeadline (d : Deadline) (bar : Bar) : Bar := if bar.hasDeadline d then bar.dropDeadline else bar

theorem Bar.passDeadline_of_not {d : Deadline} {bar : Bar} (h : ¬bar.Due d) : bar.passDeadline d = bar :=
  if_neg (by rwa [Bar.hasDeadline_iff])

theorem Bar.passDeadline_posted {d : Deadline} {bar : Bar} {c : Chain} (h : bar.handshake = .posted c)
    (hd : c.order.deadline = some d) : bar.passDeadline d =
      { bar with handshake := .posted { c with order := { c.order with deadline := none } } } := by
  rw [Bar.passDeadline, if_pos ((Bar.hasDeadline_iff d bar).mpr ⟨c, .inl h, hd⟩), Bar.dropDeadline, h]

theorem Bar.passDeadline_moving {d : Deadline} {bar : Bar} {c : Chain} (h : bar.handshake = .moving c)
    (hd : c.order.deadline = some d) : bar.passDeadline d =
      { bar with handshake := .moving { c with order := { c.order with deadline := none } } } := by
  rw [Bar.passDeadline, if_pos ((Bar.hasDeadline_iff d bar).mpr ⟨c, .inr h, hd⟩), Bar.dropDeadline, h]

/-- What passing a deadline does to a bar: nothing, or its order loses its deadline. -/
theorem Bar.passDeadline_cases (d : Deadline) (bar : Bar) : bar.passDeadline d = bar ∨
    ∃ c, c.order.deadline = some d ∧
      ((bar.handshake = .posted c ∧ bar.passDeadline d =
        { bar with handshake := .posted { c with order := { c.order with deadline := none } } }) ∨
      (bar.handshake = .moving c ∧ bar.passDeadline d =
        { bar with handshake := .moving { c with order := { c.order with deadline := none } } })) := by
  by_cases h : bar.Due d
  · obtain ⟨c, h | h, hd⟩ := h
    · exact .inr ⟨c, hd, .inl ⟨h, Bar.passDeadline_posted h hd⟩⟩
    · exact .inr ⟨c, hd, .inr ⟨h, Bar.passDeadline_moving h hd⟩⟩
  · exact .inl (Bar.passDeadline_of_not h)

theorem Bar.passDeadline_not_due (d : Deadline) (bar : Bar) : ¬(bar.passDeadline d).Due d := by
  by_cases h : bar.Due d
  · obtain ⟨c, h | h, hd⟩ := h
    · rw [Bar.passDeadline_posted h hd]
      rintro ⟨c', hc | hc, hd⟩ <;> cases hc
      cases hd
    · rw [Bar.passDeadline_moving h hd]
      rintro ⟨c', hc | hc, hd⟩ <;> cases hc
      cases hd
  · rwa [Bar.passDeadline_of_not h]

@[simp] theorem Bar.passDeadline_standing (d : Deadline) (bar : Bar) : (bar.passDeadline d).standing = bar.standing := by
  rcases bar.passDeadline_cases d with h | ⟨c, -, ⟨hc, h⟩ | ⟨hc, h⟩⟩ <;> simp [Bar.standing, *]

@[simp] theorem Bar.passDeadline_outstanding (d : Deadline) (bar : Bar) :
    (bar.passDeadline d).outstanding = bar.outstanding := by
  rcases bar.passDeadline_cases d with h | ⟨c, -, ⟨hc, h⟩ | ⟨hc, h⟩⟩ <;> simp [Bar.outstanding, Handshake.chain?, *]

@[simp] theorem Bar.passDeadline_enabled (d : Deadline) (bar : Bar) : (bar.passDeadline d).enabled = bar.enabled := by
  rcases bar.passDeadline_cases d with h | ⟨c, -, ⟨hc, h⟩ | ⟨hc, h⟩⟩ <;> simp [h]

@[simp] theorem Bar.passDeadline_lane (d : Deadline) (bar : Bar) : (bar.passDeadline d).lane = bar.lane := by
  rcases bar.passDeadline_cases d with h | ⟨c, -, ⟨hc, h⟩ | ⟨hc, h⟩⟩ <;> simp [h]

@[simp] theorem Bar.passDeadline_cls (d : Deadline) (bar : Bar) : (bar.passDeadline d).cls = bar.cls := by
  rcases bar.passDeadline_cases d with h | ⟨c, -, ⟨hc, h⟩ | ⟨hc, h⟩⟩ <;> simp [h]

theorem Bar.passDeadline_idle_iff (d : Deadline) (bar : Bar) :
    (bar.passDeadline d).handshake = .idle ↔ bar.handshake = .idle := by
  rcases bar.passDeadline_cases d with h | ⟨c, -, ⟨hc, h⟩ | ⟨hc, h⟩⟩ <;> simp [*]

theorem Bar.passDeadline_of_lost {d : Deadline} {bar : Bar} (h : bar.handshake = .lost) : bar.passDeadline d = bar :=
  Bar.passDeadline_of_not (by rintro ⟨c, hc | hc, -⟩ <;> simp [h] at hc)

/-- R114: where no order has the deadline, its crossing does nothing. -/
theorem deadlineCrossing_none {d : Deadline} {s : State} (h : ∀ b, b < s.bars.length → ¬(s.bar b).Due d) :
    s.deadlineCrossing d = s := by
  unfold State.deadlineCrossing
  rw [if_neg]
  rw [any_bars]
  rintro ⟨b, hb, hd⟩
  exact h b hb ((Bar.hasDeadline_iff d _).mp hd)

theorem deadlineCrossing_some {d : Deadline} {s : State} {b : Nat} (hb : b < s.bars.length) (h : (s.bar b).Due d) :
    s.deadlineCrossing d =
      (State.setCause .late { s with bars := s.bars.map (Bar.passDeadline d) }).raise .late :=
  if_pos (any_bars.mpr ⟨b, hb, (Bar.hasDeadline_iff d _).mpr h⟩)

theorem State.bar_of_due {d : Deadline} {s : State} {b : Nat} (h : (s.bar b).Due d) : b < s.bars.length := by
  by_contra hb
  rw [State.bar_beyond (by omega)] at h
  obtain ⟨c, hc | hc, -⟩ := h <;> cases hc

/-- A stop cause leaves the bars and lanes. -/
@[simp] theorem State.setCause_bars (c : StopCause) (s : State) : (s.setCause c).bars = s.bars := by
  simp [State.setCause, State.watchStop]

@[simp] theorem State.setCause_lanes (c : StopCause) (s : State) : (s.setCause c).lanes = s.lanes := by
  simp [State.setCause, State.watchStop]

theorem deadlineCrossing_bar (d : Deadline) (s : State) (b : Nat) :
    (s.deadlineCrossing d).bar b = (s.bar b).passDeadline d := by
  by_cases h : ∃ n, n < s.bars.length ∧ (s.bar n).Due d
  · obtain ⟨n, hn, hd⟩ := h
    rw [deadlineCrossing_some hn hd]
    exact bar_of_map (s := s) (by simp) rfl
  · rw [deadlineCrossing_none fun n hn hd => h ⟨n, hn, hd⟩, Bar.passDeadline_of_not]
    intro hd
    exact h ⟨b, State.bar_of_due hd, hd⟩

@[simp] theorem deadlineCrossing_lanes (d : Deadline) (s : State) : (s.deadlineCrossing d).lanes = s.lanes := by
  unfold State.deadlineCrossing
  split <;> simp

@[simp] theorem deadlineCrossing_bars_length (d : Deadline) (s : State) :
    (s.deadlineCrossing d).bars.length = s.bars.length := by
  unfold State.deadlineCrossing
  split <;> simp

/-- In run control a crossed deadline touches the cause LATE alone. -/
theorem deadlineCrossing_run (d : Deadline) (s : State) : (s.deadlineCrossing d).run =
    { s.run with causes := { s.run.causes with late := (s.deadlineCrossing d).run.causes.late } } := by
  unfold State.deadlineCrossing
  split
  · simp [StopCauses.add]
  · rfl

/-- R114: an order that misses its deadline sets and raises LATE, with STOP_REQUEST where the output was released. -/
theorem deadlineCrossing_late {d : Deadline} {s : State} {b : Nat} (hb : b < s.bars.length) (h : (s.bar b).Due d) :
    (s.deadlineCrossing d).run.causes.late = true ∧ BothShow .late (s.deadlineCrossing d) ∧
      (s.stopRequested = false → BothShow .stopRequest (s.deadlineCrossing d)) := by
  rw [deadlineCrossing_some hb h]
  refine ⟨by simp [StopCauses.add], bothShow_raise _ _, fun released => ?_⟩
  refine (bothShow_raiseIf ?_ .stopRequest _).mono (raise_runSide .late _).ports
  simp only [State.stopRequested, Bool.or_eq_false_iff] at released ⊢
  simp_all [StopCauses.any, StopCauses.add]

theorem deadlinesFrom_eq {a a' : Nat} {s : State} (hk : validConstants s.constants = true) (ha : a' ≤ a + 11) :
    s.deadlinesFrom a a' =
      if a < s.constants.overlapEnd ∧ s.constants.overlapEnd ≤ a' then s.deadlineCrossing .overlapEnd
      else if a < s.constants.underlapEnd ∧ s.constants.underlapEnd ≤ a' then s.deadlineCrossing .underlapEnd else s := by
  have apart := groups_apart hk (show 0 < 4 by omega)
  unfold State.deadlinesFrom
  dsimp only
  split
  · rw [if_neg]
    rw [(deadlineCrossing_runSide _ s).constants]
    omega
  · rfl

/-! ### The count taken (R1, R135) -/

/-- The count is taken by the tracker and told to run control. -/
def State.counted (dir : Direction) (t : Nat) (s : State) : State :=
  State.reportCount { s with tracker := s.tracker.count s.constants.counts t dir }

theorem counted_runSide (dir : Direction) (t : Nat) (s : State) :
    RunSide { s with tracker := s.tracker.count s.constants.counts t dir } (s.counted dir t) := reportCount_runSide _

theorem counted_of_not_placing {s : State} (h : s.run.state ≠ .placing) (dir : Direction) (t : Nat) :
    s.counted dir t = { s with tracker := s.tracker.count s.constants.counts t dir } := if_neg h

/-- R135: a count in PLACING is the hard fault DISTURBED. -/
theorem counted_of_placing {s : State} (h : s.run.state = .placing) (dir : Direction) (t : Nat) :
    s.counted dir t = State.enterFaulted .disturbed none s.headCourse
      { s with tracker := s.tracker.count s.constants.counts t dir } := by
  unfold State.counted State.reportCount
  rw [if_pos h]
  unfold State.hardFault
  rw [show ({ s with tracker := s.tracker.count s.constants.counts t dir } : State).run.state = .placing from h]
  rfl

/-- The forward count after the deadlines it passes. -/
def State.pastDeadlines (t : Nat) (s : State) : State :=
  (s.counted .forward t).deadlinesFrom s.startAngle s.reach

theorem pastDeadlines_runSide (t : Nat) (s : State) :
    RunSide { s with tracker := s.tracker.count s.constants.counts t .forward } (s.pastDeadlines t) :=
  (counted_runSide .forward t s).trans (deadlinesFrom_runSide _ _ _)

theorem pastDeadlines_of_passes {d : Deadline} {s : State} (hk : validConstants s.constants = true) (h : s.passes d)
    (t : Nat) : s.pastDeadlines t = (s.counted .forward t).deadlineCrossing d := by
  have constants := (counted_runSide .forward t s).constants
  have apart := groups_apart hk (show 0 < 4 by omega)
  have reach := s.reach_le hk
  rw [State.pastDeadlines, deadlinesFrom_eq (by rwa [constants]) reach, constants]
  dsimp only
  unfold State.passes at h
  cases d <;> simp only [deadlineAngle] at h
  · rw [if_pos h]
  · rw [if_neg (by omega), if_pos h]

theorem pastDeadlines_of_not {s : State} (h : ∀ d, ¬s.passes d) (t : Nat) :
    s.pastDeadlines t = s.counted .forward t := by
  have constants := (counted_runSide .forward t s).constants
  have overlap := h .overlapEnd
  have underlap := h .underlapEnd
  unfold State.passes at overlap underlap
  simp only [deadlineAngle] at overlap underlap
  unfold State.pastDeadlines State.deadlinesFrom
  dsimp only
  rw [constants, if_neg overlap, constants, if_neg underlap]

/-- A forward count with the angle valid: the deadlines, the zones and, at the wrap, the boundary (R7). -/
theorem takeCount_forward {s : State} (hk : validConstants s.constants = true) (valid : s.tracker.angleValid = true)
    (t : Nat) : s.takeCount .forward t =
      if s.tracker.counter + 1 < s.constants.counts then (s.pastDeadlines t).crossings s.entered
      else (s.pastDeadlines t).forwardBoundary t := by
  have side := counted_runSide .forward t s
  have constants : (s.counted .forward t).constants = s.constants := side.constants
  have counter : (s.counted .forward t).tracker.counter = countFrom s.constants.counts s.tracker.counter .forward := by
    rw [side.tracker]
    rfl
  have past : (s.pastDeadlines t).constants = s.constants := (pastDeadlines_runSide t s).constants
  unfold State.takeCount
  dsimp only
  rw [if_pos valid]
  change (s.counted .forward t).crossForward s.tracker.counter t = _
  unfold State.crossForward
  dsimp only
  rw [constants, counter]
  by_cases short : s.tracker.counter + 1 < s.constants.counts
  · have reach : wrapAngle s.constants.counts (countFrom s.constants.counts s.tracker.counter .forward)
        (wraps s.constants.counts s.tracker.counter .forward) = s.reach := by
      simp [wrapAngle, wraps, countFrom, State.reach, short]
    rw [reach, if_pos short, if_neg (by simp [wraps, short])]
    change (List.range 4).foldl (State.zonesForward s.startAngle s.reach) (s.pastDeadlines t) = _
    rw [zonesForward_fold (by rwa [past]) (s.reach_le hk), past]
    rfl
  · have reach : wrapAngle s.constants.counts (countFrom s.constants.counts s.tracker.counter .forward)
        (wraps s.constants.counts s.tracker.counter .forward) = s.reach := by
      simp [wrapAngle, wraps, State.reach, short, Nat.le_of_not_lt short]
    rw [reach, if_neg short, if_pos (by simpa [wraps] using short)]
    change State.forwardBoundary t ((List.range 4).foldl (State.zonesForward s.startAngle s.reach) (s.pastDeadlines t)) = _
    rw [zonesForward_fold (by rwa [past]) (s.reach_le hk), past]
    change State.forwardBoundary t ((s.pastDeadlines t).crossings s.entered) = _
    rw [crossings_none (entered_wrap hk short)]

/-- A reverse count with the angle valid: at the wrap the boundary, then the zones (R7). -/
theorem takeCount_reverse {s : State} (hk : validConstants s.constants = true) (valid : s.tracker.angleValid = true)
    (t : Nat) : s.takeCount .reverse t =
      if s.tracker.counter = 0 then (s.counted .reverse t).backwardBoundary
      else (s.counted .reverse t).crossings s.left := by
  have side := counted_runSide .reverse t s
  have constants : (s.counted .reverse t).constants = s.constants := side.constants
  have counter : (s.counted .reverse t).tracker.counter = countFrom s.constants.counts s.tracker.counter .reverse := by
    rw [side.tracker]
    rfl
  have reach : angleOf (countFrom s.constants.counts s.tracker.counter .reverse) s.constants.counts = s.backReach := rfl
  have start : wrapAngle s.constants.counts s.tracker.counter (wraps s.constants.counts s.tracker.counter .reverse) =
      s.backStart := by
    simp [wrapAngle, wraps, State.backStart, State.startAngle]
  have bounds := s.backStart_le hk
  unfold State.takeCount
  dsimp only
  rw [if_pos valid]
  change (s.counted .reverse t).crossReverse s.tracker.counter = _
  unfold State.crossReverse
  dsimp only
  rw [constants, counter, start, reach]
  by_cases wrap : s.tracker.counter = 0
  · have after : (s.counted .reverse t).backwardBoundary.constants = s.constants :=
      (backwardBoundary_shaftSide _).constants.trans constants
    rw [if_pos wrap, if_pos (by simp [wraps, wrap]), zonesReverse_fold (by rwa [after]) bounds, after]
    exact crossings_none (left_wrap hk wrap) _
  · rw [if_neg wrap, if_neg (by simp [wraps, wrap]), zonesReverse_fold (by rwa [constants]) bounds, constants]
    rfl

theorem takeCount_invalid {s : State} (h : s.tracker.angleValid = false) (dir : Direction) (t : Nat) :
    s.takeCount dir t = s.counted dir t := by
  unfold State.takeCount
  dsimp only
  rw [if_neg (by simp [h])]
  rfl

/-- ENCODER_COUNT with the source ENCODER and the reset input released. -/
theorem exec_encoderCount {time : Nat} {s : State} (held : s.resetHeld = false) (later : s.now ≤ time)
    (source : s.tracker.source = .encoder) :
    exec (.encoderCount .forward time) s = .next (State.takeCount .forward time { s with now := time }) ∧
      exec (.encoderCount .reverse time) s = .next (State.takeCount .reverse time { s with now := time }) := by
  have run (e : Edge) : exec (.encoderCount e time) s = execEncoderCount e time s := rfl
  rw [run, run]
  unfold execEncoderCount State.unlessHeld
  rw [State.elapse_eq later]
  simp [held, source]

/-- What the shaft side of the part may change, as a statement says it. -/
theorem ShaftSide.only {s t : State} (h : ShaftSide s t) : OnlyShaftSide s t := by
  have memory := h.memory
  refine ⟨?_, fun p => ?_, fun a => by rw [memory]⟩
  · obtain ⟨pending, now, resetHeld, constants, memory, regions, segments, sequence, classes, engine, -⟩ := h
    cases s
    cases t
    simp_all
  · obtain ⟨transaction, slot, discard, mask, deaf, shiftedOut, events⟩ := h.ports p
    refine ⟨?_, events⟩
    cases hx : s.port p
    cases hy : t.port p
    simp_all

end Sys2Proof.Machine
end


section
/-! What a boundary leaves: the bars and lanes, but for the purge of a hard fault, the cause LATE, and FAULTED. -/

namespace Sys2Proof.Machine

/-! ### Hard faults -/

@[simp] theorem State.enterFaulted_bars (k : FaultKind) (b c : Option Nat) (s : State) :
    (s.enterFaulted k b c).bars = s.bars.map Bar.purge := by
  simp [State.enterFaulted, State.watchStop]

@[simp] theorem State.enterFaulted_lanes (k : FaultKind) (b c : Option Nat) (s : State) :
    (s.enterFaulted k b c).lanes = s.lanes.map Lane.purge := by
  simp [State.enterFaulted, State.watchStop]

theorem bothShow_enterFaulted (k : FaultKind) (b c : Option Nat) (s : State) : BothShow .fault (s.enterFaulted k b c) :=
  bothShow_raise .fault _

theorem stopRequest_enterFaulted {s : State} (h : s.stopRequested = false) (k : FaultKind) (b c : Option Nat) :
    BothShow .stopRequest (s.enterFaulted k b c) := by
  refine (bothShow_raiseIf ?_ .stopRequest _).mono fun p =>
    ((purge_runSide _).ports p).trans ((raise_runSide .fault _).ports p)
  rw [h]
  rfl

theorem State.enterFaulted_outstanding (k : FaultKind) (b c : Option Nat) (s : State) (n : Nat) :
    ((s.enterFaulted k b c).bar n).outstanding = false := by
  rw [bar_of_map (State.enterFaulted_bars k b c s) rfl]
  exact Bar.purge_outstanding _

theorem State.enterFaulted_lane (k : FaultKind) (b c : Option Nat) (s : State) (g : Nat) :
    ((s.enterFaulted k b c).lane g).queue = [] ∧ ((s.enterFaulted k b c).lane g).awaiting = false := by
  rw [lane_of_map (State.enterFaulted_lanes k b c s) rfl]
  exact ⟨rfl, rfl⟩

/-- R137: in FAULTED a hard fault sets "more". -/
theorem State.hardFault_faulted {s : State} (h : s.run.state = .faulted) (k : FaultKind) (b c : Option Nat) :
    s.hardFault k b c = s.faultMore := by
  simp [State.hardFault, h]

/-! ### What steps of a boundary leave -/

/-- The bars, the lanes, the sequencer state, the fault record and the cause LATE stand as they stood. -/
structure Unmoved (s t : State) : Prop where
  bars : t.bars = s.bars
  lanes : t.lanes = s.lanes
  state : t.run.state = s.run.state
  fault : t.run.fault = s.run.fault
  late : t.run.causes.late = s.run.causes.late

/-- FAULTED is kept, with its fault record but for "more" (R137). -/
def FaultKept (s t : State) : Prop :=
  s.run.state = .faulted → t.run.state = .faulted ∧
    (t.run.fault = s.run.fault ∨ t.run.fault = s.run.fault.map fun f => { f with more := true })

theorem FaultKept.of_same {s t : State} (state : t.run.state = s.run.state) (fault : t.run.fault = s.run.fault) :
    FaultKept s t := fun h => ⟨state.trans h, .inl fault⟩

theorem FaultKept.trans {s t u : State} (h : FaultKept s t) (k : FaultKept t u) : FaultKept s u := by
  intro hs
  obtain ⟨ht, fault⟩ := h hs
  obtain ⟨hu, fault'⟩ := k ht
  refine ⟨hu, ?_⟩
  rcases fault' with e | e <;> rcases fault with e' | e' <;> simp [e, e', Function.comp_def]

/-- What a boundary does at most: the bars and lanes stand, or a hard fault has purged them; the cause LATE stands; and
FAULTED is kept, with its record but for "more". -/
structure BoundaryLeaves (s t : State) : Prop where
  late : t.run.causes.late = s.run.causes.late
  bars : (t.bars = s.bars ∧ t.lanes = s.lanes) ∨
    (t.bars = s.bars.map Bar.purge ∧ (s.run.state = .running ∨ s.run.state = .placing) ∧ t.run.state = .faulted)
  faulted : FaultKept s t

theorem Unmoved.leaves {s t : State} (h : Unmoved s t) : BoundaryLeaves s t :=
  ⟨h.late, .inl ⟨h.bars, h.lanes⟩, .of_same h.state h.fault⟩

theorem Unmoved.trans_leaves {s t u : State} (h : Unmoved s t) (k : BoundaryLeaves t u) : BoundaryLeaves s u := by
  obtain ⟨bars, lanes, state, fault, late⟩ := h
  obtain ⟨late', bars', faulted⟩ := k
  rw [bars, lanes, state] at bars'
  exact ⟨late'.trans late, bars', (FaultKept.of_same state fault).trans faulted⟩

theorem BoundaryLeaves.raiseIf {s t : State} (h : BoundaryLeaves s t) (c : Bool) (e : Event) :
    BoundaryLeaves s (t.raiseIf c e) := by
  obtain ⟨late, bars, faulted⟩ := h
  exact ⟨by simpa using late, by simpa using bars, faulted.trans (.of_same (by simp) (by simp))⟩

theorem hardFault_leaves (k : FaultKind) (c : Option Nat) (s : State) : BoundaryLeaves s (s.hardFault k none c) := by
  have entered (h : s.run.state = .running ∨ s.run.state = .placing) : BoundaryLeaves s (s.enterFaulted k none c) :=
    ⟨by simp, .inr ⟨by simp, h, by simp⟩, fun hs => by simp [hs] at h⟩
  unfold State.hardFault
  cases h : s.run.state with
  | placing => exact entered (.inr h)
  | running => exact entered (.inl h)
  | ended | halted => exact Unmoved.leaves ⟨rfl, rfl, rfl, rfl, rfl⟩
  | faulted => exact ⟨rfl, .inl ⟨rfl, rfl⟩, fun _ => ⟨h, .inr rfl⟩⟩

theorem overrunForward_unmoved (s : State) : Unmoved s s.overrunForward := by
  constructor <;> simp [State.overrunForward, StopCauses.add]

theorem headLeaves_unmoved (r : Record) (rest : List Record) (s : State) : Unmoved s (s.headLeaves r rest) := by
  unfold State.headLeaves
  split
  · constructor <;> simp [StopCauses.add]
  · exact ⟨rfl, rfl, rfl, rfl, rfl⟩

theorem endArticle_leaves (s : State) : BoundaryLeaves s s.endArticle := by
  unfold State.endArticle
  split
  · next h => exact ⟨rfl, .inl ⟨rfl, rfl⟩, fun hs => by simp [h] at hs⟩
  · exact Unmoved.leaves ⟨rfl, rfl, rfl, rfl, rfl⟩

theorem advanceQueue_leaves (s : State) : BoundaryLeaves s s.advanceQueue := by
  unfold State.advanceQueue
  split
  · split
    · exact (overrunForward_unmoved s).leaves
    · exact hardFault_leaves _ _ s
  · split
    · exact (headLeaves_unmoved _ _ s).trans_leaves (endArticle_leaves _)
    · exact (headLeaves_unmoved _ _ s).trans_leaves (hardFault_leaves _ _ _)
  · exact (headLeaves_unmoved _ _ s).leaves

/-- R93: what the queue's forward boundary leaves. -/
theorem queueForward_leaves (s : State) : BoundaryLeaves s s.queueForward := by
  unfold State.queueForward
  split
  · exact Unmoved.leaves ⟨rfl, rfl, rfl, rfl, rfl⟩
  · exact (overrunForward_unmoved s).leaves
  · split
    · exact Unmoved.leaves ⟨rfl, rfl, rfl, rfl, rfl⟩
    · exact advanceQueue_leaves s

theorem discardTail_unmoved (s : State) : Unmoved s s.discardTail := by
  unfold State.discardTail
  split <;> exact ⟨rfl, rfl, rfl, rfl, rfl⟩

theorem restore_unmoved (s : State) : Unmoved s s.restore := by
  unfold State.restore
  split
  · exact ⟨rfl, rfl, rfl, rfl, rfl⟩
  · next r rest _ =>
    dsimp only
    split
    · obtain ⟨bars, lanes, state, fault, late⟩ := discardTail_unmoved
        { s with queue := { s.queue with records := r :: s.queue.records, history := rest } }
      exact ⟨bars, lanes, state, fault, late⟩
    · split <;> exact ⟨rfl, rfl, rfl, rfl, rfl⟩

theorem retreat_leaves (s : State) : BoundaryLeaves s s.retreat := by
  have counted : Unmoved s ((State.setCause .backoff
      { s with queue := { s.queue with backlog := min 255 (s.queue.backlog + 1) } }).raise .backoff) := by
    constructor <;> simp [StopCauses.add]
  unfold State.retreat
  dsimp only
  split
  · exact counted.trans_leaves (hardFault_leaves _ _ _)
  · exact counted.leaves

theorem overrunBackward_leaves (s : State) : BoundaryLeaves s s.overrunBackward := by
  unfold State.overrunBackward
  split
  · exact Unmoved.leaves ⟨rfl, rfl, rfl, rfl, rfl⟩
  · split
    · exact Unmoved.leaves ⟨rfl, rfl, rfl, rfl, rfl⟩
    · split
      · next h =>
        obtain ⟨bars, lanes, -, -, -⟩ := restore_unmoved s
        exact ⟨rfl, .inl ⟨bars, lanes⟩, fun hs => by simp [h] at hs⟩
      · exact (restore_unmoved s).leaves

/-- R99: what the queue's backward boundary leaves. -/
theorem queueBackward_leaves (s : State) : BoundaryLeaves s s.queueBackward := by
  unfold State.queueBackward
  split
  · exact Unmoved.leaves ⟨rfl, rfl, rfl, rfl, rfl⟩
  · exact overrunBackward_leaves s
  · split
    · exact overrunBackward_leaves s
    · split
      · exact retreat_leaves s
      · exact (restore_unmoved s).leaves

theorem forwardBoundary_leaves (t : Nat) (s : State) : BoundaryLeaves s (s.forwardBoundary t) := by
  have measured : Unmoved s { s with tracker := s.tracker.measure t } := ⟨rfl, rfl, rfl, rfl, rfl⟩
  exact measured.trans_leaves ((queueForward_leaves _).raiseIf _ _)

theorem backwardBoundary_leaves (s : State) : BoundaryLeaves s s.backwardBoundary := (queueBackward_leaves s).raiseIf _ _

/-- No bar's order has this deadline. -/
def State.NoneDue (d : Deadline) (s : State) : Prop := ∀ n, ¬(s.bar n).Due d

/-- A boundary makes no order due. -/
theorem BoundaryLeaves.not_due {s t : State} (h : BoundaryLeaves s t) {d : Deadline} (k : s.NoneDue d) : t.NoneDue d := by
  intro n
  rcases h.bars with ⟨bars, -⟩ | ⟨bars, -⟩
  · rw [State.bar, bars]
    exact k n
  · rw [bar_of_map bars rfl]
    have purged := Bar.purge_outstanding (s.bar n)
    rintro ⟨c, hc | hc, -⟩ <;> simp [Bar.outstanding, Handshake.chain?, hc] at purged

/-! ### What the crossings of a count leave -/

/-- The crossings of a count leave the cause LATE. -/
theorem crossings_late {f : Nat → Option Crossing} {s : State}
    (uniform : ∀ g, g < 4 → ∀ g', g' < 4 → ∀ x y, f g = some x → f g' = some y → x = y) :
    (s.crossings f).run.causes = s.run.causes := by
  by_cases active : s.run.state = .running ∧ s.queue.backlog = 0
  · rcases crossable_or_dry active.1 active.2 uniform with crossable | dry
    · rw [crossings_run crossable]
    · rw [crossings_dry active dry]
      split <;> simp
  · rw [crossings_quiet active]

/-- A posting makes no order due but at its own deadline. -/
theorem State.post_not_due {b n : Nat} {o : Order} {d : Deadline} {s : State} (h : ¬(s.bar n).Due d)
    (ho : o.deadline ≠ some d) : ¬((s.post b o).bar n).Due d := by
  by_cases hn : n = b
  · subst hn
    by_cases hb : n < s.bars.length
    · unfold State.post State.dryAnswer State.postWet State.setPosted
      dsimp only
      repeat' split
      all_goals simp_all [State.bar_setBar s _ hb, Bar.Due, Chain.begin]
    · intro due
      have := State.bar_of_due due
      rw [(State.post_lengths n o s).1] at this
      exact hb this
  · rwa [State.post_bar_ne o s hn]

/-- An order with another deadline, and a crossing of such orders, make no order due. -/
theorem orderAtCrossing_not_due {g b : Nat} {x : Crossing} {d : Deadline} (hx : x.deadline ≠ some d) {s : State}
    (h : s.NoneDue d) : (s.orderAtCrossing g x b).NoneDue d := by
  intro n
  cases ho : s.ordersAt g x b with
  | false => rw [orderAtCrossing_not ho]; exact h n
  | true =>
    obtain ⟨t, ht⟩ := State.target_of_ordersAt ho
    rw [orderAtCrossing_orders ho ht]
    refine State.post_not_due ?_ hx
    rw [(raiseIf_aside n _ _ s).bar]
    exact h n

theorem zoneCrossing_not_due {g : Nat} {x : Crossing} {d : Deadline} (hx : x.deadline ≠ some d) {s : State}
    (h : s.NoneDue d) : (s.zoneCrossing g x).NoneDue d := by
  unfold State.zoneCrossing
  split
  · split
    · exact foldl_rel (R := fun u t => u.NoneDue d → t.NoneDue d) (fun _ => id) (fun h k hu => k (h hu)) (List.range 48)
        (fun b _ u hu => orderAtCrossing_not_due hx hu) s h
    · split
      · exact (hardFault_leaves _ _ s).not_due h
      · exact h
  · exact h

/-- Crossings whose orders have another deadline make no order due. -/
theorem crossings_not_due {f : Nat → Option Crossing} {d : Deadline} {s : State} (h : s.NoneDue d)
    (other : ∀ g x, g < 4 → f g = some x → x.deadline ≠ some d) : (s.crossings f).NoneDue d := by
  refine foldl_rel (f := State.takeCrossing f) (R := fun u t => u.NoneDue d → t.NoneDue d) (fun _ => id)
    (fun h k hu => k (h hu)) (List.range 4) (fun g hg u hu => ?_) s h
  cases hx : f g with
  | none => rwa [takeCrossing_none hx]
  | some x =>
    rw [takeCrossing_some hx]
    exact zoneCrossing_not_due (other g x (List.mem_range.mp hg) hx) hu

end Sys2Proof.Machine
end


section
/-! ENCODER_COUNT: the counter, the motion state, the deadlines it crosses, and the counts that post no order. -/

namespace Sys2Proof.Machine

/-! ### The tracker and FAULTED over a count -/

@[simp] theorem State.setCause_tracker (c : StopCause) (s : State) : (s.setCause c).tracker = s.tracker :=
  (setCause_runSide c s).tracker

@[simp] theorem State.hardFault_tracker (k : FaultKind) (b c : Option Nat) (s : State) :
    (s.hardFault k b c).tracker = s.tracker := (hardFault_runSide k b c s).tracker

@[simp] theorem State.overrunForward_tracker (s : State) : s.overrunForward.tracker = s.tracker := by
  simp [State.overrunForward]

@[simp] theorem State.headLeaves_tracker (r : Record) (rest : List Record) (s : State) :
    (s.headLeaves r rest).tracker = s.tracker := by
  unfold State.headLeaves
  split <;> simp

@[simp] theorem State.endArticle_tracker (s : State) : s.endArticle.tracker = s.tracker := by
  unfold State.endArticle
  split <;> rfl

@[simp] theorem State.queueForward_tracker (s : State) : s.queueForward.tracker = s.tracker := by
  unfold State.queueForward State.advanceQueue
  split
  · rfl
  · simp
  · split
    · rfl
    · split
      · split <;> simp
      · split <;> simp
      · simp

@[simp] theorem State.discardTail_tracker (s : State) : s.discardTail.tracker = s.tracker := by
  unfold State.discardTail
  split <;> rfl

@[simp] theorem State.restore_tracker (s : State) : s.restore.tracker = s.tracker := by
  unfold State.restore
  split
  · rfl
  · dsimp only
    split
    · exact State.discardTail_tracker _
    · split <;> rfl

@[simp] theorem State.retreat_tracker (s : State) : s.retreat.tracker = s.tracker := by
  unfold State.retreat
  dsimp only
  split <;> simp

@[simp] theorem State.overrunBackward_tracker (s : State) : s.overrunBackward.tracker = s.tracker := by
  unfold State.overrunBackward
  split
  · rfl
  · split
    · rfl
    · split
      · exact State.restore_tracker s
      · exact State.restore_tracker s

@[simp] theorem State.queueBackward_tracker (s : State) : s.queueBackward.tracker = s.tracker := by
  unfold State.queueBackward
  split
  · rfl
  · simp
  · split
    · simp
    · split <;> simp

@[simp] theorem State.forwardBoundary_tracker (t : Nat) (s : State) :
    (s.forwardBoundary t).tracker = s.tracker.measure t := by
  simp [State.forwardBoundary, State.watchCeiling]

@[simp] theorem State.backwardBoundary_tracker (s : State) : s.backwardBoundary.tracker = s.tracker := by
  simp [State.backwardBoundary, State.watchCeiling]

theorem deadlinesFrom_faultKept (a a' : Nat) (s : State) : FaultKept s (s.deadlinesFrom a a') := by
  have one (d : Deadline) (u : State) : FaultKept u (u.deadlineCrossing d) :=
    .of_same (by rw [deadlineCrossing_run]) (by rw [deadlineCrossing_run])
  unfold State.deadlinesFrom
  dsimp only
  split
  · split
    · exact (one _ _).trans (one _ _)
    · exact one _ _
  · split
    · exact one _ _
    · exact .of_same rfl rfl

/-- In FAULTED the zones' crossings do nothing. -/
theorem zones_faultKept {f : State → Nat → State} (one : ∀ u g, u.run.state = .faulted → f u g = u) (l : List Nat)
    (s : State) : FaultKept s (l.foldl f s) :=
  foldl_rel (R := FaultKept) (fun _ => .of_same rfl rfl) (.trans) l
    (fun g _ u h => by rw [one u g h]; exact ⟨h, .inl rfl⟩) s

theorem zoneCrossing_faulted {s : State} (h : s.run.state = .faulted) (g : Nat) (x : Crossing) :
    s.zoneCrossing g x = s := zoneCrossing_quiet (by simp [h]) g x

theorem crossForward_faultKept (c t : Nat) (s : State) : FaultKept s (s.crossForward c t) := by
  have zones (a a' : Nat) (u : State) : FaultKept u ((List.range 4).foldl (State.zonesForward a a') u) :=
    zones_faultKept (fun u g h => by
      unfold State.zonesForward
      dsimp only
      rw [zoneCrossing_faulted h, ite_self, zoneCrossing_faulted h, ite_self]) _ u
  unfold State.crossForward
  dsimp only
  split
  · exact ((deadlinesFrom_faultKept _ _ s).trans (zones _ _ _)).trans (forwardBoundary_leaves t _).faulted
  · exact (deadlinesFrom_faultKept _ _ s).trans (zones _ _ _)

theorem crossReverse_faultKept (c : Nat) (s : State) : FaultKept s (s.crossReverse c) := by
  have zones (a a' : Nat) (u : State) : FaultKept u ((List.range 4).foldl (State.zonesReverse a a') u) :=
    zones_faultKept (fun u g h => by
      unfold State.zonesReverse
      dsimp only
      rw [zoneCrossing_faulted h, ite_self, zoneCrossing_faulted h, ite_self]) _ u
  unfold State.crossReverse
  dsimp only
  split
  · exact (backwardBoundary_leaves s).faulted.trans (zones _ _ _)
  · exact zones _ _ s

/-- From the count told to run control, the rest of it keeps FAULTED and only raises events. -/
theorem takeCount_faultKept (dir : Direction) (t : Nat) (s : State) : FaultKept (s.counted dir t) (s.takeCount dir t) := by
  unfold State.takeCount
  dsimp only
  split
  · cases dir with
    | forward => exact crossForward_faultKept _ _ _
    | reverse => exact crossReverse_faultKept _ _
  · exact .of_same rfl rfl

theorem takeCount_from_counted (dir : Direction) (t : Nat) (s : State) :
    ShaftSide (s.counted dir t) (s.takeCount dir t) := by
  unfold State.takeCount
  dsimp only
  split
  · cases dir with
    | forward => exact crossForward_shaftSide _ _ _
    | reverse => exact crossReverse_shaftSide _ _
  · exact .refl _

/-- The tracker after a count: the count, and at a forward wrap with the angle valid the period measurement (R1, R9). -/
theorem takeCount_tracker (dir : Direction) (t : Nat) (s : State) : (s.takeCount dir t).tracker =
    if s.tracker.angleValid = true ∧ dir = .forward ∧ ¬s.tracker.counter + 1 < s.constants.counts then
      (s.tracker.count s.constants.counts t dir).measure t
    else s.tracker.count s.constants.counts t dir := by
  have side := counted_runSide dir t s
  have counted : (s.counted dir t).tracker = s.tracker.count s.constants.counts t dir := side.tracker
  have constants : (s.counted dir t).constants = s.constants := side.constants
  by_cases valid : s.tracker.angleValid = true
  · cases dir with
    | forward =>
      have zones (a a' : Nat) : ((List.range 4).foldl (State.zonesForward a a')
          ((s.counted .forward t).deadlinesFrom a a')).tracker = s.tracker.count s.constants.counts t .forward :=
        ((deadlinesFrom_runSide a a' _).trans (.foldl (zonesForward_runSide a a') _ _)).tracker.trans counted
      unfold State.takeCount
      dsimp only
      rw [if_pos valid]
      change ((s.counted .forward t).crossForward s.tracker.counter t).tracker = _
      unfold State.crossForward
      dsimp only
      rw [constants]
      by_cases short : s.tracker.counter + 1 < s.constants.counts
      · rw [if_neg (by simp [wraps, short]), if_neg (by simp [short])]
        exact zones _ _
      · rw [if_pos (by simpa [wraps] using short), if_pos ⟨valid, rfl, short⟩, State.forwardBoundary_tracker]
        rw [zones]
    | reverse =>
      unfold State.takeCount
      dsimp only
      rw [if_pos valid, if_neg (by simp)]
      change ((s.counted .reverse t).crossReverse s.tracker.counter).tracker = _
      unfold State.crossReverse
      dsimp only
      rw [(RunSide.foldl (zonesReverse_runSide _ _) _ _).tracker]
      split
      · rw [State.backwardBoundary_tracker, counted]
      · exact counted
  · rw [if_neg (by simp [valid]), takeCount_invalid (by simpa using valid)]
    exact counted

/-- R9: the period measurement at a forward boundary. -/
theorem Tracker.measure_eq (t : Nat) (k : Tracker) : k.measure t = { k with
    startTime := some t
    period := match k.startTime with
      | none => k.period
      | some t0 => some (min (t - t0) 16777215) } := by
  unfold Tracker.measure
  cases k.startTime <;> rfl

/-- R1, R8: what a count does to the tracker, but for the period measurement. -/
theorem takeCount_moves (dir : Direction) (t : Nat) (s : State) :
    (s.takeCount dir t).tracker.counter = countFrom s.constants.counts s.tracker.counter dir ∧
      (s.takeCount dir t).tracker.motion = (match dir with
        | .forward => .forward
        | .reverse => .reverse) ∧
      (s.takeCount dir t).tracker.stillTimer = some t ∧
      { (s.takeCount dir t).tracker with
        counter := s.tracker.counter, motion := s.tracker.motion, stillTimer := s.tracker.stillTimer,
        startTime := s.tracker.startTime, period := s.tracker.period } = s.tracker := by
  rw [takeCount_tracker]
  split
  · rw [Tracker.measure_eq]
    cases dir <;> exact ⟨rfl, rfl, rfl, rfl⟩
  · cases dir <;> exact ⟨rfl, rfl, rfl, rfl⟩

/-- R9: a reverse count clears the period measurement; a forward one that crosses no boundary leaves it. -/
theorem takeCount_reverse_period (t : Nat) (s : State) :
    (s.takeCount .reverse t).tracker.startTime = none ∧ (s.takeCount .reverse t).tracker.period = none := by
  rw [takeCount_tracker, if_neg (by simp)]
  exact ⟨rfl, rfl⟩

theorem takeCount_forward_period {t : Nat} {s : State}
    (h : s.tracker.angleValid = false ∨ s.tracker.counter + 1 < s.constants.counts) :
    (s.takeCount .forward t).tracker.startTime = s.tracker.startTime ∧
      (s.takeCount .forward t).tracker.period = s.tracker.period := by
  rw [takeCount_tracker, if_neg (by rcases h with h | h <;> simp [h])]
  exact ⟨rfl, rfl⟩

/-- R135: a count in PLACING is the hard fault DISTURBED, and what follows keeps its record but for "more". -/
theorem takeCount_placing {s : State} (h : s.run.state = .placing) (dir : Direction) (t : Nat) :
    (s.takeCount dir t).run.state = .faulted ∧ BothShow .fault (s.takeCount dir t) ∧
      ∃ more angle, (s.takeCount dir t).run.fault = some
        { kind := .disturbed, bar := none, course := s.headCourse, angle := angle, more := more } := by
  have counted := counted_of_placing h dir t
  obtain ⟨state, fault⟩ := takeCount_faultKept dir t s (by rw [counted]; simp)
  have shows := (bothShow_enterFaulted .disturbed none s.headCourse
    { s with tracker := s.tracker.count s.constants.counts t dir })
  rw [← counted] at shows
  refine ⟨state, shows.mono (takeCount_from_counted dir t s).ports, ?_⟩
  rw [counted, State.enterFaulted_run] at fault
  rcases fault with fault | fault
  · exact ⟨_, _, fault⟩
  · exact ⟨_, _, fault⟩

/-! ### A forward count after its deadlines -/

/-- The zones and the boundary of a forward count leave the cause LATE and only raise events. -/
theorem takeCount_forward_late {s : State} (hk : validConstants s.constants = true)
    (valid : s.tracker.angleValid = true) (t : Nat) :
    (s.takeCount .forward t).run.causes.late = (s.pastDeadlines t).run.causes.late ∧
      ShaftSide (s.pastDeadlines t) (s.takeCount .forward t) := by
  rw [takeCount_forward hk valid]
  split
  · rw [crossings_late fun g hg g' hg' x y => entered_uniform hk hg hg']
    exact ⟨rfl, (crossings_runSide _ _).shaftSide⟩
  · exact ⟨(forwardBoundary_leaves t _).late, forwardBoundary_shaftSide t _⟩

/-- R114: an order due at a deadline that the count passes is LATE. -/
theorem takeCount_forward_sets_late {s : State} (hk : validConstants s.constants = true)
    (valid : s.tracker.angleValid = true) (active : s.run.state ≠ .placing) {d : Deadline} (passes : s.passes d) {b : Nat}
    (hb : b < s.bars.length) (due : (s.bar b).Due d) (t : Nat) :
    (s.takeCount .forward t).run.causes.late = true ∧ BothShow .late (s.takeCount .forward t) ∧
      (s.stopRequested = false → BothShow .stopRequest (s.takeCount .forward t)) := by
  obtain ⟨late, side⟩ := takeCount_forward_late hk valid t
  rw [pastDeadlines_of_passes hk passes, counted_of_not_placing active] at late side
  obtain ⟨set, shows, stop⟩ := deadlineCrossing_late
    (s := { s with tracker := s.tracker.count s.constants.counts t .forward }) hb due
  exact ⟨late.trans set, shows.mono side.ports, fun released => (stop released).mono side.ports⟩

/-- R114: no order is due at a deadline that the count has passed. -/
theorem takeCount_forward_not_due {s : State} (hk : validConstants s.constants = true)
    (valid : s.tracker.angleValid = true) {d : Deadline} (passes : s.passes d) (t : Nat) :
    (s.takeCount .forward t).NoneDue d := by
  have past : (s.pastDeadlines t).NoneDue d := fun n => by
    rw [pastDeadlines_of_passes hk passes, deadlineCrossing_bar]
    exact Bar.passDeadline_not_due d _
  have reach := s.reach_le hk
  rw [takeCount_forward hk valid]
  split
  · refine crossings_not_due past fun g x hg hx hd => ?_
    have apart := groups_apart hk hg
    obtain ⟨after, upTo⟩ := passes
    rcases forwardCrossing_cases hx with ⟨rfl, hx⟩ | ⟨rfl, hx⟩ <;> cases hd <;> simp only [deadlineAngle] at after upTo <;>
      omega
  · exact (forwardBoundary_leaves t _).not_due past

/-- R93: with a retreat backlog the queue's forward boundary only counts it down. -/
theorem queueForward_backlog {s : State} (halted : s.run.state ≠ .halted) (ended : s.run.state ≠ .ended)
    (h : 0 < s.queue.backlog) :
    s.queueForward = { s with queue := { s.queue with backlog := s.queue.backlog - 1 } } := by
  unfold State.queueForward
  split
  · contradiction
  · contradiction
  · exact if_pos h

/-- In run control the deadlines of a forward count touch the cause LATE alone. -/
theorem pastDeadlines_run {s : State} (hk : validConstants s.constants = true) (active : s.run.state ≠ .placing) (t : Nat) :
    (s.pastDeadlines t).run =
      { s.run with causes := { s.run.causes with late := (s.pastDeadlines t).run.causes.late } } := by
  by_cases h : ∃ d, s.passes d
  · obtain ⟨d, hd⟩ := h
    rw [pastDeadlines_of_passes hk hd, counted_of_not_placing active]
    exact deadlineCrossing_run d { s with tracker := s.tracker.count s.constants.counts t .forward }
  · rw [pastDeadlines_of_not (not_exists.mp h), counted_of_not_placing active]

theorem pastDeadlines_lanes {s : State} (hk : validConstants s.constants = true) (active : s.run.state ≠ .placing)
    (t : Nat) : (s.pastDeadlines t).lanes = s.lanes := by
  by_cases h : ∃ d, s.passes d
  · obtain ⟨d, hd⟩ := h
    rw [pastDeadlines_of_passes hk hd, counted_of_not_placing active, deadlineCrossing_lanes]
  · rw [pastDeadlines_of_not (not_exists.mp h), counted_of_not_placing active]

theorem pastDeadlines_bar {d : Deadline} {s : State} (hk : validConstants s.constants = true)
    (active : s.run.state ≠ .placing) (passes : s.passes d) (t b : Nat) :
    (s.pastDeadlines t).bar b = (s.bar b).passDeadline d := by
  rw [pastDeadlines_of_passes hk passes, counted_of_not_placing active, deadlineCrossing_bar]
  rfl

/-- A forward count at whose deadlines no order is due only counts before its zones. -/
theorem pastDeadlines_none {s : State} (hk : validConstants s.constants = true) (active : s.run.state ≠ .placing)
    (none : ∀ d b, s.passes d → b < s.bars.length → ¬(s.bar b).Due d) (t : Nat) :
    s.pastDeadlines t = { s with tracker := s.tracker.count s.constants.counts t .forward } := by
  by_cases h : ∃ d, s.passes d
  · obtain ⟨d, hd⟩ := h
    rw [pastDeadlines_of_passes hk hd, counted_of_not_placing active]
    exact deadlineCrossing_none fun b hb => none d b hd hb
  · rw [pastDeadlines_of_not (not_exists.mp h), counted_of_not_placing active]

/-- R113: a forward count that finds no lane to order posts nothing. After its deadlines the bars and lanes stand, but for
the purge of a hard fault at the boundary. -/
theorem takeCount_forward_still {s : State} (hk : validConstants s.constants = true)
    (valid : s.tracker.angleValid = true) (active : s.run.state ≠ .placing) (t : Nat)
    (still : ¬(s.run.state = .running ∧ s.queue.backlog = 0) ∨ ∀ g, g < 4 → s.entered g = none) :
    (s.tracker.counter + 1 < s.constants.counts → s.takeCount .forward t = s.pastDeadlines t) ∧
      (((s.takeCount .forward t).bars = (s.pastDeadlines t).bars ∧
          (s.takeCount .forward t).lanes = (s.pastDeadlines t).lanes) ∨
        (s.run.state = .running ∧ s.queue.backlog = 0 ∧ (s.takeCount .forward t).run.state = .faulted)) := by
  have state : (s.pastDeadlines t).run.state = s.run.state := by rw [pastDeadlines_run hk active]
  have queue : (s.pastDeadlines t).queue = s.queue := (pastDeadlines_runSide t s).queue
  rw [takeCount_forward hk valid]
  by_cases short : s.tracker.counter + 1 < s.constants.counts
  · rw [if_pos short]
    have same : (s.pastDeadlines t).crossings s.entered = s.pastDeadlines t := by
      rcases still with still | still
      · exact crossings_quiet (by rwa [state, queue]) _
      · exact crossings_none still _
    exact ⟨fun _ => same, .inl (by rw [same]; exact ⟨rfl, rfl⟩)⟩
  · rw [if_neg short]
    refine ⟨fun h => absurd h short, ?_⟩
    rcases (forwardBoundary_leaves t (s.pastDeadlines t)).bars with bars | ⟨-, before, after⟩
    · exact .inl bars
    · rw [state] at before
      have running : s.run.state = .running := before.resolve_right active
      by_cases backlog : s.queue.backlog = 0
      · exact .inr ⟨running, backlog, after⟩
      · have counted := queueForward_backlog
          (s := { s.pastDeadlines t with tracker := (s.pastDeadlines t).tracker.measure t })
          (by simp [state, running]) (by simp [state, running]) (by simpa [queue] using Nat.pos_of_ne_zero backlog)
        refine .inl ?_
        unfold State.forwardBoundary State.watchCeiling
        rw [counted]
        exact ⟨by simp, by simp⟩

/-- R113: a reverse count that finds no lane to order leaves the bars and lanes, but for the purge of a hard fault at the
boundary. -/
theorem takeCount_reverse_still {s : State} (hk : validConstants s.constants = true)
    (valid : s.tracker.angleValid = true) (active : s.run.state ≠ .placing) (t : Nat)
    (still : ¬(s.run.state = .running ∧ s.queue.backlog = 0) ∨ ∀ g, g < 4 → s.left g = none) :
    ((s.takeCount .reverse t).bars = s.bars ∧ (s.takeCount .reverse t).lanes = s.lanes) ∨
      (s.run.state = .running ∧ (s.takeCount .reverse t).run.state = .faulted) := by
  rw [takeCount_reverse hk valid, counted_of_not_placing active]
  split
  · rcases (backwardBoundary_leaves
      { s with tracker := s.tracker.count s.constants.counts t .reverse }).bars with bars | ⟨-, before, after⟩
    · exact .inl bars
    · exact .inr ⟨before.resolve_right active, after⟩
  · have same : State.crossings s.left { s with tracker := s.tracker.count s.constants.counts t .reverse } =
        { s with tracker := s.tracker.count s.constants.counts t .reverse } := by
      rcases still with still | still
      · exact crossings_quiet (s := { s with tracker := s.tracker.count s.constants.counts t .reverse }) still _
      · exact crossings_none still _
    rw [same]
    exact .inl ⟨rfl, rfl⟩

/-- A group that enters no zone, as a statement says it. -/
theorem entered_none_of {s : State} {g : Nat}
    (h : ¬(s.startAngle < groupStart1 s.constants g ∧ groupStart1 s.constants g ≤ s.reach) ∧
      ¬(s.startAngle < groupStart2 s.constants g ∧ groupStart2 s.constants g ≤ s.reach)) : s.entered g = none := by
  unfold State.entered forwardCrossing
  rw [if_neg h.1, if_neg h.2]

theorem left_none_of {s : State} {g : Nat}
    (h : ¬(s.backReach < groupStart1 s.constants g ∧ groupStart1 s.constants g ≤ s.backStart) ∧
      ¬(s.backReach < groupStart2 s.constants g ∧ groupStart2 s.constants g ≤ s.backStart)) : s.left g = none := by
  unfold State.left reverseCrossing
  rw [if_neg h.2, if_neg h.1]

/-! ### O32 -/

/-- What a forward count with the angle valid does beyond the tracker, but for the orders it posts. -/
theorem takeCount_forward_crossed {s : State} (hk : validConstants s.constants = true)
    (valid : s.tracker.angleValid = true) (active : s.run.state ≠ .placing) (t : Nat) :
    (∀ d, s.passes d →
      ((∃ b, b < s.bars.length ∧ (s.bar b).Due d) → (s.takeCount .forward t).run.causes.late = true ∧
        BothShow .late (s.takeCount .forward t) ∧
        (s.stopRequested = false → BothShow .stopRequest (s.takeCount .forward t))) ∧
      (∀ b, ¬((s.takeCount .forward t).bar b).Due d) ∧
      (s.run.state ≠ .running ∨ 0 < s.queue.backlog →
        (s.tracker.counter + 1 < s.constants.counts → (s.takeCount .forward t).queue = s.queue ∧
          (s.takeCount .forward t).run.state = s.run.state) ∧
        (s.takeCount .forward t).lanes = s.lanes ∧
        ∀ b, (s.takeCount .forward t).bar b = (s.bar b).passDeadline d)) ∧
    ((∀ d b, s.passes d → b < s.bars.length → ¬(s.bar b).Due d) →
      (s.takeCount .forward t).run.causes.late = s.run.causes.late ∧
      (s.run.state ≠ .running ∨ 0 < s.queue.backlog ∨ (∀ g, g < 4 → s.entered g = none) →
        (s.run.state = .running → (s.takeCount .forward t).run.state ≠ .faulted) →
          (s.takeCount .forward t).bars = s.bars ∧ (s.takeCount .forward t).lanes = s.lanes)) := by
  refine ⟨fun d passes => ⟨fun ⟨b, hb, due⟩ => takeCount_forward_sets_late hk valid active passes hb due t,
    takeCount_forward_not_due hk valid passes t, fun quiet => ?_⟩, fun none => ?_⟩
  · have idle : ¬(s.run.state = .running ∧ s.queue.backlog = 0) := by rintro ⟨h, h'⟩; simp [h, h'] at quiet
    obtain ⟨same, leaves⟩ := takeCount_forward_still hk valid active t (.inl idle)
    obtain ⟨bars, lanes⟩ := leaves.resolve_right fun ⟨h, h', _⟩ => idle ⟨h, h'⟩
    refine ⟨fun short => ?_, lanes.trans (pastDeadlines_lanes hk active t), fun b => ?_⟩
    · rw [same short, pastDeadlines_run hk active, (pastDeadlines_runSide t s).queue]
      exact ⟨rfl, rfl⟩
    · rw [State.bar, bars]
      exact pastDeadlines_bar hk active passes t b
  · have past := pastDeadlines_none hk active none t
    obtain ⟨late, -⟩ := takeCount_forward_late hk valid t
    rw [past] at late
    refine ⟨late, fun still unfaulted => ?_⟩
    have still : ¬(s.run.state = .running ∧ s.queue.backlog = 0) ∨ ∀ g, g < 4 → s.entered g = .none := by
      rcases still with h | h | h
      · exact .inl fun k => h k.1
      · exact .inl fun k => by omega
      · exact .inr h
    obtain ⟨-, leaves⟩ := takeCount_forward_still hk valid active t still
    obtain ⟨bars, lanes⟩ := leaves.resolve_right fun ⟨h, _, h'⟩ => unfaulted h h'
    rw [past] at bars lanes
    exact ⟨bars, lanes⟩

/-- R2: while the angle is invalid nothing follows a count but the count. -/
theorem takeCount_invalid_eq {s : State} (invalid : s.tracker.angleValid = false) (active : s.run.state ≠ .placing)
    (dir : Direction) (t : Nat) : s.takeCount dir t = { s with tracker := (s.takeCount dir t).tracker } := by
  rw [takeCount_invalid invalid, counted_of_not_placing active]

/-- The zones that a reverse count leaves, as a statement says it. -/
theorem left_none_of_still {s : State} (hk : validConstants s.constants = true) {g : Nat} (hg : g < 4)
    (h : ¬((s.tracker.counter - 1) * 4096 / s.constants.counts < s.constants.overlapStart + g * s.constants.stagger ∧
          s.constants.overlapStart + g * s.constants.stagger ≤ s.tracker.counter * 4096 / s.constants.counts) ∧
        ¬((s.tracker.counter - 1) * 4096 / s.constants.counts < s.constants.underlapStart + g * s.constants.stagger ∧
          s.constants.underlapStart + g * s.constants.stagger ≤ s.tracker.counter * 4096 / s.constants.counts)) :
    s.left g = none := by
  by_cases wrap : s.tracker.counter = 0
  · exact left_wrap hk wrap g hg
  · apply left_none_of
    rw [State.backReach, State.backStart, if_neg wrap, if_neg wrap]
    exact h

/-- Settles O32: a count by the tracker, then by the deadlines and the boundary that it crosses. -/
theorem encoderCountsMoveTheCounter : Obligations.EncoderCountsMoveTheCounter := by
  unfold Obligations.EncoderCountsMoveTheCounter
  intro e time s held later
  by_cases moves : s.tracker.source = .encoder ∧ e ≠ .together
  · obtain ⟨source, single⟩ := moves
    obtain ⟨forward, reverse⟩ := exec_encoderCount held later source
    have disturbed (dir : Direction) (placing : s.run.state = .placing) :=
      takeCount_placing (s := { s with now := time }) placing dir time
    cases e with
    | together => exact absurd rfl single
    | forward =>
      obtain ⟨counter, motion, still, rest⟩ := takeCount_moves .forward time { s with now := time }
      refine ⟨_, forward, (takeCount_shaftSide .forward time _).only, by simp [source], fun _ _ =>
        ⟨fun _ => ⟨counter, motion⟩, nofun, still, rest, disturbed .forward, ?_,
          fun _ _ short => takeCount_forward_period (s := { s with now := time }) (.inr short), ?_, nofun⟩⟩
      · exact fun invalid active =>
          ⟨takeCount_invalid_eq (s := { s with now := time }) invalid active .forward time,
            fun _ => takeCount_forward_period (s := { s with now := time }) (.inl invalid)⟩
      · intro _ valid active hk
        obtain ⟨crossed, uncrossed⟩ := takeCount_forward_crossed (s := { s with now := time }) hk valid active time
        refine ⟨fun d passes => ?_, fun none => ?_⟩
        · obtain ⟨late, gone, quiet⟩ := crossed d passes
          refine ⟨late, gone, fun idle => ?_⟩
          obtain ⟨short, lanes, bars⟩ := quiet idle
          exact ⟨short, lanes, fun b => ⟨fun due => (bars b).trans (Bar.passDeadline_of_not due), fun c hd =>
            ⟨fun posted => (bars b).trans (Bar.passDeadline_posted posted hd),
              fun moving => (bars b).trans (Bar.passDeadline_moving moving hd)⟩⟩⟩
        · obtain ⟨late, still⟩ := uncrossed none
          exact ⟨late, fun idle => still (idle.imp_right fun h => h.imp_right fun h g hg => entered_none_of (h g hg))⟩
    | reverse =>
      obtain ⟨counter, motion, still, rest⟩ := takeCount_moves .reverse time { s with now := time }
      refine ⟨_, reverse, (takeCount_shaftSide .reverse time _).only, by simp [source], fun _ _ =>
        ⟨nofun, fun _ => ⟨counter, motion, takeCount_reverse_period time _⟩, still, rest, disturbed .reverse, ?_, nofun, nofun, ?_⟩⟩
      · exact fun invalid active =>
          ⟨takeCount_invalid_eq (s := { s with now := time }) invalid active .reverse time, nofun⟩
      · intro _ valid active hk still unfaulted
        have still : ¬(s.run.state = .running ∧ s.queue.backlog = 0) ∨ ∀ g, g < 4 → s.left g = none := by
          rcases still with h | h | h
          · exact .inl fun k => h k.1
          · exact .inl fun k => by omega
          · exact .inr fun g hg => left_none_of_still hk hg (h g hg)
        exact (takeCount_reverse_still (s := { s with now := time }) hk valid active time still).resolve_right
          fun ⟨h, h'⟩ => unfaulted h h'
  · have same : exec (.encoderCount e time) s = .next { s with now := time } := by
      have run : exec (.encoderCount e time) s = execEncoderCount e time s := rfl
      rw [run]
      unfold execEncoderCount State.unlessHeld
      rw [State.elapse_eq later]
      cases e <;> simp_all
    exact ⟨_, same, (ShaftSide.refl _).only, fun _ => rfl, fun source single => absurd ⟨source, single⟩ moves⟩

end Sys2Proof.Machine
end


section
/-! Zone crossings in RUNNING: what they do to one bar, and RISK and QUEUE_DRY at the forward entries. -/

namespace Sys2Proof.Machine

/-! ### One bar at the crossings of a count -/

/-- A bar that stands at the target, or is LOST, is left alone at its group's crossing (R113). -/
theorem crossings_leaves_bar {f : Nat → Option Crossing} {b target : Nat} {x : Crossing} {u : State}
    (hf : Crossable f u) (hx : crossingOf f b (u.bar b) = some x)
    (ht : u.queue.zoneTarget x.zone b = some target)
    (h : (u.bar b).standing = some target ∨ (u.bar b).handshake = .lost) : Aside b u (u.crossings f) := by
  obtain ⟨m, before, after⟩ := crossings_reaches hf hx
  have not : m.ordersAt (u.bar b).lane x b = false := by
    unfold State.ordersAt
    rw [before.side.queue, ht, before.bar]
    rcases h with h | h
    · simp [h]
    · simp [Bar.followsZones, Bar.outstanding, Handshake.chain?, h]
  rw [orderAtCrossing_not not] at after
  exact before.trans after

/-- A bar that is IDLE or has an order outstanding, elsewhere than at the target, is ordered there at its group's crossing
(R113). -/
theorem ordersAt_active {g b target : Nat} {x : Crossing} {u : State} (enabled : (u.bar b).enabled = true)
    (lane : (u.bar b).lane = g) (ht : u.queue.zoneTarget x.zone b = some target)
    (active : (u.bar b).handshake = .idle ∨ (u.bar b).outstanding = true)
    (elsewhere : (u.bar b).standing ≠ some target) : u.ordersAt g x b = true := by
  unfold State.ordersAt
  rw [ht]
  simp [Bar.followsZones, enabled, lane, elsewhere, active]

/-- R117: an order posted with the source ENCODER to a bar that is IDLE or has an order outstanding. -/
theorem State.post_ordered_active {b : Nat} (o : Order) {u : State} (hb : b < u.bars.length)
    (lane : (u.bar b).lane < u.lanes.length) (wet : u.tracker.source = .encoder)
    (active : (u.bar b).handshake = .idle ∨ (u.bar b).outstanding = true) : Ordered b o u (u.post b o) := by
  refine State.post_ordered o u hb lane wet ?_ ?_
  · rcases active with h | h <;> intro off <;> simp [Bar.outstanding, Handshake.chain?, off] at h
  · intro lost
    rcases active with h | h <;> simp [Bar.outstanding, Handshake.chain?, lost] at h

/-- The order a group's crossing posts to a bar, seen from before the count to after it: with the source ENCODER by the
bar's state (R117), with the source SIMULATED answered at once (R129). -/
theorem crossings_orders_bar {f : Nat → Option Crossing} {b target : Nat} {x : Crossing} {u : State}
    (hf : Crossable f u) (hx : crossingOf f b (u.bar b) = some x) (ht : u.queue.zoneTarget x.zone b = some target)
    (hb : b < u.bars.length) (enabled : (u.bar b).enabled = true)
    (active : (u.bar b).handshake = .idle ∨ (u.bar b).outstanding = true)
    (elsewhere : (u.bar b).standing ≠ some target) :
    (u.tracker.source = .simulated →
      (u.crossings f).bar b = { u.bar b with known := some target, handshake := .idle }) ∧
    (u.tracker.source = .encoder → (u.bar b).lane < u.lanes.length →
      (∀ c, (u.bar b).handshake = .posted c → (u.lane (u.bar b).lane).Transmits) →
      Ordered b { kind := .move, target := target, deadline := x.deadline } u (u.crossings f)) := by
  obtain ⟨m, before, after⟩ := crossings_reaches hf hx
  have target' : m.queue.zoneTarget x.zone b = some target := by rw [before.side.queue]; exact ht
  have orders : m.ordersAt (u.bar b).lane x b = true :=
    ordersAt_active (by rwa [before.bar]) (by rw [before.bar]) target' (by rwa [before.bar]) (by rwa [before.bar])
  rw [orderAtCrossing_orders orders target'] at after
  generalize hm : m.raiseIf (m.atRisk x b) .risk = m' at after
  have before' : Aside b u m' := by
    rw [← hm]
    exact before.trans (raiseIf_aside b _ _ m)
  have posts : (m'.bar b).handshake = .idle ∨ (m'.bar b).outstanding = true := by rwa [before'.bar]
  refine ⟨fun dry => ?_, fun wet lane sent => ?_⟩
  · rw [after.bar, State.post_bar_dry _ (by rwa [before'.bars]) (by rwa [before'.side.tracker])
      (Bar.takesOrder_of_active posts), before'.bar]
  · exact Ordered.aside (State.post_ordered_active _ (by rwa [before'.bars]) (by rwa [before'.bar, before'.lanes])
      (by rwa [before'.side.tracker]) posts) before' after sent

/-- An order seen from before a deadline may have been passed: what is posted takes the place of the order that lost it. -/
theorem Ordered.of_passed {b : Nat} {o : Order} {d : Deadline} {s u t : State} (h : Ordered b o u t)
    (bar : u.bar b = (s.bar b).passDeadline d ∨ u.bar b = s.bar b) (lanes : u.lanes = s.lanes) : Ordered b o s t := by
  have lane (g : Nat) : u.lane g = s.lane g := by unfold State.lane; rw [lanes]
  unfold Ordered at h ⊢
  have unchanged (same : u.bar b = s.bar b) := by simpa only [same, lane] using h
  rcases bar with bar | bar
  · rcases (s.bar b).passDeadline_cases d with same | ⟨c, -, ⟨hc, same⟩ | ⟨hc, same⟩⟩
    · exact unchanged (bar.trans same)
    · simpa only [bar, same, lane, hc] using h
    · simpa only [bar, same, lane, hc] using h
  · exact unchanged bar

/-- A bar that is POSTED once it may have passed a deadline was POSTED before. -/
theorem Bar.posted_of_passed {d : Deadline} {bar y : Bar} (h : y = bar.passDeadline d ∨ y = bar) {c : Chain}
    (posted : y.handshake = .posted c) : ∃ c, bar.handshake = .posted c := by
  rcases h with rfl | rfl
  · rcases bar.passDeadline_cases d with same | ⟨c', -, ⟨hc, -⟩ | ⟨-, same⟩⟩
    · exact ⟨c, by rw [← same]; exact posted⟩
    · exact ⟨c', hc⟩
    · rw [same] at posted
      cases posted
  · exact ⟨c, posted⟩

/-! ### The entries to the zones as statements say them -/

/-- A forward entry of a bar's group, as the model takes it: the crossing, its target, and its RISK. -/
theorem EntersZone.crossing {g b target need : Nat} {d : Deadline} {s u : State} (h : EntersZone g b target need d s)
    (hk : validConstants s.constants = true) (hg : g < 4) (lane : (u.bar b).lane = g) (queue : u.queue = s.queue)
    (constants : u.constants = s.constants) (classes : u.classes = s.classes) (cls : (u.bar b).cls = (s.bar b).cls) :
    ∃ x, s.entered g = some x ∧ x.deadline = some d ∧ u.queue.zoneTarget x.zone b = some target ∧
      ∀ p, u.tracker.period = some p → p < need → u.atRisk x b = true := by
  obtain ⟨short, start, r, rest, after, upTo, records, h⟩ := h
  have reach : s.reach = (s.tracker.counter + 1) * 4096 / s.constants.counts := if_pos short
  have begins : s.startAngle = s.tracker.counter * 4096 / s.constants.counts := rfl
  have apart := groups_apart hk hg
  have bound := s.reach_le hk
  rw [← begins] at after
  rw [← reach] at upTo
  have drive : u.driveClass (u.bar b).cls = s.driveClass (s.bar b).cls := by
    rw [cls, State.driveClass, classes]
    rfl
  have entry (h : start = groupStart1 s.constants g) : s.entered g = some .enterZ1 :=
    if_pos ⟨h ▸ after, h ▸ upTo⟩
  have entry' (h : start = groupStart2 s.constants g) : s.entered g = some .enterZ2 := by
    unfold State.entered forwardCrossing
    rw [if_neg (by omega), if_pos (by omega)]
  rcases h with ⟨rfl, hs, rfl, rfl⟩ | ⟨rfl, hs, ⟨next, more, rfl, rfl, rfl⟩ | ⟨rfl, last, rfl, rfl⟩⟩
  · refine ⟨.enterZ1, entry hs, rfl, by simp [CourseQueue.zoneTarget, Crossing.zone, queue, records], fun p hp hn => ?_⟩
    have own : u.shogNeed .enterZ1 b = some (requiredPeriod
        (moveTime (s.driveClass (s.bar b).cls) (distance (r.pair b).p1 (r.pair b).p2))
        (s.constants.overlapEnd - s.constants.overlapStart - g * s.constants.stagger)) := by
      simp [State.shogNeed, queue, records, State.overlapNeed, overlapWindow, drive, constants, lane]
    simp [State.atRisk, hp, own, hn]
  · refine ⟨.enterZ2, entry' hs, rfl, by simp [CourseQueue.zoneTarget, Crossing.zone, queue, records], fun p hp hn => ?_⟩
    have own : u.shogNeed .enterZ2 b = some (requiredPeriod
        (moveTime (s.driveClass (s.bar b).cls) (distance (r.pair b).p2 (next.pair b).p1))
        (s.constants.underlapEnd - s.constants.underlapStart - g * s.constants.stagger)) := by
      simp [State.shogNeed, queue, records, State.underlapNeed, underlapWindow, drive, constants, lane, distance,
        Nat.add_comm]
    simp [State.atRisk, hp, own, hn]
  · exact ⟨.enterZ2, entry' hs, rfl, by simp [CourseQueue.zoneTarget, Crossing.zone, queue, records, last],
      fun _ _ hn => absurd hn (Nat.not_lt_zero _)⟩

/-- A backward crossing of a bar's group, as the model takes it. -/
theorem left_of_start {g b target : Nat} {s : State} (hk : validConstants s.constants = true) (hg : g < 4)
    (turns : s.tracker.counter ≠ 0)
    (h : ∃ start r rest,
      (s.tracker.counter - 1) * 4096 / s.constants.counts < start ∧
      start ≤ s.tracker.counter * 4096 / s.constants.counts ∧ s.queue.records = r :: rest ∧
      ((start = s.constants.underlapStart + g * s.constants.stagger ∧ target = (r.pair b).p2) ∨
        (start = s.constants.overlapStart + g * s.constants.stagger ∧ target = (r.pair b).p1))) :
    ∃ x, s.left g = some x ∧ x.deadline = none ∧ s.queue.zoneTarget x.zone b = some target := by
  obtain ⟨start, r, rest, after, upTo, records, h⟩ := h
  have reach : s.backReach = (s.tracker.counter - 1) * 4096 / s.constants.counts := by
    rw [State.backReach, if_neg turns]
    rfl
  have begins : s.backStart = s.tracker.counter * 4096 / s.constants.counts := by
    rw [State.backStart, if_neg turns]
    rfl
  rw [← begins] at upTo
  rw [← reach] at after
  have apart := groups_apart hk hg
  have bound := s.backStart_le hk
  rcases h with ⟨hs, rfl⟩ | ⟨hs, rfl⟩
  · have hs : start = groupStart2 s.constants g := hs
    exact ⟨.backToZ1, if_pos ⟨hs ▸ after, hs ▸ upTo⟩, rfl,
      by simp [CourseQueue.zoneTarget, Crossing.zone, records]⟩
  · have hs : start = groupStart1 s.constants g := hs
    refine ⟨.backToZ0, ?_, rfl, by simp [CourseQueue.zoneTarget, Crossing.zone, records]⟩
    unfold State.left reverseCrossing
    rw [if_neg (by omega), if_pos (by omega)]

/-- A crossing with a target has targets for all the groups of its count. -/
theorem crossable_of_target {f : Nat → Option Crossing} {g b target : Nat} {x : Crossing} {u : State}
    (running : u.run.state = .running) (backlog : u.queue.backlog = 0)
    (uniform : ∀ g, g < 4 → ∀ g', g' < 4 → ∀ x y, f g = some x → f g' = some y → x = y) (hg : g < 4)
    (hx : f g = some x) (ht : u.queue.zoneTarget x.zone b = some target) : Crossable f u := by
  refine (crossable_or_dry running backlog uniform).resolve_right fun dry => ?_
  have none := dry g hg x hx
  rw [← CourseQueue.zoneTarget_isSome _ _ b, ht] at none
  cases none

/-- R7: no group enters a zone on a count that passes U_e. -/
theorem not_passes_underlapEnd {g : Nat} {x : Crossing} {s : State} (hk : validConstants s.constants = true) (hg : g < 4)
    (hx : s.entered g = some x) : ¬s.passes .underlapEnd := by
  have apart := groups_apart hk hg
  have bound := s.reach_le hk
  rintro ⟨after, upTo⟩
  simp only [deadlineAngle] at after upTo
  rcases forwardCrossing_cases hx with ⟨-, h⟩ | ⟨-, h⟩ <;> omega

/-! ### What the deadlines leave of a bar, and of the stop request -/

/-- On a count that takes a group into a zone, a bar with no order due at O_e passes the deadlines as it stands. -/
theorem pastDeadlines_bar_of_entry {g b : Nat} {x : Crossing} {s : State} (hk : validConstants s.constants = true)
    (active : s.run.state ≠ .placing) (hg : g < 4) (hx : s.entered g = some x) (t : Nat) :
    (s.pastDeadlines t).bar b = (s.bar b).passDeadline .overlapEnd ∨ (s.pastDeadlines t).bar b = s.bar b := by
  by_cases passes : s.passes .overlapEnd
  · exact .inl (pastDeadlines_bar hk active passes t b)
  · refine .inr ?_
    rw [pastDeadlines_of_not fun d => by
      cases d with
      | overlapEnd => exact passes
      | underlapEnd => exact not_passes_underlapEnd hk hg hx, counted_of_not_placing active]
    rfl

theorem pastDeadlines_bars_length {s : State} (hk : validConstants s.constants = true) (active : s.run.state ≠ .placing)
    (t : Nat) : (s.pastDeadlines t).bars.length = s.bars.length := by
  by_cases h : ∃ d, s.passes d
  · obtain ⟨d, hd⟩ := h
    rw [pastDeadlines_of_passes hk hd, counted_of_not_placing active, deadlineCrossing_bars_length]
  · rw [pastDeadlines_of_not (not_exists.mp h), counted_of_not_placing active]

/-- R143: a stop request that the deadlines of a count assert is raised. -/
theorem pastDeadlines_stop {s : State} (hk : validConstants s.constants = true) (active : s.run.state ≠ .placing) (t : Nat)
    (released : s.stopRequested = false) (asserted : (s.pastDeadlines t).stopRequested = true) :
    BothShow .stopRequest (s.pastDeadlines t) := by
  by_cases late : ∃ d b, s.passes d ∧ b < s.bars.length ∧ (s.bar b).Due d
  · obtain ⟨d, b, passes, hb, due⟩ := late
    rw [pastDeadlines_of_passes hk passes, counted_of_not_placing active]
    exact (deadlineCrossing_late (s := { s with tracker := s.tracker.count s.constants.counts t .forward }) hb due).2.2
      released
  · have same := pastDeadlines_none hk active (fun d b passes hb due => late ⟨d, b, passes, hb, due⟩) t
    rw [same] at asserted
    exact absurd (released.symm.trans asserted) (by decide)

/-- What a bar reads as once it may have passed a deadline. -/
theorem Bar.passed_reads {d : Deadline} {bar y : Bar} (h : y = bar.passDeadline d ∨ y = bar) :
    y.enabled = bar.enabled ∧ y.lane = bar.lane ∧ y.cls = bar.cls ∧ y.standing = bar.standing ∧
      (y.handshake = .idle ∨ y.outstanding = true ↔ bar.handshake = .idle ∨ bar.outstanding = true) := by
  rcases h with rfl | rfl
  · simp [Bar.passDeadline_idle_iff]
  · simp

/-- A count in RUNNING disturbs no placement (R135). -/
theorem active_of_running {s : State} (h : s.run.state = .running) : s.run.state ≠ .placing := by simp [h]

/-! ### O33 -/

/-- Bar `b`'s entries in lane `g`. -/
def State.entriesOf (g b : Nat) (s : State) : List LaneEntry := (s.lane g).queue.filter fun e => e.bar == b

/-- The bar of a group that a forward count takes into a zone (R113, R115). -/
theorem forward_entry_orders {time g b target need : Nat} {d : Deadline} {s : State} (source : s.tracker.source = .encoder)
    (valid : s.tracker.angleValid = true) (running : s.run.state = .running) (backlog : s.queue.backlog = 0)
    (hk : validConstants s.constants = true) (hg : g < 4) (b48 : b < 48) (hb : b < s.bars.length)
    (enabled : (s.bar b).enabled = true) (lane : (s.bar b).lane = g) (hlane : g < s.lanes.length)
    (enters : EntersZone g b target need d s) :
    let t := s.takeCount .forward time
    t.run.state = .running ∧ t.queue = s.queue ∧ t.builder = s.builder ∧ t.arbiter = s.arbiter ∧
      ((s.bar b).standing = some target → t.entriesOf g b = s.entriesOf g b ∧ (t.bar b).standing = some target ∧
        (¬(s.bar b).Due .overlapEnd → t.bar b = s.bar b)) ∧
      ((s.bar b).handshake = .lost → t.bar b = s.bar b) ∧
      ((s.bar b).handshake = .idle ∨ (s.bar b).outstanding = true → (s.bar b).standing ≠ some target →
        ((∀ c, (s.bar b).handshake = .posted c → (s.lane g).Transmits) →
          Ordered b { kind := .move, target := target, deadline := some d } s t) ∧
        (∀ x, s.tracker.period = some x → x < need → BothShow .risk t)) := by
  intro t
  have active := active_of_running running
  have side := pastDeadlines_runSide time s
  have queue : (s.pastDeadlines time).queue = s.queue := side.queue
  have run : (s.pastDeadlines time).run.state = .running := by rw [pastDeadlines_run hk active]; exact running
  have lanes := pastDeadlines_lanes hk active time
  have lane_eq (n : Nat) : (s.pastDeadlines time).lane n = s.lane n := by rw [State.lane, lanes]; rfl
  obtain ⟨_, entry, -⟩ := enters.crossing (u := s) hk hg lane rfl rfl rfl rfl
  have bar := pastDeadlines_bar_of_entry (b := b) hk active hg entry time
  obtain ⟨enabled', lane', cls, standing, posts⟩ := Bar.passed_reads bar
  obtain ⟨x, hx, deadline, target', risk⟩ := enters.crossing (u := s.pastDeadlines time) hk hg (by rw [lane', lane]) queue
    side.constants side.classes cls
  have crossable : Crossable s.entered (s.pastDeadlines time) := crossable_of_target run (by rw [queue]; exact backlog)
    (fun g hg g' hg' x y => entered_uniform hk hg hg') hg hx target'
  have crossing : crossingOf s.entered b ((s.pastDeadlines time).bar b) = some x := by
    rw [crossingOf, lane', lane, if_pos ⟨b48, hg⟩, hx]
  have count : t = (s.pastDeadlines time).crossings s.entered :=
    (takeCount_forward hk valid time).trans (if_pos enters.1)
  have crossed := crossings_runSide s.entered (s.pastDeadlines time)
  rw [count]
  refine ⟨by rw [crossings_run crossable]; exact run, crossed.queue.trans queue, crossed.builder.trans side.builder,
    crossed.arbiter.trans side.arbiter, fun stands => ?_, fun lost => ?_, fun moves elsewhere => ⟨fun sent => ?_, ?_⟩⟩
  · have aside := crossings_leaves_bar crossable crossing target' (.inl (standing.trans stands))
    refine ⟨?_, by rw [aside.bar, standing, stands], fun due => ?_⟩
    · rw [State.entriesOf, aside.entries, lane_eq]
      rfl
    · rw [aside.bar]
      exact bar.elim (fun h => h.trans (Bar.passDeadline_of_not due)) id
  · have lost' : (s.pastDeadlines time).bar b = s.bar b := bar.elim (fun h => h.trans (Bar.passDeadline_of_lost lost)) id
    rw [(crossings_leaves_bar crossable crossing target' (.inr (by rw [lost', lost]))).bar, lost']
  · have ordered := (crossings_orders_bar crossable crossing target'
      (by rw [pastDeadlines_bars_length hk active]; exact hb) (by rw [enabled', enabled]) (posts.mpr moves)
      (by rw [standing]; exact elsewhere)).2 (by rw [side.tracker]; exact source) (by rw [lane', lane, lanes]; exact hlane)
      fun c posted => by
        obtain ⟨c', posted'⟩ := Bar.posted_of_passed bar posted
        rw [lane', lane, lane_eq]
        exact sent c' posted'
    rw [deadline] at ordered
    exact ordered.of_passed bar lanes
  · intro p hp late p'
    have ordersAt := ordersAt_active (g := g) (by rw [enabled', enabled]) (lane'.trans lane) target' (posts.mpr moves)
      (by rw [standing]; exact elsewhere)
    have atRisk : (s.pastDeadlines time).anyRisk s.entered (List.range 4) = true := by
      refine List.any_eq_true.mpr ⟨g, List.mem_range.mpr hg, ?_⟩
      rw [hx]
      refine List.any_eq_true.mpr ⟨b, List.mem_range.mpr b48, ?_⟩
      rw [State.risksAt, ordersAt, risk p (by rw [side.tracker]; exact hp) late]
      rfl
    rw [crossings_port crossable]
    exact bothShow_raiseIf atRisk .risk _ p'

/-- The bar of a group that a reverse count takes back over a boundary (R113): no deadline, no RISK. -/
theorem backward_crossing_orders {time g b target : Nat} {x : Crossing} {s : State} (source : s.tracker.source = .encoder)
    (valid : s.tracker.angleValid = true) (running : s.run.state = .running) (backlog : s.queue.backlog = 0)
    (hk : validConstants s.constants = true) (hg : g < 4) (b48 : b < 48) (hb : b < s.bars.length)
    (enabled : (s.bar b).enabled = true) (lane : (s.bar b).lane = g) (hlane : g < s.lanes.length)
    (turns : s.tracker.counter ≠ 0) (hx : s.left g = some x) (deadline : x.deadline = none)
    (target' : s.queue.zoneTarget x.zone b = some target) :
    let t := s.takeCount .reverse time
    t.run = s.run ∧ t.queue = s.queue ∧ t.builder = s.builder ∧ t.arbiter = s.arbiter ∧
      (∀ p, (t.port p).events = (s.port p).events) ∧
      ((s.bar b).standing = some target ∨ (s.bar b).handshake = .lost →
        t.entriesOf g b = s.entriesOf g b ∧ t.bar b = s.bar b) ∧
      ((s.bar b).handshake = .idle ∨ (s.bar b).outstanding = true → (s.bar b).standing ≠ some target →
        (∀ c, (s.bar b).handshake = .posted c → (s.lane g).Transmits) →
        Ordered b { kind := .move, target := target, deadline := none } s t) := by
  intro t
  generalize hu : ({ s with tracker := s.tracker.count s.constants.counts time .reverse } : State) = u
  have count : t = u.crossings s.left := by
    rw [← hu, ← counted_of_not_placing (active_of_running running)]
    exact (takeCount_reverse hk valid time).trans (if_neg turns)
  have crossable : Crossable s.left u := crossable_of_target (by rw [← hu]; exact running) (by rw [← hu]; exact backlog)
    (fun g hg g' hg' x y => left_uniform hk hg hg') hg hx (by rw [← hu]; exact target')
  have bar : u.bar b = s.bar b := by rw [← hu]; rfl
  have crossing : crossingOf s.left b (u.bar b) = some x := by
    rw [bar, crossingOf, lane, if_pos ⟨b48, hg⟩, hx]
  have target' : u.queue.zoneTarget x.zone b = some target := by rw [← hu]; exact target'
  have crossed := crossings_runSide s.left u
  have safe : u.anyRisk s.left (List.range 4) = false := by
    refine List.any_eq_false.mpr fun g' _ => ?_
    cases h : s.left g' with
    | none => simp
    | some y =>
      simp only [List.any_eq_true, not_exists, not_and]
      intro n _
      rcases reverseCrossing_cases h with ⟨rfl, -⟩ | ⟨rfl, -⟩ <;> simp [State.risksAt, State.atRisk, State.shogNeed]
  rw [count]
  refine ⟨by rw [crossings_run crossable, ← hu], by rw [crossed.queue, ← hu], by rw [crossed.builder, ← hu],
    by rw [crossed.arbiter, ← hu], fun p => ?_, fun stays => ?_, fun moves elsewhere sent => ?_⟩
  · rw [crossings_port crossable, safe, ← hu]
    cases p <;> rfl
  · have aside := crossings_leaves_bar crossable crossing target' (by rw [bar]; exact stays)
    refine ⟨?_, aside.bar.trans bar⟩
    rw [State.entriesOf, aside.entries, ← hu]
    rfl
  · have ordered := (crossings_orders_bar crossable crossing target' (by rw [← hu]; exact hb) (by rw [bar]; exact enabled)
      (by rw [bar]; exact moves) (by rw [bar]; exact elsewhere)).2 (by rw [← hu]; exact source)
      (by rw [bar, lane, ← hu]; exact hlane) (by rw [bar, lane, ← hu]; exact sent)
    rw [deadline] at ordered
    exact ordered.of_passed (d := .overlapEnd) (.inr bar) (by rw [← hu])

/-- R98: a forward entry to Z2 that finds no targets is QUEUE_DRY. -/
theorem forward_entry_dry {time g : Nat} {s : State} (valid : s.tracker.angleValid = true)
    (running : s.run.state = .running) (backlog : s.queue.backlog = 0) (hk : validConstants s.constants = true) (hg : g < 4)
    (short : s.tracker.counter + 1 < s.constants.counts)
    (after : s.startAngle < groupStart2 s.constants g) (upTo : groupStart2 s.constants g ≤ s.reach)
    (dry : s.queue.records = [] ∨ ∃ r, s.queue.records = [r] ∧ r.articleEnd = false) :
    s.takeCount .forward time = (s.pastDeadlines time).enterFaulted .queueDry none s.headCourse := by
  have queue : (s.pastDeadlines time).queue = s.queue := (pastDeadlines_runSide time s).queue
  have run : (s.pastDeadlines time).run.state = .running := by
    rw [pastDeadlines_run hk (active_of_running running)]
    exact running
  have apart := groups_apart hk hg
  have bound := s.reach_le hk
  have entry : s.entered g = some .enterZ2 := by
    unfold State.entered forwardCrossing
    rw [if_neg (by omega), if_pos ⟨after, upTo⟩]
  have none : s.queue.zoneTarget .z2 0 = none := by
    rcases dry with h | ⟨r, h, last⟩ <;> simp [CourseQueue.zoneTarget, *]
  have targets : ∀ g', g' < 4 → ∀ x, s.entered g' = some x →
      ((s.pastDeadlines time).queue.zoneTarget x.zone 0).isSome = false := fun g' hg' x hx => by
    rw [← entered_uniform hk hg hg' entry hx, queue]
    exact congrArg Option.isSome none
  rw [takeCount_forward hk valid, if_pos short, crossings_dry ⟨run, by rw [queue]; exact backlog⟩ targets,
    if_pos ⟨g, List.mem_range.mpr hg, entry⟩]
  unfold State.headCourse
  rw [queue]

/-- Settles O33, by the crossing that the count takes the bar's group over. -/
theorem zoneEntriesOrderTheBars : Obligations.ZoneEntriesOrderTheBars := by
  unfold Obligations.ZoneEntriesOrderTheBars
  intro time g s held later source valid running backlog hk hg
  obtain ⟨forward, reverse⟩ := exec_encoderCount held later source
  refine ⟨fun b b48 hb enabled lane hlane => ⟨fun target need d enters => ?_, fun target turns h => ?_⟩,
    fun short after upTo dry => ?_⟩
  · exact ⟨_, forward, forward_entry_orders (s := { s with now := time }) source valid running backlog hk hg b48 hb enabled
      lane hlane enters⟩
  · obtain ⟨x, hx, deadline, target'⟩ := left_of_start hk hg turns h
    exact ⟨_, reverse, backward_crossing_orders (s := { s with now := time }) source valid running backlog hk hg b48 hb
      enabled lane hlane turns hx deadline target'⟩
  · have active : s.run.state ≠ .placing := active_of_running running
    have faulted := forward_entry_dry (time := time) (s := { s with now := time }) valid running backlog hk hg short after
      (by rw [State.reach, if_pos short]; exact upTo) dry
    have side := pastDeadlines_runSide time { s with now := time }
    have fault := enterFaulted_runSide .queueDry none s.headCourse (State.pastDeadlines time { s with now := time })
    refine ⟨_, forward, ?_⟩
    rw [faulted]
    refine ⟨fault.queue.trans side.queue, fault.builder.trans side.builder, fault.arbiter.trans side.arbiter, by simp,
      bothShow_enterFaulted _ _ _ _, ?_, fun released => ?_, State.enterFaulted_lane _ _ _ _,
      State.enterFaulted_outstanding _ _ _ _⟩
    · rw [State.enterFaulted_run]
      have angle : (State.pastDeadlines time { s with now := time }).angle =
          some ((s.tracker.counter + 1) * 4096 / s.constants.counts) := by
        rw [State.angle, side.tracker, side.constants]
        simp [Tracker.count, countFrom, short, valid, angleOf]
      rw [angle]
      rfl
    · cases asserted : (State.pastDeadlines time { s with now := time }).stopRequested with
      | false => exact stopRequest_enterFaulted asserted _ _ _
      | true => exact (pastDeadlines_stop (s := { s with now := time }) hk active time released asserted).mono fault.ports

end Sys2Proof.Machine
end


section
/-! A forward boundary: the period measurement, and what the queue does in each sequencer state. -/

namespace Sys2Proof.Machine

/-! ### What stop causes and hard faults leave -/

@[simp] theorem State.setCause_queue (c : StopCause) (s : State) : (s.setCause c).queue = s.queue :=
  (setCause_runSide c s).queue
@[simp] theorem State.setCause_builder (c : StopCause) (s : State) : (s.setCause c).builder = s.builder :=
  (setCause_runSide c s).builder
@[simp] theorem State.setCause_arbiter (c : StopCause) (s : State) : (s.setCause c).arbiter = s.arbiter :=
  (setCause_runSide c s).arbiter
@[simp] theorem State.setCause_constants (c : StopCause) (s : State) : (s.setCause c).constants = s.constants :=
  (setCause_runSide c s).constants

@[simp] theorem State.hardFault_queue (k : FaultKind) (b c : Option Nat) (s : State) :
    (s.hardFault k b c).queue = s.queue := (hardFault_runSide k b c s).queue
@[simp] theorem State.hardFault_builder (k : FaultKind) (b c : Option Nat) (s : State) :
    (s.hardFault k b c).builder = s.builder := (hardFault_runSide k b c s).builder
@[simp] theorem State.hardFault_arbiter (k : FaultKind) (b c : Option Nat) (s : State) :
    (s.hardFault k b c).arbiter = s.arbiter := (hardFault_runSide k b c s).arbiter

/-- A hard fault leaves the stop causes. -/
@[simp] theorem State.hardFault_causes (k : FaultKind) (b c : Option Nat) (s : State) :
    (s.hardFault k b c).run.causes = s.run.causes := by
  unfold State.hardFault
  split
  · simp
  · simp
  · split <;> simp
  · rfl
  · rfl

/-! ### The queue at a forward boundary, step by step -/

/-- R102: past the end the overrun count rises, with OVERRUN. -/
theorem overrunForward_reads (s : State) : s.overrunForward.queue = { s.queue with overrun := min 255 (s.queue.overrun + 1) } ∧
    s.overrunForward.run = { s.run with causes := { s.run.causes with overrun := true } } ∧
    s.overrunForward.builder = s.builder ∧ s.overrunForward.arbiter = s.arbiter ∧ BothShow .overrun s.overrunForward := by
  refine ⟨?_, ?_, ?_, ?_, bothShow_raise .overrun _⟩ <;> simp [State.overrunForward, StopCauses.add]

/-- R94: the head leaves for the history, and its STOP_MARK is the stop cause MARK. -/
theorem headLeaves_reads (r : Record) (rest : List Record) (s : State) :
    (s.headLeaves r rest).queue = { s.queue with records := rest, history := (r :: s.queue.history).take 8 } ∧
      (s.headLeaves r rest).builder = s.builder ∧ (s.headLeaves r rest).arbiter = s.arbiter ∧
      (s.headLeaves r rest).constants = s.constants ∧
      (r.stopMark = true → (s.headLeaves r rest).run.causes.mark = true) := by
  unfold State.headLeaves
  split
  · simp [CourseQueue.execute, StopCauses.add]
  · next h => simp [CourseQueue.execute, h]

theorem queueForward_halted {s : State} (h : s.run.state = .halted) : s.queueForward = s := by
  simp [State.queueForward, h]

theorem queueForward_ended {s : State} (h : s.run.state = .ended) : s.queueForward = s.overrunForward := by
  simp [State.queueForward, h]

/-- R93: otherwise, with a retreat backlog of 0, the queue advances. -/
theorem queueForward_advance {s : State} (halted : s.run.state ≠ .halted) (ended : s.run.state ≠ .ended)
    (h : s.queue.backlog = 0) : s.queueForward = s.advanceQueue := by
  unfold State.queueForward
  split
  · contradiction
  · contradiction
  · exact if_neg (by omega)

theorem advanceQueue_many {s : State} {r n : Record} {rest : List Record} (h : s.queue.records = r :: n :: rest) :
    s.advanceQueue = s.headLeaves r (n :: rest) := by
  simp [State.advanceQueue, h]

theorem advanceQueue_last {s : State} {r : Record} (h : s.queue.records = [r]) : s.advanceQueue =
    if s.builder.ended then (s.headLeaves r []).endArticle
    else (s.headLeaves r []).hardFault .queueDry none (some r.number) := by
  simp [State.advanceQueue, h]

theorem advanceQueue_empty {s : State} (h : s.queue.records = []) : s.advanceQueue =
    if s.builder.ended then s.overrunForward else s.hardFault .queueDry none none := by
  simp [State.advanceQueue, h]

/-- R95: in RUNNING the end of the article enters ENDED with the overrun count at 0. -/
theorem endArticle_running {s : State} (h : s.run.state = .running) : s.endArticle =
    { s with run := { s.run with state := .ended }, queue := { s.queue with overrun := 0 } }.raise .ended := if_pos h

theorem endArticle_not_running {s : State} (h : s.run.state ≠ .running) : s.endArticle = s := if_neg h

@[simp] theorem State.endArticle_builder (s : State) : s.endArticle.builder = s.builder := by
  unfold State.endArticle
  split <;> rfl

@[simp] theorem State.endArticle_arbiter (s : State) : s.endArticle.arbiter = s.arbiter := by
  unfold State.endArticle
  split <;> rfl

/-- A forward boundary leaves the builder and the arbiter. -/
theorem queueForward_builder (s : State) : s.queueForward.builder = s.builder ∧ s.queueForward.arbiter = s.arbiter := by
  have leaves (r : Record) (rest : List Record) := headLeaves_reads r rest s
  have overrun := overrunForward_reads s
  unfold State.queueForward State.advanceQueue
  split
  · exact ⟨rfl, rfl⟩
  · exact ⟨overrun.2.2.1, overrun.2.2.2.1⟩
  · split
    · exact ⟨rfl, rfl⟩
    · split
      · split
        · exact ⟨overrun.2.2.1, overrun.2.2.2.1⟩
        · simp
      · split <;> simp [leaves]
      · simp [leaves]

/-! ### A forward boundary's state before the queue takes it -/

/-- The count at a forward wrap as the queue finds it: counted, past its deadlines and measured. -/
def State.atForwardBoundary (t : Nat) (s : State) : State :=
  { s.pastDeadlines t with tracker := (s.pastDeadlines t).tracker.measure t }

theorem takeCount_forward_wrap {s : State} (hk : validConstants s.constants = true) (valid : s.tracker.angleValid = true)
    (wrap : s.tracker.counter + 1 = s.constants.counts) (t : Nat) :
    s.takeCount .forward t = State.watchCeiling State.queueForward (s.atForwardBoundary t) := by
  rw [takeCount_forward hk valid, if_neg (by omega)]
  rfl

theorem atForwardBoundary_reads (t : Nat) (s : State) : (s.atForwardBoundary t).queue = s.queue ∧
    (s.atForwardBoundary t).builder = s.builder ∧ (s.atForwardBoundary t).arbiter = s.arbiter ∧
    (s.atForwardBoundary t).constants = s.constants ∧
    (s.atForwardBoundary t).tracker = (s.tracker.count s.constants.counts t .forward).measure t := by
  obtain ⟨-, -, -, tracker, constants, -, arbiter, -, -, -, builder, queue, -, -, -⟩ := pastDeadlines_runSide t s
  exact ⟨queue, builder, arbiter, constants, by rw [State.atForwardBoundary, tracker]⟩

/-- R2: at a forward boundary the angle is 0. -/
theorem atForwardBoundary_angle {s : State} (valid : s.tracker.angleValid = true)
    (wrap : s.tracker.counter + 1 = s.constants.counts) (t : Nat) : (s.atForwardBoundary t).angle = some 0 := by
  obtain ⟨-, -, -, constants, tracker⟩ := atForwardBoundary_reads t s
  rw [State.angle, constants, tracker, Tracker.measure_eq]
  simp [Tracker.count, countFrom, wrap, valid, angleOf]

/-- Run control as a forward boundary finds it: FAULTED where the count was DISTURBED in PLACING (R135), else as it was but
for the cause LATE. -/
theorem atForwardBoundary_run {s : State} (hk : validConstants s.constants = true) (t : Nat) :
    (s.run.state = .placing → (s.atForwardBoundary t).run.state = .faulted) ∧
      (s.run.state ≠ .placing → (s.atForwardBoundary t).run.state = s.run.state ∧
        (s.atForwardBoundary t).run.fault = s.run.fault) := by
  refine ⟨fun placing => ?_, fun active => ?_⟩
  · have kept := deadlinesFrom_faultKept s.startAngle s.reach (s.counted .forward t)
    exact (kept (by rw [counted_of_placing placing]; simp)).1
  · change (s.pastDeadlines t).run.state = _ ∧ (s.pastDeadlines t).run.fault = _
    rw [pastDeadlines_run hk active]
    exact ⟨rfl, rfl⟩

/-! ### R104 -/

theorem State.raiseIf_governingCeiling (c : Bool) (e : Event) (s : State) :
    (s.raiseIf c e).governingCeiling = s.governingCeiling := by
  simp [State.governingCeiling]

/-- The governing ceiling is read from the sequencer state, the queue, END and the constants. -/
theorem State.governingCeiling_congr {s t : State} (state : t.run.state = s.run.state) (queue : t.queue = s.queue)
    (builder : t.builder = s.builder) (constants : t.constants = s.constants) :
    t.governingCeiling = s.governingCeiling := by
  simp only [State.governingCeiling, state, queue, builder, constants]

/-- R104: a fall of the governing ceiling in RUNNING is raised. -/
theorem watchCeiling_drop {f : State → State} {s : State} (before : s.run.state = .running)
    (after : (s.watchCeiling f).run.state = .running)
    (falls : (s.watchCeiling f).governingCeiling < s.governingCeiling) : BothShow .ceilingDrop (s.watchCeiling f) := by
  unfold State.watchCeiling at after falls ⊢
  rw [State.raiseIf_run] at after
  rw [State.raiseIf_governingCeiling] at falls
  exact bothShow_raiseIf (by simp [before, after, falls]) _ _

/-- A watched step does what the step does, and raises events. -/
theorem watchCeiling_reads (f : State → State) (s : State) : (s.watchCeiling f).queue = (f s).queue ∧
    (s.watchCeiling f).builder = (f s).builder ∧ (s.watchCeiling f).arbiter = (f s).arbiter ∧
    (s.watchCeiling f).run = (f s).run ∧ ∀ e, BothShow e (f s) → BothShow e (s.watchCeiling f) :=
  ⟨State.raiseIf_queue _ _ _, State.raiseIf_builder _ _ _, State.raiseIf_arbiter _ _ _, State.raiseIf_run _ _ _,
    fun _ h => h.mono (raiseIf_runSide _ _ _).ports⟩

/-! ### The queue's forward boundary with a retreat backlog of 0 (R94, R95, R96) -/

/-- R94: a head with a record behind it leaves. -/
theorem advanceQueue_many_reads {s : State} {r n : Record} {rest : List Record} (h : s.queue.records = r :: n :: rest) :
    s.advanceQueue.queue = { s.queue with records := n :: rest, history := (r :: s.queue.history).take 8 } ∧
      (r.stopMark = true → s.advanceQueue.run.causes.mark = true) ∧ s.advanceQueue.run.state = s.run.state := by
  obtain ⟨queue, -, -, -, mark⟩ := headLeaves_reads r (n :: rest) s
  rw [advanceQueue_many h]
  exact ⟨queue, mark, State.headLeaves_run_state _ _ _⟩

/-- R95, R96: the last record leaves. At the end of the article RUNNING enters ENDED; short of it the queue is dry. -/
theorem advanceQueue_last_reads {s : State} {r : Record} (h : s.queue.records = [r]) (backlog : s.queue.backlog = 0) :
    (s.advanceQueue.queue.records = [] ∧ s.advanceQueue.queue.history = (r :: s.queue.history).take 8 ∧
      s.advanceQueue.queue.backlog = 0 ∧
      s.advanceQueue.queue.overrun =
        if s.builder.ended = true ∧ s.run.state = .running then 0 else s.queue.overrun) ∧
    (r.stopMark = true → s.advanceQueue.run.causes.mark = true) ∧
    (s.run.state = .running → s.builder.ended = true →
      s.advanceQueue.run.state = .ended ∧ BothShow .ended s.advanceQueue) ∧
    (s.run.state = .running → s.builder.ended = false → s.advanceQueue.run.state = .faulted ∧
      BothShow .fault s.advanceQueue ∧ s.advanceQueue.run.fault = some
        { kind := .queueDry, bar := none, course := some r.number, angle := s.angle, more := false }) ∧
    (s.run.state = .faulted → s.builder.ended = false →
      s.advanceQueue.run.fault = s.run.fault.map fun f => { f with more := true }) := by
  obtain ⟨queue, builder, -, constants, mark⟩ := headLeaves_reads r [] s
  have state := State.headLeaves_run_state r [] s
  have angle : (s.headLeaves r []).angle = s.angle := by simp [State.angle, constants]
  have fault := (headLeaves_unmoved r [] s).fault
  rw [advanceQueue_last h]
  by_cases ended : s.builder.ended = true
  · rw [if_pos ended]
    by_cases running : s.run.state = .running
    · rw [endArticle_running (by rw [state, running]), queue]
      exact ⟨⟨rfl, rfl, backlog, by simp [ended, running]⟩, mark, fun _ _ => ⟨rfl, bothShow_raise _ _⟩,
        by simp [ended], by simp [ended]⟩
    · rw [endArticle_not_running (by rwa [state]), queue]
      exact ⟨⟨rfl, rfl, backlog, by simp [running]⟩, mark, by simp [running], by simp [running], by simp [ended]⟩
  · rw [if_neg ended]
    refine ⟨?_, by simpa using mark, fun _ h => absurd h ended, fun running _ => ?_, fun faulted _ => ?_⟩
    · rw [State.hardFault_queue, queue]
      exact ⟨rfl, rfl, backlog, by simp [ended]⟩
    · rw [State.hardFault_running (by rw [state, running])]
      exact ⟨by simp, bothShow_enterFaulted _ _ _ _, by simp [angle]⟩
    · rw [State.hardFault_faulted (by rw [state, faulted])]
      simp [State.faultMore, fault]

/-- R96, R102: an empty queue. Past the end the overrun count rises; otherwise the queue is dry. -/
theorem advanceQueue_empty_reads {s : State} (h : s.queue.records = []) :
    (s.builder.ended = true → s.advanceQueue = s.overrunForward) ∧
      (s.builder.ended = false → s.advanceQueue.queue = s.queue ∧
        (s.run.state = .running → s.advanceQueue.run.state = .faulted ∧ s.advanceQueue.run.fault = some
          { kind := .queueDry, bar := none, course := none, angle := s.angle, more := false }) ∧
        (s.run.state = .faulted → s.advanceQueue.run.fault = s.run.fault.map fun f => { f with more := true })) := by
  rw [advanceQueue_empty h]
  refine ⟨fun ended => if_pos ended, fun ended => ?_⟩
  rw [if_neg (by simp [ended]), State.hardFault_queue]
  refine ⟨rfl, fun running => ?_, fun faulted => ?_⟩
  · rw [State.hardFault_running running]
    simp
  · rw [State.hardFault_faulted faulted]
    rfl

/-! ### O34 -/

/-- Settles O34, by the sequencer state that the queue finds at the boundary. -/
theorem forwardBoundariesAdvanceTheQueue : Obligations.ForwardBoundariesAdvanceTheQueue := by
  unfold Obligations.ForwardBoundariesAdvanceTheQueue
  intro time s held later source valid hk wrap
  obtain ⟨exec, -⟩ := exec_encoderCount held later source
  have side := takeCount_shaftSide .forward time { s with now := time }
  have taken := takeCount_forward_wrap (s := { s with now := time }) hk valid wrap time
  obtain ⟨queue, builder, arbiter, constants, tracker⟩ := atForwardBoundary_reads time { s with now := time }
  have angle := atForwardBoundary_angle (s := { s with now := time }) valid wrap time
  obtain ⟨placing, active⟩ := atForwardBoundary_run (s := { s with now := time }) hk time
  have moved := takeCount_tracker .forward time { s with now := time }
  rw [if_pos ⟨valid, rfl, by simp [wrap]⟩, Tracker.measure_eq] at moved
  generalize hu : State.atForwardBoundary time { s with now := time } = u at *
  obtain ⟨queue', builder', arbiter', run', shows⟩ := watchCeiling_reads State.queueForward u
  have kept := queueForward_builder u
  rw [taken] at exec side moved
  change u.queue = s.queue at queue
  change u.builder = s.builder at builder
  change u.arbiter = s.arbiter at arbiter
  refine ⟨_, exec, side.only, builder'.trans (kept.1.trans builder), arbiter'.trans (kept.2.trans arbiter), ?_, ?_, ?_,
    fun running running' falls => ?_, fun halted => ?_, fun ended => ?_, fun moving => ⟨fun retreat => ?_, fun backlog => ?_⟩⟩
  · rw [moved]
    simp [Tracker.count, countFrom, wrap]
  · rw [moved]
  · rw [moved]
    rfl
  · obtain ⟨state, -⟩ := active (by simp [running])
    refine watchCeiling_drop (by rw [state]; exact running) running' ?_
    rw [State.governingCeiling_congr (s := s) state queue builder constants]
    exact falls
  · obtain ⟨state, -⟩ := active (by simp [halted])
    rw [queue', queueForward_halted (by rw [state]; exact halted), queue]
  · obtain ⟨state, -⟩ := active (by simp [ended])
    obtain ⟨overrun, run, -, -, event⟩ := overrunForward_reads u
    rw [queue', run', queueForward_ended (by rw [state]; exact ended), overrun, run, queue, state]
    refine ⟨rfl, ended, rfl, shows _ ?_⟩
    rw [queueForward_ended (by rw [state]; exact ended)]
    exact event
  all_goals
    have state : u.run.state ≠ .halted ∧ u.run.state ≠ .ended ∧ (u.run.state = .running ↔ s.run.state = .running) := by
      by_cases h : s.run.state = .placing
      · simp [placing h, h]
      · obtain ⟨same, -⟩ := active h
        rcases moving with h' | h' | h' <;> simp_all
    obtain ⟨halted, ended, running⟩ := state
  · rw [queue', run', queueForward_backlog halted ended (by rw [queue]; exact retreat), queue]
    exact ⟨rfl, running.mpr⟩
  · have advance := queueForward_advance halted ended (by rw [queue]; exact backlog)
    rw [advance] at queue' run' shows
    rw [queue', run']
    refine ⟨fun r n rest h => ?_, fun r h => ?_, fun h past => ?_, fun h short => ?_, fun few short faulted => ?_⟩
    · obtain ⟨queue'', mark, state⟩ := advanceQueue_many_reads (s := u) (by rw [queue]; exact h)
      rw [queue] at queue''
      exact ⟨queue'', mark, fun h => state.trans (running.mpr h)⟩
    · obtain ⟨⟨records, history, backlog', overrun⟩, mark, ends, dry, -⟩ :=
        advanceQueue_last_reads (s := u) (by rw [queue]; exact h) (by rw [queue]; exact backlog)
      rw [builder] at overrun ends dry
      rw [queue] at history overrun
      simp only [running] at overrun ends dry
      rw [angle] at dry
      refine ⟨records, history, backlog', overrun, mark, fun h h' => ?_, fun h h' => ?_⟩
      · exact ⟨(ends h h').1, shows _ (ends h h').2⟩
      · exact ⟨(dry h h').1, shows _ (dry h h').2.1, (dry h h').2.2⟩
    · have past' := (advanceQueue_empty_reads (s := u) (by rw [queue]; exact h)).1 (by rw [builder]; exact past)
      obtain ⟨overrun, run, -, -, event⟩ := overrunForward_reads u
      rw [past', overrun, run, queue]
      rw [past'] at shows
      exact ⟨rfl, rfl, shows _ event⟩
    · obtain ⟨queue'', dry, -⟩ := (advanceQueue_empty_reads (s := u) (by rw [queue]; exact h)).2 (by rw [builder]; exact short)
      rw [angle] at dry
      exact ⟨queue''.trans queue, fun h => dry (running.mpr h)⟩
    · obtain ⟨same, fault⟩ := active (by simp [faulted])
      have faulted' : u.run.state = .faulted := same.trans faulted
      rw [← fault]
      match h : s.queue.records with
      | [] =>
        exact ((advanceQueue_empty_reads (s := u) (by rw [queue]; exact h)).2 (by rw [builder]; exact short)).2.2 faulted'
      | [r] =>
        exact (advanceQueue_last_reads (s := u) (by rw [queue]; exact h) (by rw [queue]; exact backlog)).2.2.2.2 faulted'
          (by rw [builder]; exact short)
      | _ :: _ :: _ => simp [h] at few

end Sys2Proof.Machine
end


section
/-! A backward boundary: the newest history record comes back to the head, or the retreat or the overrun is counted. -/

namespace Sys2Proof.Machine

/-! ### R99, R100: the record restored -/

/-- The queue with its newest history record at the head again. -/
def CourseQueue.restored (r : Record) (rest : List Record) (q : CourseQueue) : CourseQueue :=
  { q with records := r :: q.records, history := rest }

theorem restore_short {s : State} {r : Record} {rest : List Record} (h : s.queue.history = r :: rest)
    (room : s.queue.records.length < 15) : s.restore = { s with queue := s.queue.restored r rest } := by
  simp only [State.restore, h, CourseQueue.restored, List.length_cons]
  rw [if_neg (by omega), if_neg (by omega)]

/-- R70: a queue brought to 16 records abandons the build. -/
theorem restore_full {s : State} {r : Record} {rest : List Record} (h : s.queue.history = r :: rest)
    (full : s.queue.records.length = 15) :
    s.restore = State.abandonBuild { s with queue := s.queue.restored r rest } := by
  simp only [State.restore, h, CourseQueue.restored, List.length_cons]
  rw [if_neg (by omega), if_pos (by omega)]

theorem restore_over {s : State} {r : Record} {rest : List Record} (h : s.queue.history = r :: rest)
    (over' : s.queue.records.length = 16) :
    s.restore = (State.discardTail { s with queue := s.queue.restored r rest }).abandonBuild := by
  simp only [State.restore, h, CourseQueue.restored, List.length_cons]
  rw [if_pos (by omega)]

/-- R100: the tail goes, the builder position is its origin, and the new tail is reopened. -/
theorem discardTail_concat {s : State} {front : List Record} {last tail : Record}
    (h : s.queue.records = front ++ [last, tail]) : s.discardTail =
      { s with
        queue := { s.queue with records := front ++ [last.reopen s.constants] }
        builder := { s.builder with position := tail.origin, ended := false } } := by
  have split : s.queue.records = (front ++ [last]) ++ [tail] := by simp [h]
  unfold State.discardTail
  rw [split, List.getLast?_concat, List.dropLast_concat, mapLast_concat]

/-- A restored record leaves run control. -/
@[simp] theorem State.restore_run (s : State) : s.restore.run = s.run := by
  unfold State.restore State.discardTail
  split
  · rfl
  · dsimp only
    split
    · split <;> rfl
    · split <;> rfl

/-! ### Which way the queue takes a backward boundary -/

theorem queueBackward_halted {s : State} (h : s.run.state = .halted) : s.queueBackward = s := by
  simp [State.queueBackward, h]

/-- R102: in ENDED, or past the end with an overrun, the overrun falls first. -/
theorem queueBackward_overrun {s : State} (halted : s.run.state ≠ .halted)
    (past : s.run.state = .ended ∨ (s.queue.records = [] ∧ s.builder.ended = true)) (h : 0 < s.queue.overrun) :
    s.queueBackward = { s with queue := { s.queue with overrun := s.queue.overrun - 1 } } := by
  have falls : s.overrunBackward = { s with queue := { s.queue with overrun := s.queue.overrun - 1 } } := if_pos h
  unfold State.queueBackward
  split
  · contradiction
  · exact falls
  · next ended =>
    obtain ⟨records, last⟩ := past.resolve_left ended
    rw [if_pos (by simp [State.pastEnd, records, last, h])]
    exact falls

/-- R102: in ENDED with the history empty nothing follows. -/
theorem queueBackward_ended_empty {s : State} (ended : s.run.state = .ended) (h : s.queue.overrun = 0)
    (history : s.queue.history = []) : s.queueBackward = s := by
  simp [State.queueBackward, State.overrunBackward, ended, h, history]

/-- R101: a history found empty is a retreat. -/
theorem queueBackward_retreat {s : State} (halted : s.run.state ≠ .halted) (ended : s.run.state ≠ .ended)
    (within : ¬(s.queue.records = [] ∧ s.builder.ended = true ∧ 0 < s.queue.overrun)) (history : s.queue.history = []) :
    s.queueBackward = s.retreat := by
  unfold State.queueBackward
  split
  · contradiction
  · contradiction
  · rw [if_neg (by simpa [State.pastEnd, and_assoc] using within), history]

/-- R99, R102: otherwise the newest history record is restored, and ENDED returns to RUNNING. -/
theorem queueBackward_restore {s : State} {r : Record} {rest : List Record} (halted : s.run.state ≠ .halted)
    (history : s.queue.history = r :: rest) (overrun : s.run.state = .ended → s.queue.overrun = 0)
    (within : ¬(s.queue.records = [] ∧ s.builder.ended = true ∧ 0 < s.queue.overrun)) :
    s.queueBackward =
      if s.run.state = .ended then { s.restore with run := { s.run with state := .running } } else s.restore := by
  unfold State.queueBackward
  split
  · contradiction
  · next ended => simp [State.overrunBackward, overrun ended, history, ended]
  · next ended =>
    rw [if_neg (by simpa [State.pastEnd, and_assoc] using within), if_neg ended, history]

/-- R101: a retreat counts the backlog with BACKOFF, and BACKLOG_FULL at 255. -/
theorem retreat_reads (s : State) : s.retreat.queue = { s.queue with backlog := min 255 (s.queue.backlog + 1) } ∧
    s.retreat.builder = s.builder ∧ s.retreat.arbiter = s.arbiter ∧ s.retreat.run.causes.backoff = true ∧
    BothShow .backoff s.retreat ∧
    (s.queue.backlog < 255 → s.retreat.run.state = s.run.state) ∧
    (s.run.state = .running → s.queue.backlog = 255 → s.retreat.run.state = .faulted ∧ BothShow .fault s.retreat ∧
      s.retreat.run.fault = some
        { kind := .backlogFull, bar := none, course := s.headCourse, angle := s.angle, more := false }) ∧
    (s.run.state = .faulted → s.queue.backlog = 255 →
      s.retreat.run.fault = s.run.fault.map fun f => { f with more := true }) := by
  generalize hs : (State.setCause .backoff
      { s with queue := { s.queue with backlog := min 255 (s.queue.backlog + 1) } }).raise .backoff = s'
  have queue : s'.queue = { s.queue with backlog := min 255 (s.queue.backlog + 1) } := by simp [← hs]
  have builder : s'.builder = s.builder := by simp [← hs]
  have arbiter : s'.arbiter = s.arbiter := by simp [← hs]
  have run : s'.run = { s.run with causes := { s.run.causes with backoff := true } } := by simp [← hs, StopCauses.add]
  have shows : BothShow .backoff s' := by rw [← hs]; exact bothShow_raise _ _
  have head : s'.headCourse = s.headCourse := by simp [State.headCourse, queue]
  have angle : s'.angle = s.angle := by simp [State.angle, ← hs]
  have retreat : s.retreat = if s.queue.backlog = 255 then s'.hardFault .backlogFull none s'.headCourse else s' := by
    rw [← hs]
    rfl
  rw [retreat]
  by_cases full : s.queue.backlog = 255
  · rw [if_pos full, State.hardFault_queue, State.hardFault_builder, State.hardFault_arbiter, State.hardFault_causes]
    refine ⟨queue, builder, arbiter, by rw [run], shows.mono (hardFault_runSide _ _ _ s').ports, fun h => by omega,
      fun running _ => ?_, fun faulted _ => ?_⟩
    · rw [State.hardFault_running (by rw [run]; exact running)]
      exact ⟨by simp, bothShow_enterFaulted _ _ _ _, by simp [head, angle]⟩
    · rw [State.hardFault_faulted (by rw [run]; exact faulted), State.faultMore, run]
  · rw [if_neg full]
    exact ⟨queue, builder, arbiter, by rw [run], shows, fun _ => by rw [run], fun _ h => absurd h full,
      fun _ h => absurd h full⟩

/-! ### O35 -/

/-- A reverse count at the wrap as the queue finds it. -/
theorem counted_reverse_reads (t : Nat) (s : State) : (s.counted .reverse t).queue = s.queue ∧
    (s.counted .reverse t).builder = s.builder ∧ (s.counted .reverse t).arbiter = s.arbiter ∧
    (s.counted .reverse t).constants = s.constants ∧
    (s.counted .reverse t).tracker = s.tracker.count s.constants.counts t .reverse ∧
    (s.run.state = .placing → (s.counted .reverse t).run.state = .faulted) ∧
    (s.run.state ≠ .placing → (s.counted .reverse t).run = s.run) := by
  obtain ⟨-, -, -, tracker, constants, -, arbiter, -, -, -, builder, queue, -, -, -⟩ := counted_runSide .reverse t s
  refine ⟨queue, builder, arbiter, constants, tracker, fun h => ?_, fun h => ?_⟩
  · rw [counted_of_placing h]
    simp
  · rw [counted_of_not_placing h]

/-- R99, R100: what the queue, the builder and the arbiter are once a record has been restored. -/
theorem restore_reads {s : State} {r : Record} {rest : List Record} (h : s.queue.history = r :: rest) :
    (s.queue.records.length < 15 →
      s.restore.queue = { s.queue with records := r :: s.queue.records, history := rest } ∧
        s.restore.builder = s.builder ∧ s.restore.arbiter = s.arbiter) ∧
    (s.queue.records.length = 15 →
      s.restore.queue = { s.queue with records := r :: s.queue.records, history := rest } ∧
        s.restore.builder = { s.builder with build := none, buffer := [] } ∧
        s.restore.arbiter = { s.arbiter with fetchWaiting := false }) ∧
    ∀ front last tail, r :: s.queue.records = front ++ [last, tail] → s.queue.records.length = 16 →
      s.restore.queue = { s.queue with records := front ++ [last.reopen s.constants], history := rest } ∧
        s.restore.builder = { position := tail.origin, ended := false, build := none, buffer := [] } ∧
        s.restore.arbiter = { s.arbiter with fetchWaiting := false } := by
  refine ⟨fun room => ?_, fun full => ?_, fun front last tail ends beyond => ?_⟩
  · rw [restore_short h room]
    exact ⟨rfl, rfl, rfl⟩
  · rw [restore_full h full]
    exact ⟨rfl, rfl, rfl⟩
  · rw [restore_over h beyond, discardTail_concat (s := { s with queue := s.queue.restored r rest }) ends]
    exact ⟨rfl, rfl, rfl⟩

/-- Settles O35, by the way the queue takes the boundary. -/
theorem backwardBoundariesRestoreTheHistory : Obligations.BackwardBoundariesRestoreTheHistory := by
  unfold Obligations.BackwardBoundariesRestoreTheHistory
  intro time s held later source valid hk wrap
  obtain ⟨-, exec⟩ := exec_encoderCount held later source
  have side := takeCount_shaftSide .reverse time { s with now := time }
  have taken := (takeCount_reverse (s := { s with now := time }) hk valid time).trans (if_pos wrap)
  obtain ⟨counter, -⟩ := takeCount_moves .reverse time { s with now := time }
  obtain ⟨start, period⟩ := takeCount_reverse_period time { s with now := time }
  obtain ⟨queue, builder, arbiter, constants, tracker, placing, active⟩ := counted_reverse_reads time { s with now := time }
  generalize hu : State.counted .reverse time { s with now := time } = u at *
  obtain ⟨queue', builder', arbiter', run', shows⟩ := watchCeiling_reads State.queueBackward u
  change u.queue = s.queue at queue
  change u.builder = s.builder at builder
  change u.arbiter = s.arbiter at arbiter
  change u.constants = s.constants at constants
  change s.run.state = .placing → u.run.state = .faulted at placing
  change s.run.state ≠ .placing → u.run = s.run at active
  have state : (u.run.state = .halted ↔ s.run.state = .halted) ∧ (u.run.state = .ended ↔ s.run.state = .ended) := by
    by_cases h : s.run.state = .placing
    · simp [placing h, h]
    · rw [active h]
      exact ⟨.rfl, .rfl⟩
  rw [State.backwardBoundary] at taken
  rw [taken] at exec side counter start period
  refine ⟨_, exec, side.only, by rw [counter]; simp [countFrom, wrap], start, period, fun running running' falls => ?_,
    fun halted => ?_, fun halted past falls => ?_, fun ended overrun history => ?_, fun moving within history => ?_,
    fun r rest halted history overrun within => ?_⟩
  · have run := active (by simp [running])
    refine watchCeiling_drop (by rw [run]; exact running) running' ?_
    rw [State.governingCeiling_congr (s := s) (by rw [run]) queue builder constants]
    exact falls
  · rw [queue', builder', queueBackward_halted (state.1.mpr halted)]
    exact ⟨queue, builder⟩
  · rw [queue', builder', run', queueBackward_overrun (fun h => halted (state.1.mp h))
      (by rw [state.2, queue, builder]; exact past) (by rw [queue]; exact falls), queue]
    exact ⟨rfl, builder, active⟩
  · rw [queue', builder', run', queueBackward_ended_empty (state.2.mpr ended) (by rw [queue]; exact overrun)
      (by rw [queue]; exact history)]
    exact ⟨queue, builder, active (by simp [ended])⟩
  · have retreat := queueBackward_retreat (s := u) (by rw [Ne, state.1]; rcases moving with h | h | h <;> simp [h])
      (by rw [Ne, state.2]; rcases moving with h | h | h <;> simp [h]) (by rw [queue, builder]; exact within)
      (by rw [queue]; exact history)
    obtain ⟨backlog, builder'', arbiter'', backoff, event, below, full, more⟩ := retreat_reads u
    have angle : u.angle = some ((s.constants.counts - 1) * 4096 / s.constants.counts) := by
      rw [State.angle, tracker, constants]
      simp [Tracker.count, countFrom, wrap, valid, angleOf]
    have head : u.headCourse = s.headCourse := by rw [State.headCourse, queue]; rfl
    rw [queue] at backlog below full more
    rw [head, angle] at full
    rw [retreat] at queue' builder' arbiter' run' shows
    rw [queue', builder', arbiter', run']
    refine ⟨backlog, builder''.trans builder, arbiter''.trans arbiter, backoff, shows _ event, fun running room => ?_,
      fun running h => ?_, fun faulted h => ?_⟩
    · rw [below room, active (by simp [running])]
      exact running
    · obtain ⟨faulted, shown, fault⟩ := full (by rw [active (by simp [running])]; exact running) h
      exact ⟨faulted, shows _ shown, fault⟩
    · have run := active (by simp [faulted])
      rw [more (by rw [run]; exact faulted) h, run]
  · have restored := queueBackward_restore (s := u) (r := r) (rest := rest) (fun h => halted (state.1.mp h))
      (by rw [queue]; exact history) (fun h => by rw [queue]; exact overrun (state.2.mp h))
      (by rw [queue, builder]; exact within)
    obtain ⟨short, full, beyond⟩ := restore_reads (s := u) (r := r) (rest := rest) (by rw [queue]; exact history)
    have parts : u.queueBackward.queue = u.restore.queue ∧ u.queueBackward.builder = u.restore.builder ∧
        u.queueBackward.arbiter = u.restore.arbiter := by
      rw [restored]
      split <;> exact ⟨rfl, rfl, rfl⟩
    obtain ⟨queue'', builder'', arbiter''⟩ := parts
    rw [queue', builder', arbiter', run', queue'', builder'', arbiter'']
    rw [queue, builder, arbiter] at short full
    rw [queue, arbiter, constants] at beyond
    refine ⟨fun ended => ?_, fun moving => ?_, short, full, beyond⟩
    · rw [restored, if_pos (state.2.mpr ended), active (by simp [ended])]
    · rw [restored, if_neg (by rw [state.2]; rcases moving with h | h <;> simp [h]), State.restore_run]
      exact active (by rcases moving with h | h <;> simp [h])

end Sys2Proof.Machine
end


section
/-! The simulated shaft: a count of the schedule beside the encoder's count. The two part only in the timebase, the source and
the schedule, which nothing in a count reads but the posting of orders. -/

namespace Sys2Proof.Machine

/-! ### The part with the simulated shaft in place of the encoder -/

/-- The part with another timebase, the source SIMULATED and this schedule. -/
def State.simulating (n : Nat) (sch : Option Schedule) (s : State) : State :=
  { s with now := n, tracker := { s.tracker with source := .simulated, schedule := sch } }

section
variable (n : Nat) (sch : Option Schedule)

theorem simulating_raiseIf (c : Bool) (e : Event) (s : State) :
    (s.simulating n sch).raiseIf c e = (s.raiseIf c e).simulating n sch := by
  cases c <;> rfl

theorem simulating_watchStop {f : State → State} {s : State} (hf : f (s.simulating n sch) = (f s).simulating n sch) :
    (s.simulating n sch).watchStop f = (s.watchStop f).simulating n sch := by
  unfold State.watchStop
  rw [hf, simulating_raiseIf]
  rfl

theorem simulating_setCause (c : StopCause) (s : State) :
    (s.simulating n sch).setCause c = (s.setCause c).simulating n sch := simulating_watchStop n sch rfl

theorem simulating_purge (s : State) : (s.simulating n sch).purge = s.purge.simulating n sch :=
  simulating_raiseIf n sch (s.bars.any Bar.outstanding) .barLost
    { s with lanes := s.lanes.map Lane.purge, bars := s.bars.map Bar.purge }

theorem simulating_enterFaulted (k : FaultKind) (b c : Option Nat) (s : State) :
    (s.simulating n sch).enterFaulted k b c = (s.enterFaulted k b c).simulating n sch := by
  unfold State.enterFaulted
  rw [simulating_watchStop n sch (by rfl), simulating_purge]
  rfl

theorem simulating_hardFault (k : FaultKind) (b c : Option Nat) (s : State) :
    (s.simulating n sch).hardFault k b c = (s.hardFault k b c).simulating n sch := by
  have state : (s.simulating n sch).run.state = s.run.state := rfl
  unfold State.hardFault
  rw [state]
  cases s.run.state with
  | placing | running => exact simulating_enterFaulted n sch k b c s
  | ended =>
    dsimp only
    split
    · exact simulating_enterFaulted n sch k b c s
    · rfl
  | faulted | halted => rfl

theorem simulating_deadlineCrossing (d : Deadline) (s : State) :
    (s.simulating n sch).deadlineCrossing d = (s.deadlineCrossing d).simulating n sch := by
  have bars : (s.simulating n sch).bars = s.bars := rfl
  unfold State.deadlineCrossing
  rw [bars]
  split
  · exact congrArg (State.raise .late) (simulating_setCause n sch .late
      { s with bars := s.bars.map fun bar => if bar.hasDeadline d then bar.dropDeadline else bar })
  · rfl

theorem simulating_deadlinesFrom (a a' : Nat) (s : State) :
    (s.simulating n sch).deadlinesFrom a a' = (s.deadlinesFrom a a').simulating n sch := by
  have constants (u : State) : (u.simulating n sch).constants = u.constants := rfl
  unfold State.deadlinesFrom
  dsimp only
  rw [constants]
  split
  · rw [simulating_deadlineCrossing, constants]
    split
    · exact simulating_deadlineCrossing n sch _ _
    · rfl
  · rw [constants]
    split
    · exact simulating_deadlineCrossing n sch _ _
    · rfl

theorem simulating_counted (t : Nat) (s : State) :
    (s.simulating n sch).counted .forward t = (s.counted .forward t).simulating n sch := by
  have state : (s.simulating n sch).run.state = s.run.state := rfl
  by_cases h : s.run.state = .placing
  · rw [counted_of_placing h, counted_of_placing (state.trans h)]
    exact simulating_enterFaulted n sch .disturbed none s.headCourse
      { s with tracker := s.tracker.count s.constants.counts t .forward }
  · rw [counted_of_not_placing h, counted_of_not_placing (by rwa [state])]
    rfl

theorem simulating_pastDeadlines (t : Nat) (s : State) :
    (s.simulating n sch).pastDeadlines t = (s.pastDeadlines t).simulating n sch := by
  unfold State.pastDeadlines
  rw [simulating_counted, simulating_deadlinesFrom]
  rfl

theorem simulating_overrunForward (s : State) :
    (s.simulating n sch).overrunForward = s.overrunForward.simulating n sch :=
  congrArg (State.raise .overrun) (simulating_setCause n sch .overrun
    { s with queue := { s.queue with overrun := min 255 (s.queue.overrun + 1) } })

theorem simulating_headLeaves (r : Record) (rest : List Record) (s : State) :
    (s.simulating n sch).headLeaves r rest = (s.headLeaves r rest).simulating n sch := by
  unfold State.headLeaves
  split
  · exact simulating_setCause n sch .mark { s with queue := s.queue.execute r rest }
  · rfl

theorem simulating_endArticle (s : State) : (s.simulating n sch).endArticle = s.endArticle.simulating n sch := by
  have state : (s.simulating n sch).run.state = s.run.state := rfl
  unfold State.endArticle
  rw [state]
  split <;> rfl

theorem simulating_advanceQueue (s : State) : (s.simulating n sch).advanceQueue = s.advanceQueue.simulating n sch := by
  have queue : (s.simulating n sch).queue = s.queue := rfl
  have builder : (s.simulating n sch).builder = s.builder := rfl
  unfold State.advanceQueue
  rw [queue, builder]
  split
  · split
    · exact simulating_overrunForward n sch s
    · exact simulating_hardFault n sch _ _ _ s
  · rw [simulating_headLeaves]
    split
    · exact simulating_endArticle n sch _
    · exact simulating_hardFault n sch _ _ _ _
  · exact simulating_headLeaves n sch _ _ s

theorem simulating_queueForward (s : State) : (s.simulating n sch).queueForward = s.queueForward.simulating n sch := by
  have state : (s.simulating n sch).run.state = s.run.state := rfl
  have queue : (s.simulating n sch).queue = s.queue := rfl
  unfold State.queueForward
  rw [state, queue]
  cases s.run.state with
  | halted => rfl
  | ended => exact simulating_overrunForward n sch s
  | placing | running | faulted =>
    dsimp only
    split
    · rfl
    · exact simulating_advanceQueue n sch s

theorem simulating_forwardBoundary (t : Nat) (s : State) :
    (s.simulating n sch).forwardBoundary t = (s.forwardBoundary t).simulating n sch := by
  have measured : ({ s.simulating n sch with tracker := (s.simulating n sch).tracker.measure t } : State) =
      State.simulating n sch { s with tracker := s.tracker.measure t } := by
    rw [Tracker.measure_eq, Tracker.measure_eq]
    rfl
  unfold State.forwardBoundary State.watchCeiling
  rw [measured, simulating_queueForward, simulating_raiseIf]
  rfl

end

/-! ### A simulated count (R12) -/

/-- R3: the simulated index follows the count at the wrap: it makes an invalid angle valid, and passes a valid one. -/
theorem simulate_eq (t : Nat) (s : State) : s.simulate t =
    if ¬s.tracker.counter + 1 < s.constants.counts ∧ s.tracker.angleValid = false then
      { State.takeCount .forward t { s with tracker := s.tracker.giveCount } with
        tracker := { (State.takeCount .forward t { s with tracker := s.tracker.giveCount }).tracker with
          angleValid := true, startTime := none } }
    else State.takeCount .forward t { s with tracker := s.tracker.giveCount } := by
  obtain ⟨counter, -, -, rest⟩ := takeCount_moves .forward t { s with tracker := s.tracker.giveCount }
  have valid := congrArg Tracker.angleValid rest
  unfold State.simulate
  generalize State.takeCount .forward t { s with tracker := s.tracker.giveCount } = u at *
  change u.tracker.angleValid = s.tracker.angleValid at valid
  change u.tracker.counter = countFrom s.constants.counts s.tracker.counter .forward at counter
  by_cases wrap : s.tracker.counter + 1 < s.constants.counts
  · simp [wraps, wrap]
  · have zero : u.tracker.counter = 0 := by simp [counter, countFrom, wrap]
    rw [if_pos (by simpa [wraps] using wrap)]
    unfold State.takeIndex
    cases hv : s.tracker.angleValid with
    | true =>
      rw [if_pos (valid.trans hv), zero, if_pos (by simp [indexDistance]), if_neg (by simp)]
    | false =>
      rw [if_neg (by simp [valid, hv]), if_pos ⟨wrap, rfl⟩, ← zero]

end Sys2Proof.Machine
end


section
/-! ENCODER_INDEX, STILL_TIMER_EXPIRY and SIMULATED_COUNT. -/

namespace Sys2Proof.Machine

/-! ### The index (R3) -/

/-- R136, R137: in RUNNING a hard fault without a bar, as a statement says it. -/
theorem hardFault_takes {k : FaultKind} {c : Option Nat} {s u : State} (running : s.run.state = .running)
    (run : u.run = s.run) : TakesHardFault { kind := k, bar := none, course := c, angle := u.angle, more := false } s
      (u.hardFault k none c) := by
  have stop : u.stopRequested = s.stopRequested := by rw [State.stopRequested, run]; rfl
  unfold TakesHardFault
  rw [running, State.hardFault_running (by rw [run]; exact running)]
  dsimp only
  rw [State.enterFaulted_run, run]
  exact ⟨rfl, bothShow_enterFaulted _ _ _ _, fun released => stopRequest_enterFaulted (stop.trans released) _ _ _,
    State.enterFaulted_lane _ _ _ _, State.enterFaulted_outstanding _ _ _ _⟩

/-- R3: what SLIP does. -/
theorem slip_reads {s : State} (valid : s.tracker.angleValid = true) :
    s.slip.tracker = { s.tracker with counter := 0, startTime := none, period := none } ∧ BothShow .slip s.slip ∧
      s.slip.queue = s.queue ∧ s.slip.builder = s.builder ∧ s.slip.arbiter = s.arbiter ∧
      (s.run.state ≠ .running → s.slip.run = s.run ∧ s.slip.bars = s.bars ∧ s.slip.lanes = s.lanes) ∧
      (s.run.state = .running → TakesHardFault
        { kind := .slip, bar := none, course := s.headCourse, angle := some 0, more := false } s s.slip) := by
  generalize hu : State.raise .slip
    { s with tracker := { s.tracker with counter := 0, startTime := none, period := none } } = u
  have run : u.run = s.run := by rw [← hu]; rfl
  have angle : u.angle = some 0 := by simp [← hu, State.angle, valid, angleOf]
  have head : u.headCourse = s.headCourse := by rw [← hu]; rfl
  have shows : BothShow .slip u := by rw [← hu]; exact bothShow_raise .slip _
  have slip : s.slip = if s.run.state = .running then u.hardFault .slip none u.headCourse else u := by
    rw [← hu]
    rfl
  rw [slip]
  by_cases running : s.run.state = .running
  · rw [if_pos running, State.hardFault_tracker, State.hardFault_queue, State.hardFault_builder, State.hardFault_arbiter]
    have takes := hardFault_takes (k := .slip) (c := u.headCourse) running run
    rw [angle, head] at takes
    rw [head]
    exact ⟨by rw [← hu]; rfl, shows.mono (hardFault_runSide _ _ _ u).ports, by rw [← hu]; rfl, by rw [← hu]; rfl,
      by rw [← hu]; rfl, fun h => absurd running h, fun _ => takes⟩
  · rw [if_neg running]
    subst hu
    exact ⟨rfl, shows, rfl, rfl, rfl, fun _ => ⟨rfl, rfl, rfl⟩, fun h => absurd h running⟩

theorem exec_encoderIndex {s : State} (held : s.resetHeld = false) :
    exec .encoderIndex s = .next (if s.tracker.source = .encoder then s.takeIndex else s) := by
  have run : exec .encoderIndex s = execEncoderIndex s := rfl
  rw [run]
  unfold execEncoderIndex State.unlessHeld
  simp [held]

/-! ### The still timer (R8) -/

theorem exec_stillTimerExpiry {time : Nat} {s : State} (held : s.resetHeld = false) (later : s.now ≤ time) :
    exec (.stillTimerExpiry time) s = .next (match s.tracker.stillTimer with
      | some t => if t + 250000 ≤ time then { s with now := time, tracker := s.tracker.becomeStill }
        else { s with now := time }
      | none => { s with now := time }) := by
  have run : exec (.stillTimerExpiry time) s = execStillTimerExpiry time s := rfl
  rw [run]
  unfold execStillTimerExpiry State.unlessHeld
  rw [State.elapse_eq later]
  simp only [held, Bool.false_eq_true, if_false]
  cases s.tracker.stillTimer <;> rfl

/-! ### Which bars a count orders -/

/-- A forward entry as the model takes it is one as a statement says it. -/
theorem entersZone_of_entered {g b target : Nat} {x : Crossing} {s : State}
    (short : s.tracker.counter + 1 < s.constants.counts) (hx : s.entered g = some x)
    (ht : s.queue.zoneTarget x.zone b = some target) : ∃ need d, EntersZone g b target need d s := by
  have reach : s.reach = (s.tracker.counter + 1) * 4096 / s.constants.counts := if_pos short
  unfold EntersZone
  rcases forwardCrossing_cases hx with ⟨rfl, after, upTo⟩ | ⟨rfl, after, upTo⟩ <;> rw [reach] at upTo <;>
    unfold CourseQueue.zoneTarget at ht <;> simp only [Crossing.zone] at ht
  · cases hr : s.queue.records with
    | nil => simp [hr] at ht
    | cons r rest =>
      rw [hr] at ht
      exact ⟨_, .overlapEnd, short, _, r, rest, after, upTo, rfl, .inl ⟨rfl, rfl, (Option.some.inj ht).symm, rfl⟩⟩
  · match hr : s.queue.records with
    | [] => simp [hr] at ht
    | [r] =>
      rw [hr] at ht
      by_cases last : r.articleEnd = true
      · simp only [last, if_true] at ht
        exact ⟨0, .underlapEnd, short, _, r, [], after, upTo, rfl,
          .inr ⟨rfl, rfl, .inr ⟨rfl, last, (Option.some.inj ht).symm, rfl⟩⟩⟩
      · simp [last] at ht
    | r :: next :: rest =>
      rw [hr] at ht
      exact ⟨_, .underlapEnd, short, _, r, next :: rest, after, upTo, rfl,
        .inr ⟨rfl, rfl, .inl ⟨next, rest, rfl, (Option.some.inj ht).symm, rfl⟩⟩⟩

/-- R113: the bar that a forward count orders, as the model takes it. -/
theorem entryOrders_crossing {b target : Nat} {s : State} (hk : validConstants s.constants = true)
    (h : s.EntryOrders b target) : s.tracker.counter + 1 < s.constants.counts ∧
      ∃ x, s.entered (s.bar b).lane = some x ∧ s.queue.zoneTarget x.zone b = some target := by
  obtain ⟨-, -, -, -, -, lane, -, -, need, d, enters⟩ := h
  obtain ⟨x, hx, -, ht, -⟩ := enters.crossing (u := s) hk lane rfl rfl rfl rfl rfl
  exact ⟨enters.1, x, hx, ht⟩

/-- A bar that is not ordered at its group's crossing is left alone by the count. -/
theorem crossings_leaves_unordered {f : Nat → Option Crossing} {b : Nat} {u : State} (hf : Crossable f u)
    (h : ∀ x, crossingOf f b (u.bar b) = some x → u.ordersAt (u.bar b).lane x b = false) : Aside b u (u.crossings f) := by
  cases hx : crossingOf f b (u.bar b) with
  | none => exact crossings_aside hf hx
  | some x =>
    obtain ⟨m, before, after⟩ := crossings_reaches hf hx
    have same : m.ordersAt (u.bar b).lane x b = u.ordersAt (u.bar b).lane x b := by
      unfold State.ordersAt
      rw [before.side.queue, before.bar]
    rw [orderAtCrossing_not (same.trans (h x hx))] at after
    exact before.trans after

/-- A count that orders no bar leaves the part as it is. -/
theorem crossings_unordered {f : Nat → Option Crossing} {u : State} (hf : Crossable f u)
    (h : ∀ g x b, g < 4 → f g = some x → b < 48 → u.ordersAt g x b = false) : u.crossings f = u := by
  refine foldl_rel (f := State.takeCrossing f) (R := fun s t => s = u → t = u) (fun _ => id)
    (fun h k hs => k (h hs)) (List.range 4) (fun g hg s hs => ?_) u rfl
  subst hs
  have inside := List.mem_range.mp hg
  cases hx : f g with
  | none => exact takeCrossing_none hx s
  | some x =>
    rw [takeCrossing_some hx, zoneCrossing_targets ⟨hf.running, hf.backlog⟩ (hf.targets g inside x hx)]
    refine foldl_rel (R := fun a t => a = s → t = s) (fun _ => id) (fun h k hs => k (h hs)) (List.range 48)
      (fun b hb a ha => ?_) s rfl
    subst ha
    exact orderAtCrossing_not (h g x b inside hx (List.mem_range.mp hb))

/-! ### A simulated count beside the encoder's (R12, R129) -/

/-- A count whose crossings order no bar is the same from the simulated shaft as from the encoder. -/
theorem simulating_crossings (n : Nat) (sch : Option Schedule) {f : Nat → Option Crossing} {u : State}
    (uniform : ∀ g, g < 4 → ∀ g', g' < 4 → ∀ x y, f g = some x → f g' = some y → x = y)
    (h : u.run.state = .running → u.queue.backlog = 0 →
      ∀ g x b, g < 4 → f g = some x → b < 48 → u.ordersAt g x b = false) :
    (u.simulating n sch).crossings f = (u.crossings f).simulating n sch := by
  by_cases active : u.run.state = .running ∧ u.queue.backlog = 0
  · have active' : (u.simulating n sch).run.state = .running ∧ (u.simulating n sch).queue.backlog = 0 := active
    rcases crossable_or_dry active.1 active.2 uniform with crossable | dry
    · have crossable' : Crossable f (u.simulating n sch) := crossable.of_same rfl rfl
      have unordered := h active.1 active.2
      rw [crossings_unordered crossable unordered]
      exact crossings_unordered crossable' unordered
    · rw [crossings_dry active dry, crossings_dry active' dry, simulating_enterFaulted]
      split <;> rfl
  · have active' : ¬((u.simulating n sch).run.state = .running ∧ (u.simulating n sch).queue.backlog = 0) := active
    rw [crossings_quiet active, crossings_quiet active']

section
variable {t n : Nat} {sch : Option Schedule} {s : State}

/-- Which bars a count that crosses zones orders after its deadlines: those of `EntryOrders`. -/
theorem ordersAt_iff_entryOrders {b : Nat} {x : Crossing} (hk : validConstants s.constants = true)
    (valid : s.tracker.angleValid = true) (running : s.run.state = .running) (backlog : s.queue.backlog = 0)
    (short : s.tracker.counter + 1 < s.constants.counts)
    (hx : crossingOf s.entered b ((s.pastDeadlines t).bar b) = some x) :
    (s.pastDeadlines t).ordersAt ((s.pastDeadlines t).bar b).lane x b = true ↔ ∃ target, s.EntryOrders b target := by
  unfold crossingOf at hx
  split at hx
  case isFalse => cases hx
  next place =>
  obtain ⟨b48, hlane⟩ := place
  have queue : (s.pastDeadlines t).queue = s.queue := (pastDeadlines_runSide t s).queue
  have bar := pastDeadlines_bar_of_entry (b := b) hk (active_of_running running) hlane hx t
  obtain ⟨enabled, lane, -, standing, posts⟩ := Bar.passed_reads bar
  constructor
  · intro orders
    obtain ⟨target, ht⟩ := State.target_of_ordersAt orders
    unfold State.ordersAt at orders
    rw [ht] at orders
    simp only [Bar.followsZones, Bool.and_eq_true, Bool.or_eq_true, beq_iff_eq, bne_iff_ne] at orders
    obtain ⟨⟨⟨enabled', -⟩, moves⟩, elsewhere⟩ := orders
    rw [queue] at ht
    rw [lane] at hlane hx
    exact ⟨target, valid, running, backlog, b48, enabled ▸ enabled', hlane, posts.mp moves, standing ▸ elsewhere,
      entersZone_of_entered short hx ht⟩
  · rintro ⟨target, h⟩
    obtain ⟨-, y, hy, ht⟩ := entryOrders_crossing hk h
    obtain ⟨-, -, -, -, enabled', -, moves, elsewhere, -⟩ := h
    rw [lane, hy] at hx
    cases hx
    exact ordersAt_active (enabled.trans enabled') rfl (by rw [queue]; exact ht) (posts.mpr moves)
      (by rw [standing]; exact elsewhere)

/-- A count that crosses zones in RUNNING was taken in RUNNING. -/
theorem running_of_pastDeadlines (hk : validConstants s.constants = true)
    (running : (s.pastDeadlines t).run.state = .running) : s.run.state = .running := by
  obtain ⟨disturbed, kept⟩ := atForwardBoundary_run hk t
  by_cases placing : s.run.state = .placing
  · exact absurd (running.symm.trans (disturbed placing)) (by decide)
  · exact (kept placing).1.symm.trans running

/-- R12: a count that orders no bar is the same from the simulated shaft as from the encoder. -/
theorem takeCount_simulating_unordered (hk : validConstants s.constants = true)
    (none : ¬∃ b target, s.EntryOrders b target) :
    (s.simulating n sch).takeCount .forward t = (s.takeCount .forward t).simulating n sch := by
  cases valid : s.tracker.angleValid with
  | false =>
    rw [takeCount_invalid valid, takeCount_invalid (s := s.simulating n sch) valid, simulating_counted]
  | true =>
    rw [takeCount_forward hk valid, takeCount_forward (s := s.simulating n sch) hk valid, simulating_pastDeadlines]
    by_cases short : s.tracker.counter + 1 < s.constants.counts
    · rw [if_pos short, if_pos (c := (s.simulating n sch).tracker.counter + 1 < (s.simulating n sch).constants.counts) short]
      refine simulating_crossings n sch (fun g hg g' hg' x y => entered_uniform hk hg hg')
        fun running backlog g x b hg hx hb => ?_
      by_cases lane : ((s.pastDeadlines t).bar b).lane = g
      · subst lane
        have queue : (s.pastDeadlines t).queue = s.queue := (pastDeadlines_runSide t s).queue
        rw [queue] at backlog
        have crossing : crossingOf s.entered b ((s.pastDeadlines t).bar b) = some x := (if_pos ⟨hb, hg⟩).trans hx
        refine eq_false_of_ne_true fun orders => none ⟨b, ?_⟩
        exact (ordersAt_iff_entryOrders hk valid (running_of_pastDeadlines hk running) backlog short crossing).mp orders
      · exact State.ordersAt_other lane
    · rw [if_neg short, if_neg (c := (s.simulating n sch).tracker.counter + 1 < (s.simulating n sch).constants.counts) short]
      exact simulating_forwardBoundary n sch t _

/-- An enabled bar is one of the table. -/
theorem State.bar_of_enabled {u : State} {b : Nat} (h : (u.bar b).enabled = true) : b < u.bars.length := by
  by_contra beyond
  rw [State.bar_beyond (by omega)] at h
  cases h

/-- R129: an answered order takes the place of one that may have passed its deadline. -/
theorem Bar.passed_answered {d : Deadline} {bar y : Bar} (h : y = bar.passDeadline d ∨ y = bar) (target : Nat) :
    ({ y with known := some target, handshake := .idle } : Bar) = { bar with known := some target, handshake := .idle } := by
  rcases h with rfl | rfl
  · rcases bar.passDeadline_cases d with same | ⟨c, -, ⟨-, same⟩ | ⟨-, same⟩⟩ <;> rw [same]
  · rfl

/-- R12, R129: the simulated shaft's count beside the encoder's. -/
theorem takeCount_countsAs (hk : validConstants s.constants = true) :
    CountsAs s (s.takeCount .forward t) ((s.simulating n sch).takeCount .forward t) := by
  by_cases some_ordered : ∃ b target, s.EntryOrders b target
  · obtain ⟨b0, target0, first⟩ := id some_ordered
    obtain ⟨short, x0, hx0, ht0⟩ := entryOrders_crossing hk first
    obtain ⟨valid, running, backlog, -, -, hlane0, -⟩ := first
    have active := active_of_running running
    have queue : (s.pastDeadlines t).queue = s.queue := (pastDeadlines_runSide t s).queue
    have crossable : Crossable s.entered (s.pastDeadlines t) :=
      crossable_of_target (by rw [pastDeadlines_run hk active]; exact running) (by rw [queue]; exact backlog)
        (fun g hg g' hg' x y => entered_uniform hk hg hg') hlane0 hx0 (by rw [queue]; exact ht0)
    have crossable' : Crossable s.entered ((s.pastDeadlines t).simulating n sch) := crossable.of_same rfl rfl
    have wet : s.takeCount .forward t = (s.pastDeadlines t).crossings s.entered :=
      (takeCount_forward hk valid t).trans (if_pos short)
    have dry : (s.simulating n sch).takeCount .forward t =
        ((s.pastDeadlines t).simulating n sch).crossings s.entered := by
      rw [← simulating_pastDeadlines]
      exact (takeCount_forward (s := s.simulating n sch) hk valid t).trans (if_pos short)
    have side := crossings_runSide s.entered (s.pastDeadlines t)
    have side' := crossings_runSide s.entered ((s.pastDeadlines t).simulating n sch)
    have ports (p : Port) : (((s.pastDeadlines t).simulating n sch).crossings s.entered).port p =
        ((s.pastDeadlines t).crossings s.entered).port p := by
      rw [crossings_port crossable, crossings_port crossable', simulating_raiseIf]
      rfl
    rw [wet, dry]
    refine ⟨side'.queue.trans side.queue.symm, side'.builder.trans side.builder.symm, side'.arbiter.trans side.arbiter.symm,
      (crossings_run crossable').trans (crossings_run crossable).symm, ports .m, ports .d, fun b target h => ?_,
      fun b h => ?_, fun h => absurd some_ordered h, fun _ => ?_⟩
    · obtain ⟨-, x, hx, ht⟩ := entryOrders_crossing hk h
      obtain ⟨-, -, -, b48, enabled, hlane, moves, elsewhere, -⟩ := h
      have bar := pastDeadlines_bar_of_entry (b := b) hk active hlane hx t
      obtain ⟨enabled', lane, -, standing, posts⟩ := Bar.passed_reads bar
      have crossing : crossingOf s.entered b ((s.pastDeadlines t).bar b) = some x := by
        rw [crossingOf, lane, if_pos ⟨b48, hlane⟩, hx]
      have answered := (crossings_orders_bar crossable' crossing (target := target)
        (by change (s.pastDeadlines t).queue.zoneTarget x.zone b = some target; rw [queue]; exact ht)
        (State.bar_of_enabled (enabled'.trans enabled)) (enabled'.trans enabled) (posts.mpr moves)
        (standing.trans_ne elsewhere)).1 rfl
      exact answered.trans (Bar.passed_answered bar target)
    · have unordered (x : Crossing) (hx : crossingOf s.entered b ((s.pastDeadlines t).bar b) = some x) :
          (s.pastDeadlines t).ordersAt ((s.pastDeadlines t).bar b).lane x b = false :=
        eq_false_of_ne_true fun o => h ((ordersAt_iff_entryOrders hk valid running backlog short hx).mp o)
      exact (crossings_leaves_unordered crossable' unordered).bar.trans
        (crossings_leaves_unordered crossable unordered).bar.symm
    · rw [crossings_lanes_dry crossable' rfl]
      exact pastDeadlines_lanes hk active t
  · rw [takeCount_simulating_unordered hk some_ordered]
    exact ⟨rfl, rfl, rfl, rfl, rfl, rfl, fun b target h => absurd ⟨b, target, h⟩ some_ordered, fun _ _ => rfl, fun _ => rfl,
      fun h => absurd h some_ordered⟩

/-- R1, R9: the tracker parts from the encoder's in the source and the schedule alone. -/
theorem takeCount_simulating_tracker : ((s.simulating n sch).takeCount .forward t).tracker =
    { (s.takeCount .forward t).tracker with source := .simulated, schedule := sch } := by
  have valid : (s.simulating n sch).tracker.angleValid = s.tracker.angleValid := rfl
  have counter : (s.simulating n sch).tracker.counter = s.tracker.counter := rfl
  have constants : (s.simulating n sch).constants = s.constants := rfl
  rw [takeCount_tracker, takeCount_tracker, valid, counter, constants]
  split
  · rw [Tracker.measure_eq, Tracker.measure_eq]
    rfl
  · rfl

end

/-- The part as the encoder's count at `t` would find it. -/
def State.fromEncoder (t : Nat) (s : State) : State :=
  { s with now := t, tracker := { s.tracker with source := .encoder } }

/-- R12: the schedule's count is the encoder's with the simulated shaft in its place. -/
theorem giveCount_eq {time t : Nat} {x : Schedule} {s : State} (source : s.tracker.source = .simulated)
    (schedule : s.tracker.schedule = some x) :
    ({ s with now := time, tracker := s.tracker.giveCount } : State) =
      (s.fromEncoder t).simulating time (some { x with given := x.given + 1 }) := by
  unfold State.simulating State.fromEncoder Tracker.giveCount
  rw [schedule, ← source]
  rfl

theorem unlessHeld_free {s : State} (h : s.resetHeld = false) (f : State → State) : s.unlessHeld f = f s := by
  simp [State.unlessHeld, h]

theorem exec_simulatedCount {time : Nat} {s : State} (held : s.resetHeld = false) (later : s.now ≤ time) :
    exec (.simulatedCount time) s = .next (match s.simulatedDue with
      | some t => if t ≤ time then State.simulate t { s with now := time } else { s with now := time }
      | none => { s with now := time }) := by
  have run : exec (.simulatedCount time) s = execSimulatedCount time s := rfl
  rw [run, execSimulatedCount, State.elapse_eq later, unlessHeld_free (s := { s with now := time }) held]
  rfl

/-- R12, R3: what the schedule's count does, beside the encoder's count at its time. -/
theorem simulate_reads {time due : Nat} {x : Schedule} {s : State} (source : s.tracker.source = .simulated)
    (schedule : s.tracker.schedule = some x) :
    let u := (s.fromEncoder due).takeCount .forward due
    let t := State.simulate due { s with now := time }
    (validConstants s.constants = true → CountsAs s u t) ∧
      t.tracker = { u.tracker with
        source := .simulated, schedule := some { x with given := x.given + 1 }
        angleValid := s.tracker.angleValid || decide (s.constants.counts ≤ s.tracker.counter + 1)
        startTime := if s.tracker.angleValid = false ∧ s.constants.counts ≤ s.tracker.counter + 1 then none
          else u.tracker.startTime } := by
  intro u t
  have counted : State.takeCount .forward due { s with now := time, tracker := s.tracker.giveCount } =
      ((s.fromEncoder due).simulating time (some { x with given := x.given + 1 })).takeCount .forward due :=
    congrArg _ (giveCount_eq source schedule)
  obtain ⟨-, -, -, rest⟩ := takeCount_moves .forward due (s.fromEncoder due)
  have rest_valid := congrArg Tracker.angleValid rest
  have kept : u.tracker.angleValid = s.tracker.angleValid := rest_valid
  have result := simulate_eq due { s with now := time }
  have tracker := takeCount_simulating_tracker (t := due) (n := time) (sch := some { x with given := x.given + 1 })
    (s := s.fromEncoder due)
  change t = if ¬s.tracker.counter + 1 < s.constants.counts ∧ s.tracker.angleValid = false then _ else _ at result
  rw [counted] at result
  refine ⟨fun hk => ?_, ?_⟩
  · have countsAs := takeCount_countsAs (t := due) (n := time) (sch := some { x with given := x.given + 1 })
      (s := s.fromEncoder due) hk
    rw [result]
    split <;> exact countsAs
  · rw [result]
    by_cases index : ¬s.tracker.counter + 1 < s.constants.counts ∧ s.tracker.angleValid = false
    · have wrap : s.constants.counts ≤ s.tracker.counter + 1 := by omega
      have set : (s.tracker.angleValid || decide (s.constants.counts ≤ s.tracker.counter + 1)) = true := by simp [wrap]
      rw [if_pos index, if_pos ⟨index.2, wrap⟩, tracker, set]
    · have valid : (s.tracker.angleValid || decide (s.constants.counts ≤ s.tracker.counter + 1)) = u.tracker.angleValid := by
        rw [kept]
        cases h : s.tracker.angleValid with
        | true => rfl
        | false => simpa [h] using index
      rw [if_neg index, if_neg (by rw [and_comm, ← Nat.not_lt]; exact index), tracker, valid]

/-! ### O36 -/

/-- Settles O36: the index, the still timer, and the schedule's count beside the encoder's. -/
theorem indexStillTimerAndSchedule : Obligations.IndexStillTimerAndSchedule := by
  unfold Obligations.IndexStillTimerAndSchedule
  intro s held
  refine ⟨⟨_, exec_encoderIndex held, ?_, fun source => if_neg (by simp [source]), fun source invalid => ?_,
    fun source valid => ⟨fun near => ?_, fun far => ?_⟩⟩, fun time later => ⟨⟨_, exec_stillTimerExpiry held later, ?_, ?_⟩,
    _, exec_simulatedCount held later, ?_, fun x due source gate schedule hdue => ?_, fun idle => ?_⟩⟩
  · split
    · exact (takeIndex_shaftSide s).only
    · exact (ShaftSide.refl s).only
  · rw [if_pos source, State.takeIndex, if_neg (by simp [invalid])]
  · rw [if_pos source, State.takeIndex, if_pos valid]
    exact if_pos near
  · have slips : s.takeIndex = s.slip := by
      rw [State.takeIndex, if_pos valid, if_neg (by unfold indexDistance; omega)]
    rw [if_pos source, slips]
    exact slip_reads valid
  · rintro ⟨t0, running, over'⟩
    rw [running]
    exact if_pos over'
  · intro short
    cases running : s.tracker.stillTimer with
    | none => rfl
    | some t0 => exact if_neg (by have := short t0 running; omega)
  · split
    · split
      · exact (simulate_shaftSide _ _).only
      · exact (ShaftSide.refl _).only
    · exact (ShaftSide.refl _).only
  · have next : s.simulatedDue = some due := by
      simp [State.simulatedDue, source, gate, schedule, hdue, Schedule.due]
    rw [next]
    refine ⟨fun early => if_neg (by omega), fun reached => ?_⟩
    dsimp only
    rw [if_pos reached]
    obtain ⟨countsAs, tracker⟩ := simulate_reads (time := time) (due := due) source schedule
    obtain ⟨counter, motion, still, -⟩ := takeCount_moves .forward due (s.fromEncoder due)
    have encoder := (exec_encoderCount (time := due) (s := s.fromEncoder due) held (Nat.le_refl due) rfl).1
    refine ⟨by rw [tracker], by rw [tracker]; exact counter, by rw [tracker]; exact motion, by rw [tracker]; exact still,
      fun short => ?_, fun wrap => ?_, fun valid wrap => ?_, fun hk => ⟨_, encoder, countsAs hk, tracker⟩⟩
    · rw [tracker]
      simp [Nat.not_le.mpr short]
    · rw [tracker]
      simp [wrap]
    · have measured := takeCount_tracker .forward due (s.fromEncoder due)
      rw [if_pos ⟨valid, rfl, Nat.not_lt.mpr wrap⟩, Tracker.measure_eq] at measured
      rw [tracker, measured]
      simp [valid]
  · have none : s.simulatedDue = none := by
      rcases idle with h | h | h <;> simp [State.simulatedDue, h]
    rw [none]

end Sys2Proof.Machine
end


section
/-! A placement: the targets it waits for, the orders it posts to each bar, and its end. -/

namespace Sys2Proof.Machine

/-! ### The targets (R133) -/

/-- The targets of the 48 bars in a placement over these zones. -/
def State.placementTargets (zones : List Zone) (s : State) : List (Option Nat) :=
  (List.range 48).map fun b => if (s.bar b).enabled then s.placementTarget zones b else none

theorem placementTargets_getD {zones : List Zone} {s : State} {b : Nat} (hb : b < 48) :
    (s.placementTargets zones).getD b none = if (s.bar b).enabled then s.placementTarget zones b else none := by
  simp [State.placementTargets, List.getD_eq_getElem?_getD, hb]

/-- A placement that asks for its targets, over these zones. -/
structure Asks (zones : List Zone) (s : State) : Prop where
  state : s.run.state = .placing
  placement : s.run.placement = some { zones := zones, targets := none }

theorem tryPlacement_asks {zones : List Zone} {s : State} (h : Asks zones s) : s.tryPlacement =
    if (List.range 48).all fun b => !(s.bar b).enabled || ((s.placementTargets zones).getD b none).isSome then
      ((List.range 48).foldl (State.placeOne (s.placementTargets zones))
        { s with run := { s.run with
          placement := some { zones := zones, targets := some (s.placementTargets zones) } } }).completePlacement
    else s := by
  obtain ⟨state, placement⟩ := h
  unfold State.tryPlacement
  rw [state, placement]
  rfl

/-- The placement waits while an enabled bar has no target. -/
theorem tryPlacement_waits {zones : List Zone} {s : State} (h : Asks zones s) {b : Nat} (hb : b < 48)
    (enabled : (s.bar b).enabled = true) (missing : s.placementTarget zones b = none) : s.tryPlacement = s := by
  rw [tryPlacement_asks h, if_neg]
  simp only [List.all_eq_true, List.mem_range, not_forall]
  exact ⟨b, hb, by rw [placementTargets_getD hb]; simp [enabled, missing]⟩

/-- The bars after the orders of a placement that has its targets. -/
def State.placing (zones : List Zone) (s : State) : State :=
  (List.range 48).foldl (State.placeOne (s.placementTargets zones))
    { s with run := { s.run with
      placement := some { zones := zones, targets := some (s.placementTargets zones) } } }

theorem tryPlacement_places {zones : List Zone} {s : State} (h : Asks zones s)
    (targets : ∀ b, b < 48 → (s.bar b).enabled = true → s.placementTarget zones b ≠ none) :
    s.tryPlacement = (s.placing zones).completePlacement := by
  rw [tryPlacement_asks h]
  refine if_pos (List.all_eq_true.mpr fun b hb => ?_)
  have hb := List.mem_range.mp hb
  rw [placementTargets_getD hb]
  cases enabled : (s.bar b).enabled with
  | false => rfl
  | true => simpa [Option.isSome_iff_ne_none] using targets b hb enabled

/-! ### The orders of a placement -/

theorem orderTo_aside {b n x : Nat} (d : Option Deadline) (s : State) (h : n ≠ b) : Aside n s (s.orderTo b x d) := by
  unfold State.orderTo
  split
  · exact .refl n s
  · exact post_aside _ s h

theorem placeOne_aside {n b : Nat} (ts : List (Option Nat)) (s : State) (h : n ≠ b) : Aside n s (s.placeOne ts b) := by
  unfold State.placeOne
  split
  · split
    · exact orderTo_aside _ s h
    · exact .refl n s
  · exact .refl n s

/-- A placement's order keeps what configures its bar. -/
theorem placeOne_config (ts : List (Option Nat)) (b : Nat) (s : State) :
    ((s.placeOne ts b).bar b).enabled = (s.bar b).enabled := by
  unfold State.placeOne State.orderTo
  split
  · split
    · split
      · rfl
      · exact (State.post_bar_config b _ s).1
    · rfl
  · rfl

/-- The run side before the orders of a placement: its targets are fixed. -/
theorem placing_run (zones : List Zone) (s : State) : (s.placing zones).run =
    { s.run with placement := some { zones := zones, targets := some (s.placementTargets zones) } } :=
  foldl_reads (read := State.run) (fun s b => State.placeOne_run _ b s) _ _

/-- The part with the targets of its placement fixed. -/
def State.fixing (zones : List Zone) (s : State) : State :=
  { s with run := { s.run with placement := some { zones := zones, targets := some (s.placementTargets zones) } } }

/-- A placement reaches each bar with the bars before it ordered, and the bars after it leave it. -/
theorem placing_reaches {n : Nat} (hn : n < 48) (zones : List Zone) (s : State) :
    ∃ m, Aside n (s.fixing zones) m ∧ Aside n (m.placeOne (s.placementTargets zones) n) (s.placing zones) :=
  foldl_reaches (R := Aside n) (.refl n) (.trans) List.nodup_range (List.mem_range.mpr hn)
    (fun _ _ hb s => placeOne_aside _ s (Ne.symm hb)) (s.fixing zones)

theorem placing_enabled {n : Nat} (hn : n < 48) (zones : List Zone) (s : State) :
    ((s.placing zones).bar n).enabled = (s.bar n).enabled := by
  obtain ⟨m, before, after⟩ := placing_reaches hn zones s
  rw [after.bar, placeOne_config, before.bar]
  rfl

/-- A disabled bar is left alone. -/
theorem placing_disabled {n : Nat} (hn : n < 48) {zones : List Zone} {s : State} (h : (s.bar n).enabled = false) :
    (s.placing zones).bar n = s.bar n := by
  obtain ⟨m, before, after⟩ := placing_reaches hn zones s
  have same : m.placeOne (s.placementTargets zones) n = m := by
    unfold State.placeOne
    rw [placementTargets_getD hn, h]
    rfl
  rw [after.bar, same, before.bar]
  rfl

/-- An enabled bar with a target has an order to it. -/
theorem placing_orderTo {n x : Nat} (hn : n < 48) {zones : List Zone} {s : State} (enabled : (s.bar n).enabled = true)
    (target : s.placementTarget zones n = some x) :
    ∃ m, Aside n (s.fixing zones) m ∧ Aside n (m.orderTo n x none) (s.placing zones) := by
  obtain ⟨m, before, after⟩ := placing_reaches hn zones s
  have bar : m.bar n = s.bar n := before.bar
  have order : m.placeOne (s.placementTargets zones) n = m.orderTo n x none := by
    unfold State.placeOne
    rw [placementTargets_getD hn, enabled, if_pos rfl, target]
    dsimp only
    rw [bar, enabled]
    rfl
  rw [order] at after
  exact ⟨m, before, after⟩

/-- A bar that stands at its target, or is LOST, is left alone. -/
theorem placing_leaves {n x : Nat} (hn : n < 48) {zones : List Zone} {s : State} (enabled : (s.bar n).enabled = true)
    (target : s.placementTarget zones n = some x) (h : (s.bar n).standing = some x ∨ (s.bar n).handshake = .lost) :
    (s.placing zones).bar n = s.bar n := by
  obtain ⟨m, before, after⟩ := placing_orderTo hn enabled target
  have bar : m.bar n = s.bar n := before.bar
  have same : m.orderTo n x none = m := by
    unfold State.orderTo
    rcases h with h | h
    · rw [bar, if_pos h]
    · rw [State.post_refused (by simp [Bar.takesOrder, bar, h]), ite_self]
  rw [after.bar, same, bar]

/-- The order a placement posts to a bar, seen from before the placement to after it: with the source ENCODER by the bar's
state (R117), with the source SIMULATED answered at once (R129). -/
theorem placing_orders {n x : Nat} (hn : n < 48) {zones : List Zone} {s : State} (enabled : (s.bar n).enabled = true)
    (target : s.placementTarget zones n = some x) (active : (s.bar n).handshake = .idle ∨ (s.bar n).outstanding = true)
    (elsewhere : (s.bar n).standing ≠ some x) :
    (s.tracker.source = .simulated → (s.placing zones).bar n = { s.bar n with known := some x, handshake := .idle }) ∧
    (s.tracker.source = .encoder → (s.bar n).lane < s.lanes.length →
      (∀ c, (s.bar n).handshake = .posted c → (s.lane (s.bar n).lane).Transmits) →
      Ordered n { kind := .move, target := x, deadline := none } s (s.placing zones)) ∧
    ((s.bar n).handshake = .idle → ((s.placing zones).bar n).standing = some x) := by
  obtain ⟨m, before, after⟩ := placing_orderTo hn enabled target
  have bar : m.bar n = s.bar n := before.bar
  have source : m.tracker.source = s.tracker.source := by rw [before.side.tracker]; rfl
  have hb : n < m.bars.length := by rw [before.bars]; exact State.bar_of_enabled enabled
  have order : m.orderTo n x none = m.post n { kind := .move, target := x, deadline := none } :=
    if_neg (by rw [bar]; exact elsewhere)
  have posts : (m.bar n).handshake = .idle ∨ (m.bar n).outstanding = true := by rw [bar]; exact active
  rw [order] at after
  refine ⟨fun dry => ?_, fun wet lane sent => ?_, fun idle => ?_⟩
  · rw [after.bar, State.post_bar_dry _ hb (source.trans dry) (Bar.takesOrder_of_active posts), bar]
  · have ordered : Ordered n { kind := .move, target := x, deadline := none } (s.fixing zones) (s.placing zones) := by
      exact Ordered.aside (State.post_ordered_active _ hb (by rw [bar, before.lanes]; exact lane) (source.trans wet) posts)
        before after sent
    exact ordered
  · rw [after.bar]
    exact State.post_standing_of_idle _ hb (by rw [bar]; exact idle)

/-! ### The end of a placement (R134) -/

/-- Every enabled bar of a placement with these targets is IDLE at its target. -/
def State.atTargets (target : Nat → Option Nat) (s : State) : Prop :=
  ∀ n, n < 48 → (s.bar n).enabled = true → (s.bar n).handshake = .idle ∧ (s.bar n).known = target n

theorem placing_placed {zones : List Zone} {target : Nat → Option Nat} {s : State}
    (ht : ∀ n, n < 48 → (s.bar n).enabled = true → s.placementTarget zones n = target n)
    (targets : ∀ n, n < 48 → (s.bar n).enabled = true → target n ≠ none) :
    (s.placing zones).placed = true ↔ (s.placing zones).atTargets target := by
  unfold State.placed State.atTargets
  rw [placing_run]
  simp only [List.all_eq_true, List.mem_range]
  refine forall_congr' fun n => forall_congr' fun hn => ?_
  rw [placing_enabled hn, placementTargets_getD hn]
  cases enabled : (s.bar n).enabled with
  | false => simp
  | true =>
    obtain ⟨x, hx⟩ := Option.ne_none_iff_exists'.mp (targets n hn enabled)
    simp only [ht n hn enabled, hx]
    cases ((s.placing zones).bar n).known <;> simp

/-- What the end of a placement leaves, and the entry to RUNNING with PLACED. -/
theorem completePlacement_reads {s : State} (h : s.run.state = .placing) :
    s.completePlacement.bars = s.bars ∧ s.completePlacement.lanes = s.lanes ∧
      s.completePlacement.run = (if s.placed then { s.run with state := .running, placement := none } else s.run) ∧
      (s.placed = true → BothShow .placed s.completePlacement) := by
  unfold State.completePlacement
  cases hp : s.placed with
  | true =>
    simp only [h, decide_true, Bool.and_self, if_true]
    exact ⟨rfl, rfl, rfl, fun _ => bothShow_raise .placed _⟩
  | false => simp

/-- An order is read from its bar and the lanes. -/
theorem Ordered.congr_after {b : Nat} {o : Order} {s t u : State} (h : Ordered b o s t) (bar : u.bar b = t.bar b)
    (lane : ∀ g, u.lane g = t.lane g) : Ordered b o s u := by
  unfold Ordered at h ⊢
  simpa only [bar, lane] using h

/-- R133, R134: a placement that asks for its targets places the bars. -/
theorem tryPlacement_placesBars {zones : List Zone} {target : Nat → Option Nat} {s : State} (h : Asks zones s)
    (ht : ∀ n, n < 48 → (s.bar n).enabled = true → s.placementTarget zones n = target n) :
    PlacesBars zones target s.run s s.tryPlacement := by
  refine ⟨fun ⟨n, hn, enabled, missing⟩ => ?_, fun targets => ?_⟩
  · rw [tryPlacement_waits h hn enabled ((ht n hn enabled).trans missing)]
    exact ⟨rfl, rfl, rfl⟩
  · have placing : (s.placing zones).run.state = .placing := by rw [placing_run]; exact h.state
    have placed := placing_placed ht targets
    obtain ⟨bars, lanes, run, shows⟩ := completePlacement_reads placing
    rw [tryPlacement_places h fun n hn enabled => by rw [ht n hn enabled]; exact targets n hn enabled]
    have bar (n : Nat) : (s.placing zones).completePlacement.bar n = (s.placing zones).bar n := by
      rw [State.bar, bars]
      rfl
    have lane (g : Nat) : (s.placing zones).completePlacement.lane g = (s.placing zones).lane g := by
      rw [State.lane, lanes]
      rfl
    simp only [bar]
    rw [run, placing_run]
    refine ⟨?_, ?_, fun n hn off => placing_disabled hn off, fun n x hn enabled hx => ?_⟩
    · by_cases done : (s.placing zones).placed = true
      · exact .inl ⟨by rw [if_pos done], shows done⟩
      · refine .inr ⟨s.placementTargets zones, by rw [if_neg done], fun n hn enabled => ?_⟩
        rw [placementTargets_getD hn, enabled, if_pos rfl, ht n hn enabled]
    · have arrived : (s.placing zones).placed = true ↔ ∀ n, n < 48 → (s.bar n).enabled = true →
          ((s.placing zones).bar n).handshake = .idle ∧ ((s.placing zones).bar n).known = target n := by
        rw [placed]
        exact forall_congr' fun n => forall_congr' fun hn => by rw [placing_enabled hn]
      rw [← arrived]
      split
      · next done => simp [done]
      · next done => simp [done, h.state]
    · have hx := (ht n hn enabled).trans hx
      refine ⟨placing_leaves hn enabled hx, fun elsewhere active => ?_⟩
      obtain ⟨dry, wet, -⟩ := placing_orders hn enabled hx active elsewhere
      refine ⟨dry, fun source inside sent => ?_⟩
      exact (wet source inside sent).congr_after (bar n) lane

/-- R133: bars that stand IDLE end at their targets or bound for them. -/
theorem tryPlacement_standing {zones : List Zone} {s : State} (h : Asks zones s)
    (targets : ∀ n, n < 48 → (s.bar n).enabled = true → s.placementTarget zones n ≠ none) {n x : Nat} (hn : n < 48)
    (enabled : (s.bar n).enabled = true) (target : s.placementTarget zones n = some x)
    (idle : (s.bar n).handshake = .idle) : (s.tryPlacement.bar n).standing = some x := by
  have placing : (s.placing zones).run.state = .placing := by rw [placing_run]; exact h.state
  rw [tryPlacement_places h targets, State.bar, (completePlacement_reads placing).1]
  by_cases stands : (s.bar n).standing = some x
  · exact (congrArg Bar.standing (placing_leaves hn enabled target (.inl stands))).trans stands
  · exact (placing_orders hn enabled target (.inl idle) stands).2.2 idle

/-- What a placement leaves of run control: its fault record, its stop causes and its zones; and where it has entered RUNNING
it has raised PLACED. -/
theorem tryPlacement_run {zones : List Zone} {s : State} (h : Asks zones s) :
    s.tryPlacement.run.fault = s.run.fault ∧ s.tryPlacement.run.causes = s.run.causes ∧
      ((s.tryPlacement.run.state = .placing ∧ ∃ x, s.tryPlacement.run.placement = some x ∧ x.zones = zones) ∨
        (s.tryPlacement.run.state = .running ∧ BothShow .placed s.tryPlacement)) := by
  by_cases waits : ∃ n, n < 48 ∧ (s.bar n).enabled = true ∧ s.placementTarget zones n = none
  · obtain ⟨n, hn, enabled, missing⟩ := waits
    rw [tryPlacement_waits h hn enabled missing]
    exact ⟨rfl, rfl, .inl ⟨h.state, _, h.placement, rfl⟩⟩
  · have placing : (s.placing zones).run.state = .placing := by rw [placing_run]; exact h.state
    obtain ⟨-, -, run, shows⟩ := completePlacement_reads placing
    rw [tryPlacement_places h fun n hn enabled missing => waits ⟨n, hn, enabled, missing⟩, run, placing_run]
    by_cases done : (s.placing zones).placed = true
    · rw [if_pos done]
      exact ⟨rfl, rfl, .inr ⟨rfl, shows done⟩⟩
    · rw [if_neg done]
      exact ⟨rfl, rfl, .inl ⟨h.state, _, rfl, rfl⟩⟩

end Sys2Proof.Machine
end

section
/-! The tests of ARM as its rule states them, and the zones and targets of a placement. -/

namespace Sys2Proof.Machine

/-! ### R131's tests as a statement says them -/

theorem angleRefusesArm_iff (s : State) : s.angleRefusesArm = true ↔
    s.angle = none ∨ ∃ a ∈ s.angle.toList, s.constants.overlapStart ≤ a := by
  unfold State.angleRefusesArm
  cases s.angle <;> simp

theorem insideArticle_iff (e r c : Nat) (s : State) : s.insideArticle e r c = false ↔
    s.sequence.length ≤ e ∨ (s.seqEntry e).repeats ≤ r ∨
      ∃ m ∈ (s.segment (s.seqEntry e).segment).current.toList, m.courses ≤ c := by
  unfold State.insideArticle
  rw [Bool.eq_false_iff, Ne]
  cases (s.segment (s.seqEntry e).segment).current with
  | none => simp; omega
  | some m => simp; omega

theorem firstUnverified_eq (s : State) : s.firstUnverified = s.sequence.segments.find? fun g => match s.segment g with
    | .empty => true
    | .mapped m _ => !m.verified := by
  unfold State.firstUnverified
  congr 1
  funext g
  unfold State.unverified
  cases s.segment g <;> rfl

theorem anyEnabled_iff (s : State) : s.anyEnabled = false ↔ ∀ b ∈ List.range 48, (s.bar b).enabled = false := by
  simp [State.anyEnabled]

theorem anyOutstanding_iff (s : State) : s.anyOutstanding = true ↔
    ∃ b ∈ List.range 48, (s.bar b).enabled = true ∧ (s.bar b).outstanding = true := by
  simp [State.anyOutstanding]

theorem articleBusy_iff (s : State) : (s.articleExtents.any fun x => x.meetsAny s.busyExtents) = true ↔
    ∃ x ∈ s.articleExtents, ∃ y ∈ s.busyExtents, x.meets y := by
  simp [Extent.meetsAny]

/-! ### The placement begun (R6, R132, R133) -/

/-- The zones of the four groups at an angle. -/
def zonesAt (k : MachineConstants) (a : Nat) : List Zone := (List.range 4).map fun g => zoneAt k a g

/-- R132: below O_s every group is in Z0. -/
theorem zonesAt_z0 {k : MachineConstants} {a : Nat} (h : a < k.overlapStart) : zonesAt k a = [.z0, .z0, .z0, .z0] := by
  have zone (g : Nat) : zoneAt k a g = .z0 := if_pos (Nat.lt_of_lt_of_le h (Nat.le_add_right _ _))
  simp [zonesAt, zone, List.range_succ]

/-- R133: an empty queue gives no target. -/
theorem placementTarget_empty {s : State} (h : s.queue.records = []) (zones : List Zone) (b : Nat) :
    s.placementTarget zones b = none := by
  unfold State.placementTarget CourseQueue.zoneTarget
  rw [h]
  split
  · rfl
  · cases zones.getD (s.bar b).lane .z0 <;> rfl

/-- R98, R133: the target of a bar at an angle. -/
theorem placementTarget_eq {s : State} {a n : Nat} (lane : (s.bar n).lane < 4) :
    s.placementTarget (zonesAt s.constants a) n = match s.queue.records with
      | [] => none
      | r :: rest =>
        if 0 < s.queue.backlog ∨ a < s.constants.overlapStart + (s.bar n).lane * s.constants.stagger then
          some (r.pair n).p1
        else if a < s.constants.underlapStart + (s.bar n).lane * s.constants.stagger then some (r.pair n).p2
        else match rest with
          | next :: _ => some (next.pair n).p1
          | [] => if r.articleEnd = true then some (r.pair n).p2 else none := by
  have zone : (zonesAt s.constants a).getD (s.bar n).lane .z0 = zoneAt s.constants a (s.bar n).lane := by
    simp [zonesAt, List.getD_eq_getElem?_getD, lane]
  unfold State.placementTarget
  rw [zone]
  by_cases retreat : 0 < s.queue.backlog
  · cases hr : s.queue.records <;> simp [retreat]
  · rw [if_neg retreat]
    unfold zoneAt groupStart1 groupStart2
    by_cases first : a < s.constants.overlapStart + (s.bar n).lane * s.constants.stagger
    · rw [if_pos first]
      cases hr : s.queue.records <;> simp [CourseQueue.zoneTarget, hr, first]
    · rw [if_neg first]
      by_cases second : a < s.constants.underlapStart + (s.bar n).lane * s.constants.stagger
      · rw [if_pos second]
        cases hr : s.queue.records <;> simp [CourseQueue.zoneTarget, hr, first, second, retreat]
      · rw [if_neg second]
        match hr : s.queue.records with
        | [] => simp [CourseQueue.zoneTarget, hr]
        | [r] => simp [CourseQueue.zoneTarget, hr, first, second, retreat]
        | r :: next :: rest => simp [CourseQueue.zoneTarget, hr, first, second, retreat]

end Sys2Proof.Machine
end


section
/-! What ARM and RESUME answer, and the placement that an accepted RESUME begins. -/

namespace Sys2Proof.Machine

/-! ### A placement at the present angle -/

/-- R138: the part with its fault record emptied and a placement begun. -/
def State.resuming (s : State) : State := State.beginPlacement { s with run := { s.run with fault := none } }

/-- R132: the part with the builder position set and a placement begun. -/
def State.arming (position : Position) (s : State) : State :=
  State.beginPlacement { s with builder := { s.builder with position := position, ended := false } }

theorem armEffect_eq (e r c : Nat) (s : State) :
    armEffect e r c s = (s.arming { entry := e, iteration := r, course := c }).tryPlacement := rfl

theorem arming_asks (position : Position) (s : State) :
    Asks (zonesAt s.constants ((s.angle).getD 0)) (s.arming position) := ⟨rfl, rfl⟩

theorem resuming_asks (s : State) : Asks (zonesAt s.constants ((s.angle).getD 0)) s.resuming := ⟨rfl, rfl⟩

/-- R132, R133: with the queue empty an accepted ARM waits for its targets. -/
theorem armEffect_empty {e r c : Nat} {s : State} (angle : s.angleRefusesArm = false) (enabled : s.anyEnabled = true)
    (empty : s.queue.records = []) : armEffect e r c s = { s with
      builder := { s.builder with position := { entry := e, iteration := r, course := c }, ended := false }
      run := { s.run with
        state := .placing, placement := some { zones := [.z0, .z0, .z0, .z0], targets := none } } } := by
  obtain ⟨b, hb, on⟩ := List.any_eq_true.mp enabled
  rw [armEffect_eq, tryPlacement_waits (arming_asks _ s) (List.mem_range.mp hb) on (placementTarget_empty empty _ b)]
  have below : (s.angle).getD 0 < s.constants.overlapStart := by
    unfold State.angleRefusesArm at angle
    cases h : s.angle with
    | none => simp [h] at angle
    | some a => simpa [h] using angle
  have zones := zonesAt_z0 below
  rw [← zones]
  rfl

/-- R131's tests in order. -/
theorem armRefusal_eq (e r c : Nat) (s : State) : armRefusal e r c s =
    if s.run.state ≠ .halted then some (refuse .state)
    else if s.tracker.motion ≠ .still then some (refuse .moving)
    else if s.angleRefusesArm = true then some (refuse .angle)
    else if s.insideArticle e r c = false then some (refuse .badValue)
    else match s.firstUnverified with
      | some g => some { status := .unverified, data := field1 g }
      | none =>
        if s.anyEnabled = false then some (refuse .badValue)
        else match s.firstNotHomed with
          | some b => some { status := .notHomed, data := field1 b }
          | none =>
            if s.anyOutstanding = true then some (refuse .busy)
            else if (s.articleExtents.any fun x => x.meetsAny s.busyExtents) = true then some (refuse .busyRegion)
            else none := by
  unfold armRefusal
  by_cases state : s.run.state = .halted
  · by_cases still : s.tracker.motion = .still
    · cases s.angleRefusesArm with
      | true => simp [firstReply, firstRefusal, state, still]
      | false =>
        cases s.insideArticle e r c with
        | false => simp [firstReply, firstRefusal, state, still]
        | true =>
          cases s.firstUnverified with
          | some g => simp [firstReply, firstRefusal, naming, state, still]
          | none =>
            cases s.anyEnabled with
            | false => simp [firstReply, firstRefusal, naming, state, still]
            | true =>
              cases s.firstNotHomed with
              | some b => simp [firstReply, firstRefusal, naming, state, still]
              | none =>
                cases s.anyOutstanding with
                | true => simp [firstReply, firstRefusal, naming, state, still]
                | false =>
                  cases s.articleExtents.any fun x => x.meetsAny s.busyExtents <;>
                    simp [firstReply, firstRefusal, naming, state, still]
    · simp [firstReply, firstRefusal, state, still]
  · simp [firstReply, firstRefusal, state]

/-- R138's tests in order. -/
theorem resumeRefusal_eq (s : State) : resumeRefusal s =
    if s.run.state ≠ .faulted then some (refuse .state)
    else if s.tracker.motion ≠ .still then some (refuse .moving)
    else if s.angle = none then some (refuse .angle)
    else if s.pastEnd = true then some (refuse .state)
    else match s.firstNotHomed with
      | some b => some { status := .notHomed, data := field1 b }
      | none => none := by
  unfold resumeRefusal
  by_cases state : s.run.state = .faulted
  · by_cases still : s.tracker.motion = .still
    · cases s.angle with
      | none => simp [firstReply, firstRefusal, state, still]
      | some a =>
        cases s.pastEnd with
        | true => simp [firstReply, firstRefusal, state, still]
        | false => cases s.firstNotHomed <;> simp [firstReply, firstRefusal, naming, state, still]
    · simp [firstReply, firstRefusal, state, still]
  · simp [firstReply, firstRefusal, state]

theorem pastEnd_iff (s : State) : s.pastEnd = true ↔ s.queue.records = [] ∧ s.builder.ended = true := by
  simp [State.pastEnd]

/-- R131, R132: what ARM answers. -/
theorem arm_answers (e r c : Nat) {s : State} (h : s.accepts .m) :
    ∃ t, exec (.arm .m e r c) s = .next t ∧
      if s.run.state ≠ .halted then Refuses .m .state s t
      else if s.tracker.motion ≠ .still then Refuses .m .moving s t
      else if s.angleRefusesArm = true then Refuses .m .angle s t
      else if s.insideArticle e r c = false then Refuses .m .badValue s t
      else match s.firstUnverified with
        | some g => Answers .m .unverified (field1 g) s t
        | none =>
          if s.anyEnabled = false then Refuses .m .badValue s t
          else match s.firstNotHomed with
            | some b => Answers .m .notHomed (field1 b) s t
            | none =>
              if s.anyOutstanding = true then Refuses .m .busy s t
              else if (s.articleExtents.any fun x => x.meetsAny s.busyExtents) = true then Refuses .m .busyRegion s t
              else s.queue.records = [] → Accepts .m { s with
                builder := { s.builder with position := { entry := e, iteration := r, course := c }, ended := false }
                run := { s.run with
                  state := .placing
                  placement := some { zones := [.z0, .z0, .z0, .z0], targets := none } } } t := by
  refine ⟨_, rfl, ?_⟩
  have refusal : armRefusal e r c (s.receive .m (commandFrame (.arm .m e r c))) = armRefusal e r c s := rfl
  rw [armRefusal_eq e r c s] at refusal
  have refuses {status : Status} {bytes : List Byte} (k : armRefusal e r c (s.receive .m (commandFrame (.arm .m e r c))) =
      some { status := status, data := bytes }) := command_answers_refusal (onlyM := true)
    (effect := armEffect e r c) (data := fun _ => ([] : List Byte)) h (fun _ => rfl) k
  split
  · next state => exact refuses (refusal.trans (if_pos state))
  next state =>
  rw [if_neg state] at refusal
  split
  · next moves => exact refuses (refusal.trans (if_pos moves))
  next moves =>
  rw [if_neg moves] at refusal
  split
  · next angle => exact refuses (refusal.trans (if_pos angle))
  next angle =>
  rw [if_neg angle] at refusal
  split
  · next outside => exact refuses (refusal.trans (if_pos outside))
  next outside =>
  rw [if_neg outside] at refusal
  split
  · next g unverified =>
    rw [unverified] at refusal
    exact refuses refusal
  next verified =>
  rw [verified] at refusal
  dsimp only at refusal
  split
  · next disabled => exact refuses (refusal.trans (if_pos disabled))
  next enabled =>
  rw [if_neg enabled] at refusal
  split
  · next b unhomed =>
    rw [unhomed] at refusal
    exact refuses refusal
  next homed =>
  rw [homed] at refusal
  dsimp only at refusal
  split
  · next busy => exact refuses (refusal.trans (if_pos busy))
  next free =>
  rw [if_neg free] at refusal
  split
  · next busy => exact refuses (refusal.trans (if_pos busy))
  next unbusy =>
  rw [if_neg unbusy] at refusal
  intro empty
  refine command_answers_ok h (fun _ => rfl) refusal ?_ rfl rfl
  exact armEffect_empty (s := s.receive .m (commandFrame (.arm .m e r c))) (eq_false_of_ne_true angle)
    (eq_true_of_ne_false enabled) empty

theorem resuming_runSide (s : State) : RunSide s s.resuming := RunSide.update s _ s.bars s.lanes

/-- R138: what an accepted RESUME leaves of run control. -/
theorem resumeEffect_run (s : State) : RunSide s (resumeEffect s) ∧ (resumeEffect s).run.fault = none ∧
    (resumeEffect s).run.causes = s.run.causes ∧
    (((resumeEffect s).run.state = .placing ∧ ∃ x, (resumeEffect s).run.placement = some x ∧
        x.zones = zonesAt s.constants ((s.angle).getD 0)) ∨
      ((resumeEffect s).run.state = .running ∧ BothShow .placed (resumeEffect s))) := by
  obtain ⟨fault, causes, ends⟩ := tryPlacement_run (resuming_asks s)
  exact ⟨(resuming_runSide s).trans (tryPlacement_runSide _), fault, causes, ends⟩

/-- R133: with the queue empty an accepted RESUME waits. -/
theorem resumeEffect_empty {s : State} (empty : s.queue.records = []) {b : Nat} (hb : b < 48)
    (enabled : (s.bar b).enabled = true) : resumeEffect s = s.resuming :=
  tryPlacement_waits (resuming_asks s) hb enabled (placementTarget_empty empty _ b)

/-- R98: with a retreat backlog the bars are placed at the head's p1. -/
theorem resumeEffect_retreat {s : State} {r : Record} (head : s.queue.records.head? = some r) (backlog : 0 < s.queue.backlog)
    {b : Nat} (hb : b < 48) (enabled : (s.bar b).enabled = true) (idle : (s.bar b).handshake = .idle) :
    ((resumeEffect s).bar b).standing = some (r.pair b).p1 := by
  have target (n : Nat) (zones : List Zone) : s.resuming.placementTarget zones n = some (r.pair n).p1 := by
    have records : s.resuming.queue = s.queue := rfl
    rw [State.placementTarget, records, if_pos backlog, head]
    rfl
  exact tryPlacement_standing (resuming_asks s) (fun n _ _ => by rw [target]; simp) hb enabled (target b _) idle

/-- The reply of a command on port M is no part of what a placement does. -/
theorem PlacesBars.setSlot {zones : List Zone} {target : Nat → Option Nat} {run : RunControl} {s t : State}
    (h : PlacesBars zones target run s t) (x : Slot) : PlacesBars zones target run s (t.setSlot .m x) := by
  obtain ⟨waits, places⟩ := h
  refine ⟨waits, fun targets => ?_⟩
  obtain ⟨run, rest⟩ := places targets
  exact ⟨run.imp_left fun ⟨run, shows⟩ => ⟨run, shows.setSlot _ _⟩, rest⟩

/-- R133, R134: an accepted RESUME places the bars from the present angle. -/
theorem resumeEffect_places {s : State} {a : Nat} {target : Nat → Option Nat} (angle : s.angle = some a)
    (lanes : ∀ n, n < 48 → (s.bar n).enabled = true → (s.bar n).lane < 4)
    (ht : ∀ n, target n = match s.queue.records with
      | [] => none
      | r :: rest =>
        if 0 < s.queue.backlog ∨ a < s.constants.overlapStart + (s.bar n).lane * s.constants.stagger then
          some (r.pair n).p1
        else if a < s.constants.underlapStart + (s.bar n).lane * s.constants.stagger then some (r.pair n).p2
        else match rest with
          | next :: _ => some (next.pair n).p1
          | [] => if r.articleEnd = true then some (r.pair n).p2 else none) :
    PlacesBars (zonesAt s.constants a) target
      { s.run with
        state := .placing, placement := some { zones := zonesAt s.constants a, targets := none }, fault := none }
      s (resumeEffect s) := by
  have present : (s.angle).getD 0 = a := by rw [angle]; rfl
  have asks := resuming_asks s
  rw [present] at asks
  have places := tryPlacement_placesBars asks fun n hn enabled =>
    (placementTarget_eq (s := s.resuming) (lanes n hn enabled)).trans (ht n).symm
  rw [← present] at places ⊢
  exact places

/-- Settles O51: the tests in order, then the placement. -/
theorem runsAreArmedAndResumed : Obligations.RunsAreArmedAndResumed := by
  unfold Obligations.RunsAreArmedAndResumed
  refine ⟨fun e r c s h => ?_, fun s h => ⟨_, rfl, ?_⟩⟩
  · have answers := arm_answers e r c h
    simp only [angleRefusesArm_iff, insideArticle_iff, firstUnverified_eq, anyEnabled_iff, anyOutstanding_iff,
      articleBusy_iff] at answers
    exact answers
  · have refusal : resumeRefusal (s.receive .m (commandFrame (.resume .m))) = resumeRefusal s := rfl
    rw [resumeRefusal_eq s] at refusal
    have refuses {status : Status} {bytes : List Byte} (k : resumeRefusal (s.receive .m (commandFrame (.resume .m))) =
        some { status := status, data := bytes }) := command_answers_refusal (onlyM := true)
      (effect := resumeEffect) (data := fun _ => ([] : List Byte)) h (fun _ => rfl) k
    split
    · next state => exact refuses (refusal.trans (if_pos state))
    next state =>
    rw [if_neg state] at refusal
    split
    · next moves => exact refuses (refusal.trans (if_pos moves))
    next moves =>
    rw [if_neg moves] at refusal
    split
    · next angle => exact refuses (refusal.trans (if_pos angle))
    next angle =>
    rw [if_neg angle] at refusal
    split
    · next past => exact refuses (refusal.trans (if_pos ((pastEnd_iff s).mpr past)))
    next past =>
    rw [if_neg (by rwa [pastEnd_iff])] at refusal
    split
    · next b unhomed =>
      rw [show s.firstNotHomed = some b from unhomed] at refusal
      exact refuses refusal
    next homed =>
    rw [show s.firstNotHomed = none from homed] at refusal
    rw [command_ok (onlyM := true) (effect := resumeEffect) (data := fun _ => ([] : List Byte)) h (fun _ => rfl) refusal]
    generalize hr : s.receive .m (commandFrame (.resume .m)) = r
    obtain ⟨side, fault, causes, ends⟩ := resumeEffect_run r
    refine ⟨?_, fun a => ?_, by simp, ?_, ?_, ?_, fun placing => ?_, fun empty ⟨b, hb, enabled⟩ => ?_,
      fun x head backlog _ idle b hb enabled => ?_, fun a zones target angle lanes hzones ht => ?_⟩
    · rw [side.eq, ← hr]
      rfl
    · rw [State.setSlot_memory, side.memory, ← hr]
      rfl
    · simpa using fault
    · rw [State.setSlot_run, causes, ← hr]
      rfl
    · rw [State.setSlot_run]
      exact ends.imp And.left fun ⟨state, shows⟩ => ⟨state, shows.setSlot _ _⟩
    · rw [State.setSlot_run] at placing ⊢
      obtain ⟨-, x, hx, zones⟩ := ends.resolve_right fun ⟨running, _⟩ => absurd (placing.symm.trans running) (by decide)
      refine ⟨x, hx, fun a angle => zones.trans ?_⟩
      rw [show r.angle = some a by rw [← hr]; exact angle, ← hr]
      rfl
    · rw [resumeEffect_empty (by rw [← hr]; exact empty) hb (by rw [← hr]; exact enabled), ← hr]
      exact ⟨rfl, rfl, rfl⟩
    · exact resumeEffect_retreat (s := r) (by rw [← hr]; exact head) (by rw [← hr]; exact backlog) hb
        (by rw [← hr]; exact enabled) (by rw [← hr]; exact idle b hb enabled)
    · subst hzones
      subst hr
      exact (resumeEffect_places (s := s.receive .m (commandFrame (.resume .m))) angle lanes ht).setSlot _

end Sys2Proof.Machine
end

section
/-! What every step keeps of pattern memory, the region table and the live guard. -/

namespace Sys2Proof.Machine

/-! ### Commands and a relation that does not look at the ports -/

/-- A relation of states that is a preorder and does not look at the ports. -/
structure PortBlind (R : State → State → Prop) : Prop where
  refl : ∀ s, R s s
  trans : ∀ {s t u}, R s t → R t u → R s u
  setPort : ∀ p x s, R s (s.setPort p x)

/-- A port that takes a frame stays in the relation where the frame's body does. -/
theorem PortBlind.take {R : State → State → Prop} (blind : PortBlind R) {body : Body} (h : ∀ u, R u (body u).1) (p : Port)
    (f : List Byte) (first : Option Status) (s : State) : R s (s.take p f first body) := by
  have received : R s (s.receive p f) := blind.setPort p _ s
  rcases take_cases p f first body s with ⟨-, e⟩ | ⟨-, -, e⟩ | ⟨-, -, _, -, e⟩ | ⟨-, -, -, e⟩ <;> rw [e]
  · exact blind.refl s
  · exact blind.trans received (blind.setPort p _ _)
  · exact blind.trans received (blind.setPort p _ _)
  · exact blind.trans (blind.trans received (h _)) (blind.setPort p _ _)

/-- A judged command stays in the relation where its effect does, once no test refuses. -/
theorem PortBlind.command {R : State → State → Prop} (blind : PortBlind R) {refusal : State → Option Reply}
    {effect : State → State} {data : State → List Byte} (h : ∀ u, refusal u = none → R u (effect u)) (p : Port)
    (onlyM : Bool) (i : Instr) (s : State) : R s (s.command p onlyM i (judged refusal effect data)) := by
  refine blind.take (fun u => ?_) p _ _ s
  rcases judged_cases refusal effect data u with ⟨r, -, e⟩ | ⟨hr, e⟩ <;> rw [e]
  · exact blind.refl u
  · exact h u hr

/-! ### The arbiter and the chunk -/

/-- From `a` to `b` no chunk has come to wait or to be granted, and none waits beside one in its grant. -/
structure ChunkKept (a b : Arbiter) : Prop where
  asked : b.chunkWaiting = true ∨ b.grant = some .engine → a.chunkWaiting = true ∨ a.grant = some .engine
  alone : (a.grant = some .engine → a.chunkWaiting = false) → b.grant = some .engine → b.chunkWaiting = false

theorem ChunkKept.refl (a : Arbiter) : ChunkKept a a := ⟨id, id⟩

theorem ChunkKept.trans {a b c : Arbiter} (h : ChunkKept a b) (k : ChunkKept b c) : ChunkKept a c :=
  ⟨h.asked ∘ k.asked, k.alone ∘ h.alone⟩

theorem ChunkKept.of_same {a b : Arbiter} (grant : b.grant = a.grant) (waiting : b.chunkWaiting = a.chunkWaiting) :
    ChunkKept a b := ⟨by rw [grant, waiting]; exact id, by rw [grant, waiting]; exact id⟩

/-- The grant that the arbiter gives is the engine's only for a chunk that waited. -/
theorem next_chunkKept (a : Arbiter) : ChunkKept a a.next := by
  unfold Arbiter.next
  split
  · exact .refl a
  · split
    · exact ⟨by simp +contextual, by simp⟩
    · split
      · exact ⟨by simp +contextual, by simp⟩
      · split
        · exact ⟨by simp +contextual, by simp⟩
        · split
          · next waiting => exact ⟨fun _ => .inl waiting, by simp⟩
          · exact .refl a

theorem noGrant_chunkKept (a : Arbiter) : ChunkKept a { a with grant := none } :=
  ⟨by simp +contextual, by simp⟩

theorem setAccess_chunkKept (p : Port) (x : Option Access) (a : Arbiter) : ChunkKept a (a.setAccess p x) := by
  cases p <;> exact .of_same rfl rfl

/-! ### Live extents -/

/-- The extents of the mappings of an entry. -/
def MapEntry.extents (e : MapEntry) : List Extent := e.mappings.map Mapping.extent

theorem mem_liveExtents {s : State} {x : Extent} : x ∈ s.liveExtents ↔
    s.run.state ≠ .halted ∧ ∃ g ∈ s.sequence.segments, x ∈ (s.segment g).extents := by
  unfold State.liveExtents State.articleExtents
  split <;> simp_all [MapEntry.extents]

/-- No extent has become live where the part stays HALTED, the article names the same segments and no segment has got an
extent. -/
theorem live_of_extents {s t : State} (halted : s.run.state = .halted → t.run.state = .halted)
    (article : t.sequence.segments = s.sequence.segments)
    (extents : ∀ g, ∀ x ∈ (t.segment g).extents, x ∈ (s.segment g).extents) :
    ∀ x ∈ t.liveExtents, x ∈ s.liveExtents := by
  intro x hx
  obtain ⟨active, g, hg, hxg⟩ := mem_liveExtents.mp hx
  exact mem_liveExtents.mpr ⟨fun h => active (halted h), g, article ▸ hg, extents g x hxg⟩

/-- What a table reads after an item has been set: the item, or what it read before. -/
theorem getD_set_cases {α : Type} (l : List α) (n i : Nat) (x d : α) :
    (l.set n x).getD i d = l.getD i d ∨ (i = n ∧ (l.set n x).getD i d = x) := by
  rw [List.getD_eq_getElem?_getD, List.getD_eq_getElem?_getD, List.getElem?_set]
  by_cases hi : n = i
  · by_cases hn : n < l.length
    · exact .inr ⟨hi.symm, by simp [hi, hi ▸ hn]⟩
    · have beyond : l[i]? = none := List.getElem?_eq_none (by omega)
      exact .inl (by simp [hi, beyond]; simp [← hi, hn])
  · exact .inl (by simp [hi])

/-- A segment other than the one set is as it was; the one set is as it was or holds the entry. -/
theorem setSegment_segment (g n : Nat) (e : MapEntry) (s : State) :
    (s.setSegment g e).segment n = s.segment n ∨ (n = g ∧ (s.setSegment g e).segment n = e) :=
  getD_set_cases s.segments g n e .empty

theorem unverify_extents (e : Extent) (g : Nat) (s : State) :
    ((s.unverify e).segment g).extents = (s.segment g).extents := by
  rw [State.unverify_segment]
  cases s.segment g with
  | empty => rfl
  | mapped c x => cases x <;> rfl

/-! ### Steps that leave the guard alone -/

/-- From `s` to `t` the cells and the regions stand as they were, the operation in hand is the same, no chunk has come to
wait or be granted, and no extent has become live. -/
structure GuardKept (s t : State) : Prop where
  memory : t.memory = s.memory
  regions : t.regions = s.regions
  idle : t.engine.state = .idle ↔ s.engine.state = .idle
  op : t.engine.op = s.engine.op
  extents : t.engine.extents = s.engine.extents
  arbiter : ChunkKept s.arbiter t.arbiter
  live : ∀ x ∈ t.liveExtents, x ∈ s.liveExtents

theorem GuardKept.refl (s : State) : GuardKept s s := ⟨rfl, rfl, .rfl, rfl, rfl, .refl _, fun _ h => h⟩

theorem GuardKept.trans {s t u : State} (h : GuardKept s t) (k : GuardKept t u) : GuardKept s u :=
  ⟨k.memory.trans h.memory, k.regions.trans h.regions, k.idle.trans h.idle, k.op.trans h.op,
    k.extents.trans h.extents, h.arbiter.trans k.arbiter, fun x hx => h.live x (k.live x hx)⟩

/-- The memory, the tables and the engine are as they were, and the part stays HALTED. -/
theorem GuardKept.of_same {s t : State} (memory : t.memory = s.memory) (regions : t.regions = s.regions)
    (segments : t.segments = s.segments) (sequence : t.sequence = s.sequence) (engine : t.engine = s.engine)
    (arbiter : ChunkKept s.arbiter t.arbiter) (halted : s.run.state = .halted → t.run.state = .halted) : GuardKept s t :=
  ⟨memory, regions, by rw [engine], by rw [engine], by rw [engine], arbiter,
    live_of_extents halted (by rw [sequence]) fun g x hx => by simpa only [State.segment, segments] using hx⟩

theorem GuardKept.foldl {α : Type} {f : State → α → State} (h : ∀ s a, GuardKept s (f s a)) (l : List α) (s : State) :
    GuardKept s (l.foldl f s) := by
  induction l generalizing s with
  | nil => exact .refl s
  | cons a l ih => exact (h s a).trans (ih (f s a))

theorem RunSide.guardKept {s t : State} (h : RunSide s t) (halted : s.run.state = .halted → t.run.state = .halted) :
    GuardKept s t :=
  .of_same h.memory h.regions h.segments h.sequence h.engine (.of_same (by rw [h.arbiter]) (by rw [h.arbiter])) halted

theorem ShaftSide.guardKept {s t : State} (h : ShaftSide s t) (arbiter : ChunkKept s.arbiter t.arbiter)
    (halted : s.run.state = .halted → t.run.state = .halted) : GuardKept s t :=
  .of_same h.memory h.regions h.segments h.sequence h.engine arbiter halted

/-- The tracker, the queue and the builder alone have changed. -/
theorem GuardKept.update (s : State) (k : Tracker) (q : CourseQueue) (b : Builder) :
    GuardKept s { s with tracker := k, queue := q, builder := b } := .of_same rfl rfl rfl rfl rfl (.refl _) id

theorem setPort_guardKept (p : Port) (x : PortState) (s : State) : GuardKept s (s.setPort p x) := by
  cases p <;> exact .of_same rfl rfl rfl rfl rfl (.refl _) id

theorem raise_guardKept (e : Event) (s : State) : GuardKept s (s.raise e) := (raise_runSide e s).guardKept id

theorem raiseIf_guardKept (c : Bool) (e : Event) (s : State) : GuardKept s (s.raiseIf c e) :=
  (raiseIf_runSide c e s).guardKept (by simp)

theorem watchCeiling_guardKept {f : State → State} {s : State} (h : GuardKept s (f s)) : GuardKept s (s.watchCeiling f) :=
  h.trans (raiseIf_guardKept _ _ _)

theorem hardFault_guardKept (k : FaultKind) (b c : Option Nat) (s : State) : GuardKept s (s.hardFault k b c) :=
  (hardFault_runSide k b c s).guardKept fun h => by simp [State.hardFault, h]

theorem barFault_guardKept (k : FaultKind) (b : Nat) (s : State) : GuardKept s (s.barFault k b) :=
  (raise_guardKept _ s).trans (hardFault_guardKept k _ _ _)

theorem completePlacement_guardKept (s : State) : GuardKept s s.completePlacement :=
  (completePlacement_runSide s).guardKept fun h => by simp [State.completePlacement, h]

theorem tryPlacement_guardKept (s : State) : GuardKept s s.tryPlacement :=
  (tryPlacement_runSide s).guardKept fun h => by
    unfold State.tryPlacement
    split
    · next placing _ => exact absurd (h.symm.trans placing) (by decide)
    · exact h

/-! ### Counts and boundaries -/

theorem deadlineCrossing_guardKept (d : Deadline) (s : State) : GuardKept s (s.deadlineCrossing d) :=
  (deadlineCrossing_runSide d s).guardKept fun h => by
    unfold State.deadlineCrossing
    split
    · simpa using h
    · exact h

theorem deadlinesFrom_guardKept (a a' : Nat) (s : State) : GuardKept s (s.deadlinesFrom a a') := by
  have one (c : Prop) [Decidable c] (d : Deadline) (s : State) : GuardKept s (if c then s.deadlineCrossing d else s) := by
    split
    · exact deadlineCrossing_guardKept d s
    · exact .refl s
  exact (one _ _ s).trans (one _ _ _)

theorem zoneCrossing_guardKept (g : Nat) (x : Crossing) (s : State) : GuardKept s (s.zoneCrossing g x) :=
  (zoneCrossing_runSide g x s).guardKept fun h => by simp [State.zoneCrossing, h]

/-- A crossing taken where its condition holds. -/
theorem zoneCrossing_if_guardKept (c : Prop) [Decidable c] (g : Nat) (x : Crossing) (s : State) :
    GuardKept s (if c then s.zoneCrossing g x else s) := by
  split
  · exact zoneCrossing_guardKept g x s
  · exact .refl s

theorem zonesForward_guardKept (a a' : Nat) (s : State) (g : Nat) : GuardKept s (s.zonesForward a a' g) :=
  (zoneCrossing_if_guardKept _ g .enterZ1 s).trans (zoneCrossing_if_guardKept _ g .enterZ2 _)

theorem zonesReverse_guardKept (a a' : Nat) (s : State) (g : Nat) : GuardKept s (s.zonesReverse a a' g) :=
  (zoneCrossing_if_guardKept _ g .backToZ1 s).trans (zoneCrossing_if_guardKept _ g .backToZ0 _)

theorem queueForward_guardKept (s : State) : GuardKept s s.queueForward :=
  (queueForward_shaftSide s).guardKept (by rw [(queueForward_builder s).2]; exact .refl _)
    fun h => by rw [queueForward_halted h]; exact h

theorem abandonBuild_chunkKept (s : State) : ChunkKept s.arbiter s.abandonBuild.arbiter := .of_same rfl rfl

theorem restore_chunkKept (s : State) : ChunkKept s.arbiter s.restore.arbiter := by
  have tail (s : State) : s.discardTail.arbiter = s.arbiter := by
    unfold State.discardTail
    split <;> rfl
  unfold State.restore
  split
  · exact .refl _
  · dsimp only
    split
    · refine .trans ?_ (abandonBuild_chunkKept _)
      rw [tail]
      exact .refl _
    · split
      · exact abandonBuild_chunkKept _
      · exact .refl _

theorem overrunBackward_chunkKept (s : State) : ChunkKept s.arbiter s.overrunBackward.arbiter := by
  unfold State.overrunBackward
  split
  · exact .refl _
  · split
    · exact .refl _
    · split <;> exact restore_chunkKept s

theorem queueBackward_chunkKept (s : State) : ChunkKept s.arbiter s.queueBackward.arbiter := by
  unfold State.queueBackward
  split
  · exact .refl _
  · exact overrunBackward_chunkKept s
  · split
    · exact overrunBackward_chunkKept s
    · split
      · rw [(retreat_reads s).2.2.1]
        exact .refl _
      · exact restore_chunkKept s

theorem queueBackward_guardKept (s : State) : GuardKept s s.queueBackward :=
  (queueBackward_shaftSide s).guardKept (queueBackward_chunkKept s) fun h => by rw [queueBackward_halted h]; exact h

theorem forwardBoundary_guardKept (t : Nat) (s : State) : GuardKept s (s.forwardBoundary t) :=
  (GuardKept.update s _ s.queue s.builder).trans (watchCeiling_guardKept (queueForward_guardKept _))

theorem crossForward_guardKept (c t : Nat) (s : State) : GuardKept s (s.crossForward c t) := by
  have crossed (a a' : Nat) : GuardKept s ((List.range 4).foldl (State.zonesForward a a') (s.deadlinesFrom a a')) :=
    (deadlinesFrom_guardKept a a' s).trans (.foldl (zonesForward_guardKept a a') _ _)
  unfold State.crossForward
  dsimp only
  split
  · exact (crossed _ _).trans (forwardBoundary_guardKept t _)
  · exact crossed _ _

theorem crossReverse_guardKept (c : Nat) (s : State) : GuardKept s (s.crossReverse c) := by
  unfold State.crossReverse
  dsimp only
  split
  · exact (watchCeiling_guardKept (queueBackward_guardKept s)).trans (.foldl (zonesReverse_guardKept _ _) _ _)
  · exact .foldl (zonesReverse_guardKept _ _) _ s

theorem takeCount_guardKept (d : Direction) (t : Nat) (s : State) : GuardKept s (s.takeCount d t) := by
  have told (s : State) : GuardKept s s.reportCount := by
    unfold State.reportCount
    split
    · exact hardFault_guardKept _ _ _ s
    · exact .refl s
  have counted (k : Tracker) : GuardKept s (State.reportCount { s with tracker := k }) :=
    (GuardKept.update s k s.queue s.builder).trans (told _)
  unfold State.takeCount
  dsimp only
  split
  · split
    · exact (counted _).trans (crossForward_guardKept _ _ _)
    · exact (counted _).trans (crossReverse_guardKept _ _)
  · exact counted _

theorem takeIndex_guardKept (s : State) : GuardKept s s.takeIndex := by
  unfold State.takeIndex
  split
  · split
    · exact .refl s
    · have slipped := (GuardKept.update s { s.tracker with counter := 0, startTime := none, period := none } s.queue
        s.builder).trans (raise_guardKept .slip _)
      unfold State.slip
      dsimp only
      split
      · exact slipped.trans (hardFault_guardKept _ _ _ _)
      · exact slipped
  · exact .update s _ s.queue s.builder

theorem simulate_guardKept (t : Nat) (s : State) : GuardKept s (s.simulate t) := by
  have counted := (GuardKept.update s s.tracker.giveCount s.queue s.builder).trans (takeCount_guardKept .forward t _)
  unfold State.simulate
  dsimp only
  split
  · exact counted.trans (takeIndex_guardKept _)
  · exact counted

end Sys2Proof.Machine
end

section
/-! The law of the engine, step by step: what a chunk and an operation in hand may touch is no live extent. -/

namespace Sys2Proof.Machine

/-! ### The law of the engine over a step (R36) -/

/-- The destination of an operation is told by whether the engine is IDLE, by the operation and by its busy extents. -/
theorem target_congr {e f : Engine} (idle : f.state = .idle ↔ e.state = .idle) (op : f.op = e.op)
    (extents : f.extents = e.extents) : f.target = e.target := by
  unfold Engine.target Engine.base
  simp only [idle, op, extents]

theorem State.EngineLaw.of_reads {s t : State} (law : s.EngineLaw)
    (idle : t.engine.state = .idle ↔ s.engine.state = .idle) (op : t.engine.op = s.engine.op)
    (extents : t.engine.extents = s.engine.extents) (arbiter : ChunkKept s.arbiter t.arbiter)
    (live : ∀ x ∈ t.liveExtents, x ∈ s.liveExtents) : t.EngineLaw := by
  obtain ⟨busy, alone, counted, apart⟩ := law
  refine ⟨fun h => mt idle.mp (busy (arbiter.asked h)), arbiter.alone alone, by rwa [op], fun target ht => ?_⟩
  rw [target_congr idle op extents] at ht
  obtain ⟨covered, free⟩ := apart target ht
  exact ⟨by rwa [extents], fun a ha x hx => free a ha x (live x hx)⟩

theorem GuardKept.engineLaw {s t : State} (h : GuardKept s t) (law : s.EngineLaw) : t.EngineLaw :=
  law.of_reads h.idle h.op h.extents h.arbiter h.live

/-- With the engine IDLE and no chunk about, an operation's progress is all there is to keep. -/
theorem engineLaw_of_idle {s : State} (idle : s.engine.state = .idle) (waiting : s.arbiter.chunkWaiting = false)
    (grant : s.arbiter.grant ≠ some .engine) (counted : ∀ op, s.engine.op = some op → op.progress ≤ op.total) :
    s.EngineLaw := by
  refine ⟨fun h => ?_, fun h => absurd h grant, counted, fun target h => ?_⟩
  · rcases h with h | h
    · exact absurd h (by simp [waiting])
    · exact absurd h grant
  · simp [Engine.target, idle] at h

/-- While the engine is IDLE no chunk waits and none is in its grant. -/
theorem State.EngineLaw.no_chunk {s : State} (law : s.EngineLaw) (idle : s.engine.state = .idle) :
    s.arbiter.chunkWaiting = false ∧ s.arbiter.grant ≠ some .engine := by
  obtain ⟨busy, -⟩ := law
  refine ⟨?_, fun h => busy (.inr h) idle⟩
  rw [Bool.eq_false_iff]
  exact fun h => busy (.inl h) idle

theorem arbitrate_guardKept (s : State) : GuardKept s s.arbitrate :=
  .of_same rfl rfl rfl rfl rfl (next_chunkKept _) id

theorem endGrant_guardKept (s : State) : GuardKept s s.endGrant :=
  .of_same rfl rfl rfl rfl rfl (noGrant_chunkKept _) id

/-- R147: what the engine asks for. -/
theorem askChunk_cases (s : State) : s.askChunk = s ∨
    (s.engine.state = .active ∧ s.arbiter.grant ≠ some .engine ∧
      s.askChunk = { s with arbiter := { s.arbiter with chunkWaiting := true } }) := by
  unfold State.askChunk
  dsimp only
  split
  · split
    · next h =>
      simp only [Bool.and_eq_true, decide_eq_true_eq, bne_iff_ne] at h
      obtain ⟨⟨⟨active, -⟩, -⟩, grant⟩ := h
      exact .inr ⟨active, grant, rfl⟩
    · exact .inl rfl
  · exact .inl (if_neg (by simp))

/-- R147: to ask for a chunk changes the arbiter alone. -/
theorem askChunk_eq (s : State) : s.askChunk = { s with arbiter := s.askChunk.arbiter } := by
  rcases askChunk_cases s with e | ⟨-, -, e⟩ <;> rw [e]

@[simp] theorem askChunk_memory (s : State) : s.askChunk.memory = s.memory := by rw [askChunk_eq]
@[simp] theorem askChunk_regions (s : State) : s.askChunk.regions = s.regions := by rw [askChunk_eq]

theorem askChunk_engineLaw {s : State} (law : s.EngineLaw) : s.askChunk.EngineLaw := by
  rcases askChunk_cases s with e | ⟨active, grant, e⟩ <;> rw [e]
  · exact law
  · obtain ⟨-, -, counted, apart⟩ := law
    exact ⟨fun _ => by simp [active], fun h => absurd h grant, counted, apart⟩

/-- Extents that share no cell. -/
theorem not_holds_of_meetsAny {e : Extent} {l : List Extent} (h : e.meetsAny l = false) {a : Nat}
    (ha : e.holds a = true) : ∀ x ∈ l, ¬x.holds a = true := by
  intro x hx hxa
  have : e.meetsAny l = true := by
    refine (Extent.meetsAny_iff e.first e.count l).mpr ?_
    simp only [Extent.holds, Bool.and_eq_true, decide_eq_true_eq] at ha
    refine ⟨a - e.first, by omega, x, hx, ?_⟩
    rwa [Nat.add_sub_cancel' ha.1]
  simp [h] at this

/-! ### Operations begin and end (R147 to R153) -/

/-- An operation put into an IDLE engine, its destination covered by its extents and apart from the live ones, keeps the
law. -/
theorem State.EngineLaw.start {s : State} (law : s.EngineLaw) {e : Engine} (active : e.state = .active)
    (counted : ∀ op, e.op = some op → op.progress ≤ op.total)
    (apart : ∀ target, e.target = some target →
      (∀ a, target.holds a → ∃ x ∈ e.extents, x.holds a) ∧ ∀ a, target.holds a → ∀ x ∈ s.liveExtents, ¬x.holds a) :
    ({ s with engine := e } : State).askChunk.arbitrate.EngineLaw :=
  (arbitrate_guardKept _).engineLaw (askChunk_engineLaw ⟨fun _ => by simp [active], law.2.1, counted, apart⟩)

theorem startOp_engineLaw {kind : OpKind} {owner : Port} {total : Nat} {extents : List Extent} {s : State}
    (law : s.EngineLaw)
    (apart : ∀ target, (s.engine.start kind owner total extents).target = some target →
      (∀ a, target.holds a → ∃ x ∈ extents, x.holds a) ∧ ∀ a, target.holds a → ∀ x ∈ s.liveExtents, ¬x.holds a) :
    (s.startOp kind owner total extents).EngineLaw :=
  law.start rfl (fun op h => by cases h; exact Nat.zero_le _) apart

theorem unverify_guardKept (e : Extent) (s : State) : GuardKept s (s.unverify e) :=
  ⟨rfl, rfl, .rfl, rfl, rfl, .refl _, live_of_extents id rfl fun g x hx => by rwa [unverify_extents] at hx⟩

theorem opFillEffect_engineLaw {p : Port} {n : Nat} {v : Cell} {s : State} (h : opFillRefusal p n s = none)
    (law : s.EngineLaw) : (opFillEffect p n v s).EngineLaw := by
  simp only [opFillRefusal, firstRefusal_none, List.forall_mem_cons] at h
  obtain ⟨-, -, -, -, live, -⟩ := h
  have unverified := unverify_guardKept (s.region n).range s
  refine startOp_engineLaw (unverified.engineLaw law) fun target ht => ?_
  obtain rfl : (s.region n).range = target := by
    simpa [Engine.target, Engine.start, Engine.base, Region.range] using ht
  exact ⟨fun a ha => ⟨_, by simp, ha⟩, fun a ha x hx => not_holds_of_meetsAny live ha x (unverified.live x hx)⟩

theorem opCopyEffect_engineLaw {p : Port} {src dst n : Nat} {s : State} (h : opCopyRefusal p src dst n s = none)
    (law : s.EngineLaw) : (opCopyEffect p src dst n s).EngineLaw := by
  simp only [opCopyRefusal, firstRefusal_none, List.forall_mem_cons] at h
  obtain ⟨-, -, -, -, -, live, -⟩ := h
  have unverified := unverify_guardKept { first := dst, count := n } s
  refine startOp_engineLaw (unverified.engineLaw law) fun target ht => ?_
  obtain rfl : ({ first := dst, count := n } : Extent) = target := by
    simpa [Engine.target, Engine.start] using ht
  exact ⟨fun a ha => ⟨_, by simp, ha⟩, fun a ha x hx => not_holds_of_meetsAny live ha x (unverified.live x hx)⟩

/-- A CHECK writes no cell. -/
theorem opCheckEffect_engineLaw {p : Port} {g w : Nat} {s : State} (law : s.EngineLaw) :
    (opCheckEffect p g w s).EngineLaw := by
  unfold opCheckEffect
  split
  · exact law
  · exact law.start rfl (fun op h => by cases h; exact Nat.zero_le _) fun target h => by
      simp [Engine.target, Engine.start] at h

/-- An operation in the record ends, with no chunk about. -/
theorem endOp_engineLaw {owner : Option Port} {r : OpResult} {s : State} (waiting : s.arbiter.chunkWaiting = false)
    (grant : s.arbiter.grant ≠ some .engine) (counted : ∀ op, s.engine.op = some op → op.progress ≤ op.total) :
    (s.endOp owner r).EngineLaw := by
  have ended : ({ s with engine := s.engine.finish r } : State).EngineLaw :=
    engineLaw_of_idle rfl waiting grant counted
  cases owner with
  | none => exact ended
  | some p => exact (setPort_guardKept p _ _).engineLaw ended

@[simp] theorem startOp_memory (k : OpKind) (p : Port) (n : Nat) (l : List Extent) (s : State) :
    (s.startOp k p n l).memory = s.memory := askChunk_memory _

@[simp] theorem startOp_regions (k : OpKind) (p : Port) (n : Nat) (l : List Extent) (s : State) :
    (s.startOp k p n l).regions = s.regions := askChunk_regions _

/-- An operation ends: the engine finishes, and ports may have events raised. -/
theorem endOp_eq (owner : Option Port) (r : OpResult) (s : State) : s.endOp owner r =
    { s with engine := s.engine.finish r, portM := (s.endOp owner r).portM, portD := (s.endOp owner r).portD } := by
  cases owner with
  | none => rfl
  | some p => cases p <;> rfl

/-- The commands of the engine change no cell and no region. -/
theorem opCheckEffect_store (p : Port) (g w : Nat) (s : State) :
    (opCheckEffect p g w s).memory = s.memory ∧ (opCheckEffect p g w s).regions = s.regions := by
  unfold opCheckEffect
  split
  · exact ⟨rfl, rfl⟩
  · exact ⟨askChunk_memory _, askChunk_regions _⟩

theorem opResumeEffect_store (s : State) :
    (opResumeEffect s).memory = s.memory ∧ (opResumeEffect s).regions = s.regions := by
  unfold opResumeEffect
  split
  · exact ⟨askChunk_memory _, askChunk_regions _⟩
  · exact ⟨rfl, rfl⟩

theorem opAbortEffect_store (s : State) :
    (opAbortEffect s).memory = s.memory ∧ (opAbortEffect s).regions = s.regions := by
  unfold opAbortEffect
  split
  · exact ⟨rfl, rfl⟩
  · split
    · exact ⟨rfl, rfl⟩
    · rw [endOp_eq]
      exact ⟨rfl, rfl⟩

theorem opSuspendEffect_guardKept (s : State) : GuardKept s (opSuspendEffect s) := by
  unfold opSuspendEffect
  split
  · next active =>
    have withdrawn : ChunkKept s.arbiter { s.arbiter with chunkWaiting := false } := ⟨by simp +contextual, fun _ _ => rfl⟩
    exact ⟨rfl, rfl, by simp [State.withdrawChunk, active], rfl, rfl, withdrawn, fun _ hx => hx⟩
  · exact .refl s

theorem opResumeEffect_engineLaw {s : State} (law : s.EngineLaw) : (opResumeEffect s).EngineLaw := by
  unfold opResumeEffect
  split
  · next suspended =>
    have resumed : GuardKept s { s with engine := { s.engine with state := .active } } :=
      ⟨rfl, rfl, by simp [suspended], rfl, rfl, .refl _, fun _ hx => hx⟩
    exact (arbitrate_guardKept _).engineLaw (askChunk_engineLaw (resumed.engineLaw law))
  · exact law

theorem opAbortEffect_engineLaw {s : State} (law : s.EngineLaw) : (opAbortEffect s).EngineLaw := by
  unfold opAbortEffect
  split
  · exact law
  · split
    · exact law
    · next grant =>
      obtain ⟨-, -, counted, -⟩ := law
      exact endOp_engineLaw rfl grant counted

/-! ### The map (R36, R41 to R45) -/

theorem mapEffect_live {g : Nat} {m : Mapping} {s : State} :
    ∀ x ∈ (mapEffect g m s).liveExtents, x ∈ s.liveExtents ∨ x = m.extent := by
  have same : (mapEffect g m s).run = s.run ∧ (mapEffect g m s).sequence = s.sequence := by
    unfold mapEffect
    split <;> exact ⟨rfl, rfl⟩
  have grows (n : Nat) (x : Extent) (hx : x ∈ ((mapEffect g m s).segment n).extents) :
      x ∈ (s.segment n).extents ∨ x = m.extent := by
    unfold mapEffect at hx
    split at hx
    · next hg =>
      rcases setSegment_segment g n _ s with e | ⟨rfl, e⟩ <;> rw [e] at hx
      · exact .inl hx
      · rw [hg]
        simp [MapEntry.extents, MapEntry.mappings, MapEntry.current, MapEntry.pending] at hx ⊢
        exact hx.imp .inl id
    · rcases setSegment_segment g n _ s with e | ⟨rfl, e⟩ <;> rw [e] at hx
      · exact .inl hx
      · exact .inr (by simpa [MapEntry.extents, MapEntry.mappings, MapEntry.current, MapEntry.pending] using hx)
  obtain ⟨run, sequence⟩ := same
  intro x hx
  obtain ⟨active, n, hn, hxn⟩ := mem_liveExtents.mp hx
  exact (grows n x hxn).imp_left fun h => mem_liveExtents.mpr ⟨run ▸ active, n, sequence ▸ hn, h⟩

/-- R36, R41: a new mapping's extent meets no busy extent. -/
theorem State.EngineLaw.of_live {s t : State} (law : s.EngineLaw) (engine : t.engine = s.engine)
    (arbiter : t.arbiter = s.arbiter)
    (live : ∀ x ∈ t.liveExtents, x ∈ s.liveExtents ∨ x.meetsAny s.busyExtents = false) : t.EngineLaw := by
  obtain ⟨busy, alone, counted, apart⟩ := law
  refine ⟨by rwa [engine, arbiter], by rwa [arbiter], by rwa [engine], fun target ht => ?_⟩
  rw [engine] at ht
  obtain ⟨covered, free⟩ := apart target ht
  have active : s.engine.state ≠ .idle := fun h => by simp [Engine.target, h] at ht
  refine ⟨by rwa [engine], fun a ha x hx => ?_⟩
  rcases live x hx with old | new
  · exact free a ha x old
  · intro hxa
    obtain ⟨y, hy, hya⟩ := covered a ha
    exact not_holds_of_meetsAny new hxa y (by simpa [State.busyExtents, active] using hy) hya

theorem mapEffect_engineLaw {g base courses bars : Nat} {expected : Check} {s : State}
    (h : mapRefusal g base courses bars s = none) (law : s.EngineLaw) :
    (mapEffect g (newMapping base courses bars expected) s).EngineLaw := by
  simp only [mapRefusal, firstRefusal_none, List.forall_mem_cons, Bool.or_eq_false_iff] at h
  obtain ⟨-, -, -, ⟨busy, -⟩, -⟩ := h
  have same : (mapEffect g (newMapping base courses bars expected) s).engine = s.engine ∧
      (mapEffect g (newMapping base courses bars expected) s).arbiter = s.arbiter := by
    unfold mapEffect
    split <;> exact ⟨rfl, rfl⟩
  refine law.of_live same.1 same.2 fun x hx => (mapEffect_live x hx).imp_right fun e => ?_
  rw [e]
  exact busy

/-- A map entry set to one without new extents. -/
theorem setSegment_guardKept {g : Nat} {e : MapEntry} {s : State} (h : ∀ x ∈ e.extents, x ∈ (s.segment g).extents) :
    GuardKept s (s.setSegment g e) := by
  refine ⟨rfl, rfl, .rfl, rfl, rfl, .refl _, live_of_extents id rfl fun n x hx => ?_⟩
  rcases setSegment_segment g n e s with k | ⟨rfl, k⟩ <;> rw [k] at hx
  · exact hx
  · exact h x hx

theorem mapCancelEffect_guardKept (g : Nat) (s : State) : GuardKept s (mapCancelEffect g s) := by
  unfold mapCancelEffect
  split
  · exact .refl s
  · next hg =>
    refine setSegment_guardKept fun x hx => ?_
    rw [hg]
    simp [MapEntry.extents, MapEntry.mappings, MapEntry.current, MapEntry.pending] at hx ⊢
    exact .inl hx

theorem mapClearEffect_guardKept (g : Nat) (s : State) : GuardKept s (mapClearEffect g s) :=
  setSegment_guardKept fun x hx => by cases hx

theorem setVerified_extents (slot : MappingSlot) (v : Bool) (e : MapEntry) :
    (e.setVerified slot v).extents = e.extents := by
  cases e with
  | empty => rfl
  | mapped c x => cases slot <;> cases x <;> rfl

/-! ### Arming (R131, R132) -/

/-- R131: no extent of the article meets a busy extent. -/
theorem armEffect_engineLaw {e r c : Nat} {s : State}
    (free : ∀ x ∈ s.articleExtents, x.meetsAny s.busyExtents = false) (law : s.EngineLaw) :
    (armEffect e r c s).EngineLaw := by
  refine (tryPlacement_guardKept _).engineLaw (law.of_live rfl rfl fun x hx => .inr (free x ?_))
  obtain ⟨-, n, hn, hxn⟩ := mem_liveExtents.mp hx
  exact List.mem_flatMap.mpr ⟨n, hn, hxn⟩

/-- The last tests of a list of tests, once none refuses. -/
theorem firstReply_none {l : List (Option Reply)} : firstReply l = none ↔ ∀ x ∈ l, x = none := by
  induction l with
  | nil => simp [firstReply]
  | cons x rest ih => cases x <;> simp [firstReply, ih]

theorem armRefusal_none_free {e r c : Nat} {s : State} (h : armRefusal e r c s = none) :
    ∀ x ∈ s.articleExtents, x.meetsAny s.busyExtents = false := by
  simp only [armRefusal, firstReply_none, List.forall_mem_cons, firstRefusal_none] at h
  obtain ⟨-, -, -, -, ⟨-, busy, -⟩, -⟩ := h
  simpa [List.any_eq_false] using busy

end Sys2Proof.Machine
end

section
/-! The cells: what a write, a chunk and the rest of the steps leave of pattern memory and of the live extents. -/

namespace Sys2Proof.Machine

/-! ### Cells outside a write, in any memory -/

theorem readCell_writeCell_ne {mem : List (Nat × Cell)} {a b : Nat} {v : Cell} (h : b ≠ a) :
    readCell (writeCell mem a v) b = readCell mem b := by
  induction mem with
  | nil => by_cases hv : v = 0#16 <;> simp [writeCell, readCell, hv, h]
  | cons x rest ih =>
    obtain ⟨k, w⟩ := x
    simp only [writeCell]
    split
    · by_cases hv : v = 0#16 <;> simp [readCell, hv, h]
    · split
      · next hk =>
        subst hk
        by_cases hv : v = 0#16 <;> simp [readCell, hv, h]
      · simp [readCell, ih]

theorem readCell_writeCells_outside {cells : List Cell} {mem : List (Nat × Cell)} {a b : Nat}
    (h : b < a ∨ a + cells.length ≤ b) : readCell (writeCells mem a cells) b = readCell mem b := by
  induction cells generalizing mem a with
  | nil => rfl
  | cons v rest ih =>
    simp only [List.length_cons] at h
    exact (ih (by omega)).trans (readCell_writeCell_ne (by omega))

theorem readCell_copyCells_frame {n : Nat} {mem : List (Nat × Cell)} {src dst b : Nat} (h : b < dst ∨ dst + n ≤ b) :
    readCell (copyCells mem src dst n) b = readCell mem b := by
  induction n generalizing mem src dst with
  | zero => rfl
  | succ n ih => exact (ih (by omega)).trans (readCell_writeCell_ne (by omega))

/-! ### A port's write (R22, R23) -/

theorem landWrite_live (a : Nat) (cells : List Cell) (s : State) :
    ∀ x ∈ (s.landWrite a cells).liveExtents, x ∈ s.liveExtents :=
  (unverify_guardKept { first := a, count := cells.length } { s with memory := writeCells s.memory a cells }).live

theorem writeInGrant_engineLaw {p : Port} {a : Nat} {cells : List Cell} {s : State} (law : s.EngineLaw) :
    (s.writeInGrant p a cells).1.EngineLaw := by
  unfold State.writeInGrant
  split
  · exact law
  · exact law.of_reads .rfl rfl rfl (.refl _) (landWrite_live a cells s)

@[simp] theorem writeInGrant_regions (p : Port) (a : Nat) (cells : List Cell) (s : State) :
    (s.writeInGrant p a cells).1.regions = s.regions := by
  unfold State.writeInGrant
  split <;> rfl

theorem writeInGrant_memoryWf {p : Port} {a : Nat} {cells : List Cell} {s : State} (h : MemoryWf s.memory)
    (inside : a + cells.length ≤ memorySize) : MemoryWf (s.writeInGrant p a cells).1.memory := by
  unfold State.writeInGrant
  split
  · exact h
  · exact writeCells_wf h inside

/-- R22: a write that reaches a live extent is refused. -/
theorem judgeWrite_none_live {p : Port} {e : Extent} {s : State} (h : s.judgeWrite p e = none) :
    e.meetsAny s.liveExtents = false := by
  unfold State.judgeWrite at h
  split at h
  · cases h
  · repeat' split at h
    all_goals try cases h
    next live => exact Bool.eq_false_iff.mpr live

/-- R36: a port's write changes no cell of a live extent. -/
theorem writeInGrant_live {p : Port} {a : Nat} {cells : List Cell} {s : State} {x : Extent} (hx : x ∈ s.liveExtents)
    {b : Nat} (hb : x.holds b = true) :
    readCell (s.writeInGrant p a cells).1.memory b = readCell s.memory b := by
  unfold State.writeInGrant
  split
  · rfl
  · next judged =>
    refine readCell_writeCells_outside ?_
    by_contra inside
    refine not_holds_of_meetsAny (judgeWrite_none_live judged) ?_ x hx hb
    simp only [Extent.holds, Bool.and_eq_true, decide_eq_true_eq]
    omega

/-! ### A chunk (R147) -/

/-- The cells of a chunk change the memory, or the check register. -/
theorem doCells_eq (op : Operation) (s : State) : s.doCells op =
    { s with
      memory := (s.doCells op).memory, engine := { s.engine with register := (s.doCells op).engine.register } } := by
  unfold State.doCells
  split <;> rfl

theorem chunkSize_le (op : Operation) : op.chunkSize ≤ op.total - op.progress := Nat.min_le_right _ _

theorem doCells_memoryWf {op : Operation} {s : State} (h : MemoryWf s.memory) (inside : s.chunkEnd op ≤ memorySize) :
    MemoryWf (s.doCells op).memory := by
  unfold State.chunkEnd at inside
  unfold State.doCells
  split <;> simp only [*] at inside
  · exact writeCells_wf h (by simpa using inside)
  · exact copyCells_wf h (by omega)
  · exact h
  · exact writeCells_wf h (by simpa using inside)

/-- R148, R149: a chunk changes cells of the operation's destination alone. -/
theorem doCells_outside {op : Operation} {s : State} (hop : s.engine.op = some op) (busy : s.engine.state ≠ .idle)
    (counted : op.progress ≤ op.total) {a : Nat} (h : ∀ target, s.engine.target = some target → ¬target.holds a = true) :
    readCell (s.doCells op).memory a = readCell s.memory a := by
  have size := chunkSize_le op
  have outside {x : Extent} (hx : s.engine.target = some x) : a < x.first ∨ x.first + x.count ≤ a := by
    have := h x hx
    simp only [Extent.holds, Bool.and_eq_true, decide_eq_true_eq] at this
    omega
  unfold State.doCells
  split
  · next hk =>
    have := outside (x := { first := s.engine.base, count := op.total }) (by simp [Engine.target, busy, hop, hk])
    exact readCell_writeCells_outside (by simp only [List.length_replicate] at *; omega)
  · next src dst hk =>
    have := outside (x := { first := dst, count := op.total }) (by simp [Engine.target, busy, hop, hk])
    exact readCell_copyCells_frame (by simp only at *; omega)
  · rfl
  · next hk =>
    have := outside (x := { first := 0, count := op.total }) (by simp [Engine.target, busy, hop, hk])
    exact readCell_writeCells_outside (by simp only [List.length_replicate] at *; omega)

/-- R36: a chunk in its grant changes no cell of a live extent. -/
theorem doCells_live {op : Operation} {s : State} (law : s.EngineLaw) (grant : s.arbiter.grant = some .engine)
    (hop : s.engine.op = some op) {x : Extent} (hx : x ∈ s.liveExtents) {a : Nat} (ha : x.holds a = true) :
    readCell (s.doCells op).memory a = readCell s.memory a := by
  obtain ⟨busy, -, counted, apart⟩ := law
  exact doCells_outside hop (busy (.inr grant)) (counted op hop) fun target ht hta => (apart target ht).2 a hta x hx ha

/-- What follows a chunk touches the engine, the map and the ports. -/
theorem settleChunk_eq (op : Operation) (s : State) : s.settleChunk op =
    { s with
      engine := (s.settleChunk op).engine, segments := (s.settleChunk op).segments, portM := (s.settleChunk op).portM,
      portD := (s.settleChunk op).portD } := by
  unfold State.settleChunk
  split
  · rfl
  · split
    · rw [endOp_eq]
    · split
      · split
        · rfl
        · unfold State.endCheck State.settleCheck
          dsimp only
          rw [endOp_eq]
          split <;> rfl
        · rw [endOp_eq]
        · rw [endOp_eq]
      · rfl

/-- After a chunk the operation goes on, or the engine is IDLE with the operation, or none, in its record. -/
theorem settleChunk_idle (op : Operation) (s : State) : s.settleChunk op = s ∨
    ((s.settleChunk op).engine.state = .idle ∧
      ∀ x, (s.settleChunk op).engine.op = some x → s.engine.op = some x) := by
  unfold State.settleChunk
  split
  · exact .inr ⟨rfl, fun x h => by cases h⟩
  · split
    · rw [endOp_eq]
      exact .inr ⟨rfl, fun _ => id⟩
    · split
      · split
        · exact .inr ⟨rfl, fun x h => by cases h⟩
        · unfold State.endCheck State.settleCheck
          dsimp only
          rw [endOp_eq]
          split <;> exact .inr ⟨rfl, fun _ => id⟩
        · rw [endOp_eq]
          exact .inr ⟨rfl, fun _ => id⟩
        · rw [endOp_eq]
          exact .inr ⟨rfl, fun _ => id⟩
      · exact .inl rfl

/-- The operation after its next chunk. -/
def Operation.advanced (op : Operation) : Operation := { op with progress := op.progress + op.chunkSize }

/-- The state in which a chunk's cells are done and counted, and its end is not yet settled. -/
def State.chunkDone (op : Operation) (s : State) : State :=
  { s with
    memory := (s.doCells op).memory
    engine := { s.engine with register := (s.doCells op).engine.register, op := some op.advanced } }

theorem runChunk_settles (op : Operation) (s : State) :
    s.runChunk op = ((s.chunkDone op).settleChunk op.advanced).endGrant.askChunk.arbitrate := by
  unfold State.runChunk State.chunkDone Operation.advanced
  dsimp only
  rw [doCells_eq]

theorem chunkDone_engineLaw {op : Operation} {s : State} (hop : s.engine.op = some op) (law : s.EngineLaw) :
    (s.chunkDone op).EngineLaw := by
  obtain ⟨busy, alone, counted, apart⟩ := law
  have target : (s.chunkDone op).engine.target = s.engine.target := by
    simp only [Engine.target, State.chunkDone, hop]
    rfl
  refine ⟨busy, alone, fun x hx => ?_, fun y hy => apart y (target ▸ hy)⟩
  cases hx
  have := counted op hop
  have := chunkSize_le op
  simp only [Operation.advanced]
  omega

theorem runChunk_engineLaw {op : Operation} {s : State} (hop : s.engine.op = some op)
    (grant : s.arbiter.grant = some .engine) (law : s.EngineLaw) : (s.runChunk op).EngineLaw := by
  have done := chunkDone_engineLaw hop law
  rw [runChunk_settles]
  refine (arbitrate_guardKept _).engineLaw (askChunk_engineLaw ?_)
  rcases settleChunk_idle op.advanced (s.chunkDone op) with e | ⟨idle, kept⟩
  · rw [e]
    exact (endGrant_guardKept _).engineLaw done
  · obtain ⟨-, alone, counted, -⟩ := done
    refine engineLaw_of_idle idle ?_ (by simp [State.endGrant]) fun x hx => counted x (kept x hx)
    rw [settleChunk_eq]
    exact alone grant

/-- A chunk in its grant changes cells, the engine, the arbiter, the map and the ports. -/
theorem runChunk_eq (op : Operation) (s : State) : s.runChunk op =
    { s with
      memory := (s.doCells op).memory, engine := (s.runChunk op).engine, arbiter := (s.runChunk op).arbiter,
      segments := (s.runChunk op).segments, portM := (s.runChunk op).portM, portD := (s.runChunk op).portD } := by
  rw [runChunk_settles, settleChunk_eq, askChunk_eq]
  rfl

end Sys2Proof.Machine
end

section
/-! The region table, step by step (R27, R28, R34). -/

namespace Sys2Proof.Machine

/-- From `s` to `t` valid regions stay apart, lock-down stays on valid held regions, and a region that is locked down is as
it was. -/
structure RegionsKept (s t : State) : Prop where
  apart : s.RegionLaw → t.RegionLaw
  locks : s.LockLaw → t.LockLaw
  down : s.LockLaw → ∀ n, (s.region n).lockDown = true → t.region n = s.region n

theorem RegionsKept.trans {s t u : State} (h : RegionsKept s t) (k : RegionsKept t u) : RegionsKept s u := by
  refine ⟨k.apart ∘ h.apart, k.locks ∘ h.locks, fun law n hn => ?_⟩
  have first := h.down law n hn
  exact (k.down (h.locks law) n (first ▸ hn)).trans first

theorem RegionsKept.of_same {s t : State} (h : t.regions = s.regions) : RegionsKept s t := by
  have region (n : Nat) : t.region n = s.region n := by rw [State.region, State.region, h]
  refine ⟨fun law => ?_, fun law => ?_, fun _ n _ => region n⟩
  · simpa only [State.RegionLaw, region] using law
  · simpa only [State.LockLaw, region] using law

theorem setRegion_region (n i : Nat) (r : Region) (s : State) :
    (s.setRegion n r).region i = s.region i ∨ (i = n ∧ (s.setRegion n r).region i = r) :=
  getD_set_cases s.regions n i r Region.initial

/-- A region set apart from the others, with lock-down where the law allows it, in place of one not locked down. -/
theorem setRegion_regionsKept {n : Nat} {r : Region} {s : State}
    (apart : s.RegionLaw → r.valid = true → ∀ i, i < 16 → i ≠ n → (s.region i).valid = true →
      ∀ a, ¬(r.range.holds a = true ∧ (s.region i).range.holds a = true))
    (locks : s.LockLaw → r.lockDown = true → r.valid = true ∧ r.holder.isSome = true)
    (down : s.LockLaw → (s.region n).lockDown = true → r = s.region n) : RegionsKept s (s.setRegion n r) := by
  refine ⟨fun law i j hi hj hne vi vj a => ?_, fun law i hi => ?_, fun law i hi => ?_⟩
  · rcases setRegion_region n i r s with ei | ⟨ni, ei⟩ <;> rcases setRegion_region n j r s with ej | ⟨nj, ej⟩ <;>
      rw [ei] at vi <;> rw [ej] at vj <;> rw [ei, ej]
    · exact law i j hi hj hne vi vj a
    · exact fun ⟨ha, hb⟩ => apart law vj i hi (nj ▸ hne) vi a ⟨hb, ha⟩
    · exact apart law vi j hj (fun h => hne (ni.trans h.symm)) vj a
    · exact absurd (ni.trans nj.symm) hne
  · rcases setRegion_region n i r s with e | ⟨-, e⟩ <;> rw [e] at hi ⊢
    · exact law i hi
    · exact locks law hi
  · rcases setRegion_region n i r s with e | ⟨rfl, e⟩ <;> rw [e]
    exact down law hi

/-- A region changed in its holder, its lock-down or its validity, its cells as they were. -/
theorem changeRegion_regionsKept {n : Nat} {r : Region} {s : State} (hn : n < 16)
    (range : r.range = (s.region n).range) (valid : r.valid = true → (s.region n).valid = true)
    (locks : s.LockLaw → r.lockDown = true → r.valid = true ∧ r.holder.isSome = true)
    (down : s.LockLaw → (s.region n).lockDown = true → r = s.region n) : RegionsKept s (s.setRegion n r) :=
  setRegion_regionsKept (fun law hv i hi hne vi => range ▸ law n i hn hi hne.symm (valid hv) vi) locks down

theorem regionSetEffect_regionsKept {n base size : Nat} {s : State} (h : regionSetRefusal n base size s = none) :
    RegionsKept s (regionSetEffect n base size s) := by
  simp only [regionSetRefusal, firstRefusal_none, List.forall_mem_cons] at h
  obtain ⟨-, held, -, -, others, -⟩ := h
  refine setRegion_regionsKept (fun _ _ i hi hne vi a ⟨ha, hb⟩ => ?_) (fun _ hd => by cases hd) fun law hd => ?_
  · simp only [State.overlapsOther, List.any_eq_false, List.mem_range] at others
    have shared : Extent.meetsAny { first := base, count := size } [(s.region i).range] = false := by
      simpa [Extent.meetsAny, vi, hne] using others i hi
    exact not_holds_of_meetsAny shared ha _ (by simp) hb
  · obtain ⟨hv, hh⟩ := law n hd
    simp [hv, hh] at held

theorem regionClearEffect_regionsKept {n : Nat} {s : State} (h : regionClearRefusal n s = none) :
    RegionsKept s (regionClearEffect n s) := by
  simp only [regionClearRefusal, firstRefusal_none, List.forall_mem_cons] at h
  obtain ⟨hn, -, held, -, -, -⟩ := h
  have free (law : s.LockLaw) : (s.region n).lockDown ≠ true := fun hd => by simp [(law n hd).2] at held
  exact changeRegion_regionsKept (by simp at hn; omega) rfl (fun hv => by cases hv) (fun law hd => absurd hd (free law))
    fun law hd => absurd hd (free law)

/-- LOCK and UNLOCK change the holder of a region that is not locked down. -/
theorem setHolder_regionsKept {n : Nat} (x : Option Port) {s : State} (hn : n < 16)
    (free : (s.region n).lockDown = false) : RegionsKept s (s.setRegion n { s.region n with holder := x }) :=
  changeRegion_regionsKept hn rfl id (fun _ hd => absurd hd (by simp [free])) fun _ hd => absurd hd (by simp [free])

theorem lockEffect_regionsKept {p : Port} {n : Nat} {s : State} (h : lockRefusal p n s = none) :
    RegionsKept s (lockEffect p n s) := by
  simp only [lockRefusal, firstRefusal_none, List.forall_mem_cons] at h
  obtain ⟨hn, -, free, -⟩ := h
  exact setHolder_regionsKept (some p) (by simp at hn; omega) free

theorem unlockEffect_regionsKept {p : Port} {n : Nat} {s : State} (h : unlockRefusal p n s = none) :
    RegionsKept s (unlockEffect n s) := by
  simp only [unlockRefusal, firstRefusal_none, List.forall_mem_cons] at h
  obtain ⟨hn, -, free, -⟩ := h
  exact setHolder_regionsKept none (by simp at hn; omega) free

theorem lockDownEffect_regionsKept {n : Nat} {s : State} (h : lockDownRefusal n s = none) :
    RegionsKept s (lockDownEffect n s) := by
  simp only [lockDownRefusal, firstRefusal_none, List.forall_mem_cons] at h
  obtain ⟨hn, valid, held, -⟩ := h
  refine changeRegion_regionsKept (by simp at hn; omega) rfl id (fun _ _ => ⟨by simpa using valid, ?_⟩) fun _ hd => ?_
  · cases hh : (s.region n).holder <;> simp_all
  · rw [← hd]

end Sys2Proof.Machine
end

section
/-! What every step keeps of the cells, the region table and the live guard. -/

namespace Sys2Proof.Machine

/-- From `s` to `t` the cells are as they were, and the laws of the region table and of the engine are kept. -/
structure StoreKept (s t : State) : Prop where
  memory : t.memory = s.memory
  regions : RegionsKept s t
  engine : s.EngineLaw → t.EngineLaw

theorem StoreKept.trans {s t u : State} (h : StoreKept s t) (k : StoreKept t u) : StoreKept s u :=
  ⟨k.memory.trans h.memory, h.regions.trans k.regions, k.engine ∘ h.engine⟩

theorem GuardKept.storeKept {s t : State} (h : GuardKept s t) : StoreKept s t :=
  ⟨h.memory, .of_same h.regions, h.engineLaw⟩

theorem StoreKept.refl (s : State) : StoreKept s s := (GuardKept.refl s).storeKept

/-- The cells and the regions are as they were, and the law of the engine is kept. -/
theorem StoreKept.of_engine {s t : State} (memory : t.memory = s.memory) (regions : t.regions = s.regions)
    (engine : s.EngineLaw → t.EngineLaw) : StoreKept s t := ⟨memory, .of_same regions, engine⟩

/-- The region table alone changes. -/
theorem StoreKept.of_regions {n : Nat} {r : Region} {s : State} (h : RegionsKept s (s.setRegion n r)) :
    StoreKept s (s.setRegion n r) := ⟨rfl, h, id⟩

theorem guardKept_blind : PortBlind GuardKept := ⟨.refl, .trans, setPort_guardKept⟩

theorem storeKept_blind : PortBlind StoreKept := ⟨.refl, .trans, fun p x s => (setPort_guardKept p x s).storeKept⟩

/-! ### Lane events -/

theorem loseFromLane_guardKept (b : Nat) (s : State) : GuardKept s (s.loseFromLane b) :=
  (loseFromLane_runSide b s).guardKept (by simp [State.loseFromLane])

theorem replyTaken_guardKept (b : Nat) (s : State) : GuardKept s (s.replyTaken b) :=
  (replyTaken_runSide b s).guardKept fun h => by
    unfold State.replyTaken
    dsimp only
    repeat' split
    all_goals simpa using h

theorem replyInPosition_guardKept (b x : Nat) (s : State) : GuardKept s (s.replyInPosition b x) := by
  have set (y : Bar) : GuardKept s (s.setBar b y) := (setBar_runSide b y s).guardKept id
  unfold State.replyInPosition
  split
  · split
    · exact (set _).trans (completePlacement_guardKept _)
    · exact (set _).trans (barFault_guardKept _ _ _)
  · exact .refl s

theorem replyFault_guardKept (b c : Nat) (s : State) : GuardKept s (s.replyFault b c) := by
  unfold State.replyFault
  split
  · exact (((setBar_runSide b _ s).guardKept id).trans (loseFromLane_guardKept _ _)).trans (barFault_guardKept _ _ _)
  · exact .refl s

theorem driveReply_guardKept (l a : Nat) (r : DriveReply) (s : State) : GuardKept s (s.driveReply l a r) := by
  unfold State.driveReply
  split
  · exact .refl s
  · split
    · exact replyTaken_guardKept _ s
    · exact replyInPosition_guardKept _ _ s
    · exact replyFault_guardKept _ _ s
    · exact .refl s

theorem frameSent_guardKept (g : Nat) (s : State) : GuardKept s (s.frameSent g) :=
  (frameSent_runSide g s).guardKept fun h => by
    unfold State.frameSent
    dsimp only
    repeat' split
    all_goals simpa using h

theorem takeLimitReached_guardKept (b : Nat) (s : State) : GuardKept s (s.takeLimitReached b) := by
  unfold State.takeLimitReached
  split
  · split
    · split
      · exact (loseFromLane_guardKept b s).trans (barFault_guardKept _ _ _)
      · exact .refl s
    · exact .refl s
  · exact .refl s

theorem moveLimitReached_guardKept (b : Nat) (s : State) : GuardKept s (s.moveLimitReached b) := by
  unfold State.moveLimitReached
  split
  · split
    · split
      · exact ((setBar_runSide b _ s).guardKept id).trans (barFault_guardKept _ _ _)
      · exact .refl s
    · exact .refl s
  · exact .refl s

theorem homeEffect_guardKept (b : Nat) (s : State) : GuardKept s (homeEffect b s) := by
  have one (s : State) (b : Nat) : GuardKept s (s.homeOne b) := by
    unfold State.homeOne
    split
    · exact (post_runSide b _ s).guardKept (by simp)
    · exact .refl s
  unfold homeEffect
  split
  · exact .foldl one _ s
  · exact one s b

/-! ### The builder -/

/-- R50: a switch leaves the segment with the pending mapping, an extent it had. -/
theorem startSegment_guardKept (g : Nat) (s : State) : GuardKept s (s.startSegment g) := by
  have rebound (e : Engine) : (e.rebind g).state = e.state ∧ (e.rebind g).op = e.op ∧ (e.rebind g).extents = e.extents := by
    unfold Engine.rebind
    split
    · split <;> exact ⟨rfl, rfl, rfl⟩
    · exact ⟨rfl, rfl, rfl⟩
  unfold State.startSegment
  split
  · next c x hg =>
    split
    · have switched : GuardKept s (s.setSegment g (.mapped x none)) := setSegment_guardKept fun y hy => by
        rw [hg]
        simp [MapEntry.extents, MapEntry.mappings, MapEntry.current, MapEntry.pending] at hy ⊢
        exact .inr hy
      obtain ⟨state, op, extents⟩ := rebound s.engine
      have bound : GuardKept (s.setSegment g (.mapped x none))
          { s.setSegment g (.mapped x none) with engine := s.engine.rebind g } :=
        ⟨rfl, rfl, by rw [state]; rfl, op, extents, .refl _, fun _ h => h⟩
      exact (switched.trans bound).trans (raise_guardKept _ _)
    · exact raise_guardKept _ s
  · exact .refl s

theorem arbiter_guardKept {a : Arbiter} {s : State} (h : ChunkKept s.arbiter a) : GuardKept s { s with arbiter := a } :=
  .of_same rfl rfl rfl rfl rfl h id

theorem askFetch_guardKept (s : State) : GuardKept s s.askFetch :=
  (arbiter_guardKept (a := { s.arbiter with fetchWaiting := true }) (.of_same rfl rfl)).trans (arbitrate_guardKept _)

theorem beginCourse_guardKept (s : State) : GuardKept s s.beginCourse := by
  have started (c : Prop) [Decidable c] (g : Nat) : GuardKept s (if c then s.startSegment g else s) := by
    split
    · exact startSegment_guardKept g s
    · exact .refl s
  unfold State.beginCourse
  dsimp only
  split
  · exact .refl s
  · exact ((started _ _).trans (.update _ _ _ _)).trans (askFetch_guardKept _)

theorem beginBuild_guardKept (s : State) : GuardKept s s.beginBuild := by
  have closed : GuardKept s s.closeIteration := .update s s.tracker _ _
  unfold State.beginBuild
  split
  · exact .refl s
  · split
    · split
      · exact closed
      · exact closed.trans (beginCourse_guardKept _)
    · exact beginCourse_guardKept s

theorem endFetch_guardKept (s : State) : GuardKept s s.endFetch := by
  have ended (u : State) : GuardKept u u.endGrant.arbitrate := (endGrant_guardKept u).trans (arbitrate_guardKept _)
  unfold State.endFetch
  split
  · exact (GuardKept.update s s.tracker s.queue _).trans (ended _)
  · exact ended s

theorem appendBuild_guardKept (b : Build) (s : State) : GuardKept s (s.appendBuild b) :=
  (((GuardKept.update s s.tracker _ _).trans (raiseIf_guardKept _ _ _)).trans (raiseIf_guardKept _ _ _)).trans
    (tryPlacement_guardKept _)

/-! ### The commands' effects -/

theorem restartSchedule_guardKept (s : State) : GuardKept s s.restartSchedule := .update s _ s.queue s.builder

theorem setConstantsEffect_guardKept (k : MachineConstants) (s : State) : GuardKept s (setConstantsEffect k s) := by
  have replaced (c : MachineConstants) (k : Tracker) : GuardKept s { s with constants := c, tracker := k } :=
    .of_same rfl rfl rfl rfl rfl (.refl _) id
  unfold setConstantsEffect
  dsimp only
  repeat' split
  all_goals exact replaced _ _

theorem setSourceEffect_guardKept (x : Nat) (s : State) : GuardKept s (setSourceEffect x s) := by
  have lost (s : State) : GuardKept s s.loseEnabled := by
    have purged : GuardKept s s.purge := (purge_runSide s).guardKept (by simp)
    have barred (u : State) (l : List Bar) : GuardKept u { u with bars := l } := (RunSide.update u u.run l u.lanes).guardKept id
    exact (purged.trans (barred _ _)).trans (raiseIf_guardKept _ _ _)
  unfold setSourceEffect
  split
  · exact .refl s
  · split
    · exact .refl s
    · exact ((GuardKept.update s _ s.queue s.builder).trans (restartSchedule_guardKept _)).trans (lost _)

theorem simGateEffect_guardKept (x : Nat) (s : State) : GuardKept s (simGateEffect x s) := by
  unfold simGateEffect
  split
  · exact .refl s
  · exact (GuardKept.update s _ s.queue s.builder).trans (restartSchedule_guardKept _)

/-- The sequence table of a part that is HALTED. -/
theorem setSequence_guardKept {s : State} (h : s.run.state = .halted) (t : SequenceTable) :
    GuardKept s { s with sequence := t } :=
  ⟨rfl, rfl, .rfl, rfl, rfl, .refl _, fun _ hx => absurd h (mem_liveExtents.mp hx).1⟩

theorem seqWriteEffect_guardKept {e g n f : Nat} {s : State} (h : seqWriteRefusal e g n f s = none) :
    GuardKept s (seqWriteEffect e g n f s) := by
  simp only [seqWriteRefusal, firstRefusal_none, List.forall_mem_cons] at h
  exact setSequence_guardKept (by simpa using h.1) _

theorem seqFormEffect_guardKept {l m : Nat} {s : State} (h : seqFormRefusal l m s = none) :
    GuardKept s (seqFormEffect l m s) := by
  simp only [seqFormRefusal, firstRefusal_none, List.forall_mem_cons] at h
  exact setSequence_guardKept (by simpa using h.1) _

/-- R65: a new repeat count leaves the segments that the article names. -/
theorem seqRepeatEffect_guardKept (e n : Nat) (s : State) : GuardKept s (seqRepeatEffect e n s) := by
  have segments : (s.sequence.entries.set e { s.seqEntry e with repeats := n }).map SeqEntry.segment =
      s.sequence.entries.map SeqEntry.segment := by
    refine List.ext_getElem (by simp) fun i _ hi => ?_
    rw [List.length_map] at hi
    simp only [List.getElem_map, List.getElem_set]
    split
    · next h =>
      subst h
      simp [State.seqEntry, List.getD_eq_getElem?_getD, hi]
    · rfl
  refine ⟨rfl, rfl, .rfl, rfl, rfl, .refl _, live_of_extents id ?_ fun _ _ hx => hx⟩
  simp only [SequenceTable.segments, List.map_take]
  exact congrArg (List.take s.sequence.length) segments

theorem clearRun_guardKept (s : State) : GuardKept s s.clearRun :=
  .of_same rfl rfl rfl rfl rfl (.of_same rfl rfl) fun _ => rfl

/-- R138: a placement begun from FAULTED. -/
theorem resumeEffect_guardKept {s : State} (h : resumeRefusal s = none) : GuardKept s (resumeEffect s) := by
  simp only [resumeRefusal, firstReply_none, List.forall_mem_cons, firstRefusal_none] at h
  obtain ⟨⟨faulted, -⟩, -⟩ := h
  have active : s.run.state ≠ .halted := fun h => by simp [h] at faulted
  have begun : GuardKept s (State.beginPlacement { s with run := { s.run with fault := none } }) :=
    .of_same rfl rfl rfl rfl rfl (.refl _) fun h => absurd h active
  exact begun.trans (tryPlacement_guardKept _)

theorem shaftLatchEffect_guardKept (p : Port) (s : State) : GuardKept s (shaftLatchEffect p s) :=
  .update s _ s.queue s.builder

theorem simSpeedEffect_guardKept (x : Nat) (s : State) : GuardKept s (simSpeedEffect x s) :=
  (GuardKept.update s _ s.queue s.builder).trans (restartSchedule_guardKept _)

theorem setClassEffect_guardKept (c b x : Nat) (s : State) : GuardKept s (setClassEffect c b x s) :=
  .of_same rfl rfl rfl rfl rfl (.refl _) id

theorem clearStopEffect_guardKept (s : State) : GuardKept s (clearStopEffect s) :=
  .of_same rfl rfl rfl rfl rfl (.refl _) id

theorem continueEffect_guardKept (s : State) : GuardKept s (continueEffect s) :=
  watchCeiling_guardKept (.update s s.tracker _ s.builder)

theorem waitForGrant_guardKept (p : Port) (refusal : State → Option Reply) (x : Access) (s : State) :
    GuardKept s (waitForGrant p refusal x s).1 := by
  unfold waitForGrant
  split
  · exact .refl s
  · exact (arbiter_guardKept (setAccess_chunkKept p (some x) s.arbiter)).trans (arbitrate_guardKept _)

theorem endAccess_guardKept (p : Port) (r : Reply) (s : State) : GuardKept s (s.endAccess p r) := by
  have answered : GuardKept s (s.setSlot p (.ready r)) := setPort_guardKept p _ s
  have taken : GuardKept (s.setSlot p (.ready r)) { s.setSlot p (.ready r) with arbiter := s.arbiter.setAccess p none } :=
    arbiter_guardKept (by simpa using setAccess_chunkKept p none s.arbiter)
  exact ((answered.trans taken).trans (endGrant_guardKept _)).trans (arbitrate_guardKept _)

end Sys2Proof.Machine
end

section
/-! O53, O55 and O58: every command and event keeps the cells, or writes them in a grant or a chunk. -/

namespace Sys2Proof.Machine

/-! ### The reset input (R26, R155) -/

/-- R26: the access in its grant is a write inside the memory, or leaves nothing to complete. -/
theorem completeAccess_cases (s : State) : s.completeAccess = s ∨
    ∃ p a cells, a + cells.length ≤ memorySize ∧ s.completeAccess = (s.writeInGrant p a cells).1 := by
  unfold State.completeAccess
  split
  · split
    · split
      · next p _ _ a cells _ inside => exact .inr ⟨p, a, cells, inside, rfl⟩
      · exact .inl rfl
    · exact .inl rfl
  · exact .inl rfl

theorem completeAccess_engineLaw {s : State} (law : s.EngineLaw) : s.completeAccess.EngineLaw := by
  rcases completeAccess_cases s with e | ⟨p, a, cells, -, e⟩ <;> rw [e]
  · exact law
  · exact writeInGrant_engineLaw law

theorem onReset_engineLaw {s : State} (law : s.EngineLaw) : s.onReset.EngineLaw := by
  have arbiter : ChunkKept s.arbiter s.arbiter.onReset := by
    refine ⟨fun h => ?_, fun _ _ => rfl⟩
    by_cases hg : s.arbiter.grant = some .engine
    · exact .inr hg
    · simp [Arbiter.onReset, hg] at h
  have same (e : Engine) (he : s.onReset.engine = e) (state : e.state = s.engine.state) (op : e.op = s.engine.op)
      (extents : e.extents = s.engine.extents) : s.onReset.EngineLaw := by
    subst he
    exact law.of_reads (by rw [state]) op extents arbiter fun x hx => absurd rfl (mem_liveExtents.mp hx).1
  have engine : s.onReset.engine = s.engine.onReset (s.arbiter.grant == some .engine) := rfl
  rw [Engine.onReset_eq] at engine
  split at engine
  · exact same _ engine rfl rfl rfl
  · split at engine
    · exact same _ engine rfl rfl rfl
    · next none =>
      have grant : s.arbiter.grant ≠ some .engine := by simpa using none
      refine engineLaw_of_idle (by rw [engine]; rfl) rfl ?_ fun op h => by rw [engine] at h; cases h
      simp [State.onReset, Arbiter.onReset, grant]

/-! ### The grants -/

theorem chunk_cases {s t : State} (h : exec .chunk s = .next t) : t = s ∨
    ∃ op, s.arbiter.grant = some .engine ∧ s.engine.op = some op ∧ s.chunkEnd op ≤ memorySize ∧ t = s.runChunk op := by
  change execChunk s = .next t at h
  unfold execChunk at h
  split at h
  · next op grant hop =>
    split at h
    · cases h
    · next inside =>
      cases h
      exact .inr ⟨op, grant, hop, Nat.le_of_not_lt inside, rfl⟩
  · cases h
    exact .inl rfl

theorem writeCellsGrant_cases {p : Port} {s t : State} (h : exec (.writeCellsGrant p) s = .next t) : t = s ∨
    ∃ a cells r, a + cells.length ≤ memorySize ∧ t = (s.writeInGrant p a cells).1.endAccess p r := by
  change execWriteCellsGrant p s = .next t at h
  unfold execWriteCellsGrant at h
  split at h
  · split at h
    · next a cells _ =>
      split at h
      · cases h
      · next inside =>
        cases h
        exact .inr ⟨a, cells, _, Nat.le_of_not_lt inside, rfl⟩
    · cases h
      exact .inl rfl
  · cases h
    exact .inl rfl

theorem builderFetch_cases {s t : State} (h : exec .builderFetch s = .next t) : t = s ∨ t = s.endFetch := by
  change execBuilderFetch s = .next t at h
  unfold execBuilderFetch at h
  split at h
  · split at h
    · split at h
      · cases h
      · cases h
        exact .inr rfl
    · cases h
      exact .inr rfl
  · cases h
    exact .inl rfl

theorem readCellsGrant_cases {p : Port} {s t : State} (h : exec (.readCellsGrant p) s = .next t) : t = s ∨
    ∃ r, t = s.endAccess p r := by
  change execReadCellsGrant p s = .next t at h
  unfold execReadCellsGrant at h
  split at h
  · split at h
    · split at h
      · cases h
      · cases h
        exact .inr ⟨_, rfl⟩
    · cases h
      exact .inl rfl
  · cases h
    exact .inl rfl

/-! ### Every command and event -/

/-- The rows that write cells or give them their power-up values. -/
def writesCells : Instr → Bool
  | .powerUp => true
  | .resetInput => true
  | .chunk => true
  | .writeCellsGrant _ => true
  | _ => false

theorem opFillEffect_storeKept {p : Port} {n : Nat} {v : Cell} {s : State} (h : opFillRefusal p n s = none) :
    StoreKept s (opFillEffect p n v s) :=
  .of_engine (startOp_memory _ _ _ _ _) (startOp_regions _ _ _ _ _) (opFillEffect_engineLaw h)

theorem opCopyEffect_storeKept {p : Port} {src dst n : Nat} {s : State} (h : opCopyRefusal p src dst n s = none) :
    StoreKept s (opCopyEffect p src dst n s) :=
  .of_engine (startOp_memory _ _ _ _ _) (startOp_regions _ _ _ _ _) (opCopyEffect_engineLaw h)

theorem opCheckEffect_storeKept (p : Port) (g w : Nat) (s : State) : StoreKept s (opCheckEffect p g w s) := by
  obtain ⟨memory, regions⟩ := opCheckEffect_store p g w s
  exact .of_engine memory regions opCheckEffect_engineLaw

theorem opResumeEffect_storeKept (s : State) : StoreKept s (opResumeEffect s) := by
  obtain ⟨memory, regions⟩ := opResumeEffect_store s
  exact .of_engine memory regions opResumeEffect_engineLaw

theorem opAbortEffect_storeKept (s : State) : StoreKept s (opAbortEffect s) := by
  obtain ⟨memory, regions⟩ := opAbortEffect_store s
  exact .of_engine memory regions opAbortEffect_engineLaw

theorem armEffect_storeKept {e r c : Nat} {s : State} (h : armRefusal e r c s = none) : StoreKept s (armEffect e r c s) :=
  .of_engine (tryPlacement_runSide _).memory (tryPlacement_runSide _).regions
    (armEffect_engineLaw (armRefusal_none_free h))

theorem mapEffect_storeKept {g base courses bars : Nat} {expected : Check} {s : State}
    (h : mapRefusal g base courses bars s = none) :
    StoreKept s (mapEffect g (newMapping base courses bars expected) s) := by
  refine .of_engine ?_ ?_ (mapEffect_engineLaw h)
  all_goals
    unfold mapEffect
    split <;> rfl

theorem take_guardKept {body : Body} (h : ∀ u, GuardKept u (body u).1) (p : Port) (f : List Byte) (first : Option Status)
    (s : State) : StoreKept s (s.take p f first body) := (guardKept_blind.take h p f first s).storeKept

/-- A judged command whose effect leaves the guard alone. -/
theorem command_guardKept {refusal : State → Option Reply} {effect : State → State} {data : State → List Byte}
    (h : ∀ u, refusal u = none → GuardKept u (effect u)) (p : Port) (onlyM : Bool) (i : Instr) (s : State) :
    StoreKept s (s.command p onlyM i (judged refusal effect data)) := (guardKept_blind.command h p onlyM i s).storeKept

/-- A command that reads alone. -/
theorem reading_storeKept {refusal : State → Option Reply} {data : State → List Byte} (p : Port) (onlyM : Bool)
    (i : Instr) (s : State) : StoreKept s (s.command p onlyM i (judged refusal id data)) :=
  command_guardKept (fun u _ => .refl u) p onlyM i s

theorem elapse_storeKept (t : Nat) (s : State) : StoreKept s (s.elapse t) :=
  GuardKept.storeKept (.of_same rfl rfl rfl rfl rfl (.refl _) id)

theorem unlessHeld_storeKept {f : State → State} (h : ∀ u, GuardKept u (f u)) (s : State) :
    StoreKept s (s.unlessHeld f) := by
  unfold State.unlessHeld
  split
  · exact .refl s
  · exact (h s).storeKept

/-- An event at a time: the timebase reaches it, and while the reset input is held nothing follows. -/
theorem timed_storeKept {f : State → State} (h : ∀ u, GuardKept u (f u)) (t : Nat) (s : State) :
    StoreKept s ((s.elapse t).unlessHeld f) := (elapse_storeKept t s).trans (unlessHeld_storeKept h _)

theorem exec_storeKept {c : Instr} {s t : State} (hc : writesCells c = false) (h : exec c s = .next t) : StoreKept s t := by
  have next {u : State} (e : exec c s = .next u) (k : StoreKept s u) : StoreKept s t :=
    Host.Outcome.next.inj (e.symm.trans h) ▸ k
  cases c with
  | powerUp | resetInput | chunk | writeCellsGrant => cases hc
  | encoderCount e time =>
    refine next rfl (timed_storeKept (fun u => ?_) time s)
    split
    · cases e with
      | forward | reverse => exact takeCount_guardKept _ _ u
      | together => exact .refl u
    · exact .refl u
  | encoderIndex =>
    refine next rfl (unlessHeld_storeKept (fun u => ?_) s)
    split
    · exact takeIndex_guardKept u
    · exact .refl u
  | simulatedCount time =>
    refine next rfl (timed_storeKept (fun u => ?_) time s)
    split
    · split
      · exact simulate_guardKept _ u
      · exact .refl u
    · exact .refl u
  | stillTimerExpiry time =>
    refine next rfl (timed_storeKept (fun u => ?_) time s)
    split
    · split
      · exact .update u _ u.queue u.builder
      · exact .refl u
    · exact .refl u
  | buildBegin =>
    refine next rfl (unlessHeld_storeKept (fun u => ?_) s)
    split
    · exact watchCeiling_guardKept (beginBuild_guardKept u)
    · exact .refl u
  | builderFetch =>
    rcases builderFetch_cases h with rfl | rfl
    · exact .refl t
    · exact (endFetch_guardKept s).storeKept
  | append =>
    refine next rfl (unlessHeld_storeKept (fun u => ?_) s)
    split
    · exact watchCeiling_guardKept (appendBuild_guardKept _ u)
    · exact .refl u
  | orderFrameSent lane time => exact next rfl (timed_storeKept (frameSent_guardKept lane) time s)
  | taken lane address time => exact next rfl (timed_storeKept (driveReply_guardKept lane address _) time s)
  | inPosition lane address position =>
    refine next rfl ?_
    split
    · exact unlessHeld_storeKept (driveReply_guardKept lane address _) s
    · exact .refl s
  | fault lane address code =>
    refine next rfl ?_
    split
    · exact .refl s
    · exact unlessHeld_storeKept (driveReply_guardKept lane address _) s
  | replyFrameIgnored lane frame time =>
    refine next rfl ?_
    split
    · exact .refl s
    · exact timed_storeKept (driveReply_guardKept lane _ _) time s
  | takeLimitExpiry bar time => exact next rfl (timed_storeKept (takeLimitReached_guardKept bar) time s)
  | moveLimitExpiry bar time => exact next rfl (timed_storeKept (moveLimitReached_guardKept bar) time s)
  | readCellsGrant port =>
    rcases readCellsGrant_cases h with rfl | ⟨r, rfl⟩
    · exact .refl t
    · exact (endAccess_guardKept port r s).storeKept
  | transactionBegin port =>
    refine next rfl ?_
    split
    · exact storeKept_blind.setPort port _ s
    · split
      · exact storeKept_blind.setPort port _ s
      · exact .refl s
  | transactionEnd port bits => exact next rfl (storeKept_blind.setPort port _ s)
  | replyRead port =>
    refine next rfl ?_
    split
    · exact storeKept_blind.setPort port _ s
    · exact .refl s
  | unknownCommand port code => exact next rfl (take_guardKept .refl port _ _ s)
  | status port => exact next rfl (take_guardKept (fun u => .refl u) port _ _ s)
  | eventsClear port mask | eventsEnable port mask =>
    exact next rfl (command_guardKept (fun u _ => setPort_guardKept port _ u) port _ _ s)
  | shaftLatch port => exact next rfl (command_guardKept (fun u _ => shaftLatchEffect_guardKept port u) port _ _ s)
  | setConstants port k time =>
    exact next rfl ((elapse_storeKept time s).trans (command_guardKept (fun u _ => setConstantsEffect_guardKept k u) port _ _ _))
  | setSource port source time =>
    exact next rfl ((elapse_storeKept time s).trans
      (command_guardKept (fun u _ => setSourceEffect_guardKept source u) port _ _ _))
  | simSpeed port rate time =>
    exact next rfl ((elapse_storeKept time s).trans (command_guardKept (fun u _ => simSpeedEffect_guardKept rate u) port _ _ _))
  | simGate port gate time =>
    exact next rfl ((elapse_storeKept time s).trans
      (command_guardKept (fun u _ => simGateEffect_guardKept gate u) port _ _ _))
  | readCells port | writeCells port => exact next rfl (take_guardKept (waitForGrant_guardKept port _ _) port _ _ s)
  | regionSet port => exact next rfl (storeKept_blind.command
      (fun _ h => .of_regions (regionSetEffect_regionsKept h)) port _ _ s)
  | regionClear port => exact next rfl (storeKept_blind.command
      (fun _ h => .of_regions (regionClearEffect_regionsKept h)) port _ _ s)
  | lock port => exact next rfl (storeKept_blind.command (fun _ h => .of_regions (lockEffect_regionsKept h)) port _ _ s)
  | unlock port => exact next rfl (storeKept_blind.command
      (fun _ h => .of_regions (unlockEffect_regionsKept h)) port _ _ s)
  | lockDown port => exact next rfl (storeKept_blind.command
      (fun _ h => .of_regions (lockDownEffect_regionsKept h)) port _ _ s)
  | map port => exact next rfl (storeKept_blind.command (fun _ => mapEffect_storeKept) port _ _ s)
  | mapCancel port segment => exact next rfl (command_guardKept (fun u _ => mapCancelEffect_guardKept segment u) port _ _ s)
  | mapClear port segment => exact next rfl (command_guardKept (fun u _ => mapClearEffect_guardKept segment u) port _ _ s)
  | seqWrite port => exact next rfl (command_guardKept (fun _ => seqWriteEffect_guardKept) port _ _ s)
  | seqForm port => exact next rfl (command_guardKept (fun _ => seqFormEffect_guardKept) port _ _ s)
  | seqRepeat port entry n => exact next rfl (command_guardKept (fun u _ => seqRepeatEffect_guardKept entry n u) port _ _ s)
  | setClass port => exact next rfl (command_guardKept (fun u _ => setClassEffect_guardKept _ _ _ u) port _ _ s)
  | setBar port => exact next rfl (command_guardKept (fun u _ => (setBar_runSide _ _ u).guardKept id) port _ _ s)
  | home port bar => exact next rfl (command_guardKept (fun u _ => homeEffect_guardKept bar u) port _ _ s)
  | placeBar port bar position =>
    exact next rfl (command_guardKept (fun u _ => (orderTo_runSide bar position none u).guardKept (by simp)) port _ _ s)
  | arm port => exact next rfl (storeKept_blind.command (fun _ => armEffect_storeKept) port _ _ s)
  | disarm port => exact next rfl (command_guardKept (fun u _ => clearRun_guardKept u) port _ _ s)
  | resume port => exact next rfl (command_guardKept (fun _ => resumeEffect_guardKept) port _ _ s)
  | restart port =>
    exact next rfl (command_guardKept (fun u _ => ((purge_runSide u).guardKept (by simp)).trans (clearRun_guardKept _))
      port _ _ s)
  | clearStop port => exact next rfl (command_guardKept (fun u _ => clearStopEffect_guardKept u) port _ _ s)
  | continueRun port => exact next rfl (command_guardKept (fun u _ => continueEffect_guardKept u) port _ _ s)
  | opFill port => exact next rfl (storeKept_blind.command (fun _ => opFillEffect_storeKept) port _ _ s)
  | opCopy port => exact next rfl (storeKept_blind.command (fun _ => opCopyEffect_storeKept) port _ _ s)
  | opCheck port g w => exact next rfl (storeKept_blind.command (fun u _ => opCheckEffect_storeKept port g w u) port _ _ s)
  | opSuspend port => exact next rfl (command_guardKept (fun u _ => opSuspendEffect_guardKept u) port _ _ s)
  | opResume port => exact next rfl (storeKept_blind.command (fun u _ => opResumeEffect_storeKept u) port _ _ s)
  | opAbort port => exact next rfl (storeKept_blind.command (fun u _ => opAbortEffect_storeKept u) port _ _ s)
  | resetRelease => exact next rfl (GuardKept.storeKept (.of_same rfl rfl rfl rfl rfl (.refl _) id))
  | eventsRead port | shaftRead port | getConstants port | regionGet port | mapGet port | seqGet port | getBar port
  | queueRead port | opStatus port => exact next rfl (reading_storeKept port _ _ s)

/-! ### The steps that write cells -/

@[simp] theorem endAccess_memory (p : Port) (r : Reply) (s : State) : (s.endAccess p r).memory = s.memory :=
  (endAccess_guardKept p r s).memory

/-- R19: every command and event keeps pattern memory canonical and inside its cells. -/
theorem exec_memoryWf {c : Instr} {s t : State} (wf : MemoryWf s.memory) (h : exec c s = .next t) :
    MemoryWf t.memory := by
  by_cases hc : writesCells c = false
  · rwa [(exec_storeKept hc h).memory]
  cases c with
  | powerUp =>
    cases h
    exact ⟨.nil, fun _ h => by cases h⟩
  | resetInput =>
    cases h
    change MemoryWf s.completeAccess.memory
    rcases completeAccess_cases s with e | ⟨p, a, cells, inside, e⟩ <;> rw [e]
    · exact wf
    · exact writeInGrant_memoryWf wf inside
  | chunk =>
    rcases chunk_cases h with rfl | ⟨op, -, -, inside, rfl⟩
    · exact wf
    · rw [runChunk_eq]
      exact doCells_memoryWf wf inside
  | writeCellsGrant p =>
    rcases writeCellsGrant_cases h with rfl | ⟨a, cells, r, inside, rfl⟩
    · exact wf
    · rw [endAccess_memory]
      exact writeInGrant_memoryWf wf inside
  | _ => exact absurd rfl hc

/-- R27, R28, R34: every command and event but POWER_UP keeps the region table's laws. -/
theorem exec_regionsKept {c : Instr} {s t : State} (power : c ≠ .powerUp) (h : exec c s = .next t) : RegionsKept s t := by
  by_cases hc : writesCells c = false
  · exact (exec_storeKept hc h).regions
  cases c with
  | powerUp => contradiction
  | resetInput =>
    cases h
    refine .of_same (s := s) (t := s.completeAccess.onReset) ?_
    change s.completeAccess.regions = _
    rcases completeAccess_cases s with e | ⟨p, a, cells, -, e⟩ <;> rw [e]
    exact writeInGrant_regions p a cells s
  | chunk =>
    rcases chunk_cases h with rfl | ⟨op, -, -, -, rfl⟩
    · exact .of_same rfl
    · exact .of_same (by rw [runChunk_eq])
  | writeCellsGrant p =>
    rcases writeCellsGrant_cases h with rfl | ⟨a, cells, r, -, rfl⟩
    · exact .of_same rfl
    · exact .of_same ((endAccess_guardKept p r _).regions.trans (writeInGrant_regions p a cells s))
  | _ => exact absurd rfl hc

/-- R36: every command and event keeps the law of the engine, and but for POWER_UP changes no cell of a live extent. -/
theorem exec_guards {c : Instr} {s t : State} (law : s.EngineLaw) (h : exec c s = .next t) :
    t.EngineLaw ∧ (c ≠ .powerUp → ∀ a, ∀ x ∈ s.liveExtents, x.holds a = true →
      readCell t.memory a = readCell s.memory a) := by
  by_cases hc : writesCells c = false
  · have kept := exec_storeKept hc h
    exact ⟨kept.engine law, fun _ _ _ _ _ => by rw [kept.memory]⟩
  cases c with
  | powerUp =>
    cases h
    exact ⟨reset_engineLaw, fun h => absurd rfl h⟩
  | resetInput =>
    cases h
    refine ⟨onReset_engineLaw (completeAccess_engineLaw law), fun _ a x hx ha => ?_⟩
    change readCell s.completeAccess.memory a = _
    rcases completeAccess_cases s with e | ⟨p, b, cells, -, e⟩ <;> rw [e]
    exact writeInGrant_live hx ha
  | chunk =>
    rcases chunk_cases h with rfl | ⟨op, grant, hop, -, rfl⟩
    · exact ⟨law, fun _ _ _ _ _ => rfl⟩
    · refine ⟨runChunk_engineLaw hop grant law, fun _ a x hx ha => ?_⟩
      rw [runChunk_eq]
      exact doCells_live law grant hop hx ha
  | writeCellsGrant p =>
    rcases writeCellsGrant_cases h with rfl | ⟨b, cells, r, -, rfl⟩
    · exact ⟨law, fun _ _ _ _ _ => rfl⟩
    · refine ⟨(endAccess_guardKept p r _).engineLaw (writeInGrant_engineLaw law), fun _ a x hx ha => ?_⟩
      rw [endAccess_memory]
      exact writeInGrant_live hx ha
  | _ => exact absurd rfl hc

/-- A step is a tick, or runs the command at the front of the queue with the rest waiting. -/
theorem step_cases {s t : State} (h : step s = .next t) : t = s.tick ∨
    ∃ c rest, s.pending = c :: rest ∧ exec c { s with pending := rest } = .next t := by
  unfold step at h
  split at h
  · cases h
    exact .inl rfl
  · next c rest hp => exact .inr ⟨c, rest, hp, h⟩

/-- Settles O53: a tick writes no cell, and every command and event keeps the canonical form. -/
theorem stepsKeepTheMemoryCanonical : Obligations.StepsKeepTheMemoryCanonical := by
  intro s t wf h
  rcases step_cases h with rfl | ⟨c, rest, -, h⟩
  · exact wf
  · exact exec_memoryWf (s := { s with pending := rest }) wf h

/-- Settles O55: the commands of the region table keep its laws, and nothing else but POWER_UP touches it. -/
theorem stepsKeepTheRegionLaws : Obligations.StepsKeepTheRegionLaws := by
  intro s t h
  have kept (k : RegionsKept s t) : (s.RegionLaw → t.RegionLaw) ∧ (s.LockLaw → t.LockLaw) ∧
      (s.LockLaw → ∀ n, (s.region n).lockDown = true → (∀ rest, s.pending ≠ .powerUp :: rest) →
        t.region n = s.region n) := ⟨k.apart, k.locks, fun law n hn _ => k.down law n hn⟩
  rcases step_cases h with rfl | ⟨c, rest, hp, h⟩
  · exact kept (.of_same rfl)
  · by_cases power : c = .powerUp
    · subst power
      cases h
      have none (n : Nat) : (State.region { State.reset with pending := rest } n) = Region.initial := reset_region n
      exact ⟨fun _ i j _ _ _ hi => by simp [none, Region.initial] at hi,
        fun _ n hn => by simp [none, Region.initial] at hn, fun _ n _ away => absurd hp (away rest)⟩
    · have popped : RegionsKept s { s with pending := rest } := .of_same rfl
      exact kept (popped.trans (exec_regionsKept power h))

/-- Settles O58: writes and chunks spare the live extents, and the law that guards them is kept by every step. -/
theorem stepsGuardTheLiveExtents : Obligations.StepsGuardTheLiveExtents := by
  intro s t law h
  rcases step_cases h with rfl | ⟨c, rest, hp, h⟩
  · exact ⟨law, fun _ _ _ _ _ => rfl⟩
  · obtain ⟨kept, spared⟩ := exec_guards (s := { s with pending := rest }) law h
    exact ⟨kept, fun away => spared fun power => away rest (power ▸ hp)⟩

end Sys2Proof.Machine
end

section
/-! The arbiter, and what a port's cell commands and their grants answer (R21 to R25). -/

namespace Sys2Proof.Machine

/-! ### The order of grants (R25) -/

@[simp] theorem Arbiter.next_access (a : Arbiter) (p : Port) : a.next.access p = a.access p := by
  unfold Arbiter.next
  repeat' split
  all_goals cases p <;> rfl

@[simp] theorem Arbiter.access_setAccess (a : Arbiter) (p : Port) (x : Option Access) : (a.setAccess p x).access p = x := by
  cases p <;> rfl

@[simp] theorem Arbiter.access_setAccess_other (a : Arbiter) (p : Port) (x : Option Access) :
    (a.setAccess p x).access (otherPort p) = a.access (otherPort p) := by cases p <;> rfl

@[simp] theorem Arbiter.setAccess_grant (a : Arbiter) (p : Port) (x : Option Access) :
    (a.setAccess p x).grant = a.grant := by cases p <;> rfl

@[simp] theorem Arbiter.setAccess_fetchWaiting (a : Arbiter) (p : Port) (x : Option Access) :
    (a.setAccess p x).fetchWaiting = a.fetchWaiting := by cases p <;> rfl

@[simp] theorem Arbiter.setAccess_lastPort (a : Arbiter) (p : Port) (x : Option Access) :
    (a.setAccess p x).lastPort = a.lastPort := by cases p <;> rfl

/-- While a grant is in progress no other begins. -/
theorem Arbiter.next_granted {a : Arbiter} (h : a.grant.isSome = true) : a.next = a := if_pos h

/-- With no grant in progress a port waits exactly while it has an access. -/
theorem Arbiter.waits_free {a : Arbiter} (h : a.grant = none) (p : Port) : a.waits p = (a.access p).isSome := by
  simp [Arbiter.waits, h]

/-- The order of grants with no grant in progress. -/
theorem Arbiter.next_free {a : Arbiter} (h : a.grant = none) : a.next =
    if a.fetchWaiting then { a with grant := some .builder, fetchWaiting := false }
    else if (a.access (otherPort a.lastPort)).isSome then
      { a with grant := some (.port (otherPort a.lastPort)), lastPort := otherPort a.lastPort }
    else if (a.access a.lastPort).isSome then { a with grant := some (.port a.lastPort) }
    else if a.chunkWaiting then { a with grant := some .engine, chunkWaiting := false }
    else a := by
  unfold Arbiter.next
  rw [h, Arbiter.waits_free h, Arbiter.waits_free h]
  rfl

/-- The one port that waits is granted, whichever was granted last. -/
theorem Arbiter.next_onePort {a : Arbiter} (h : a.grant = none) (fetch : a.fetchWaiting = false) {p : Port}
    (waits : (a.access p).isSome = true) (other : a.access (otherPort p) = none) :
    a.next.grant = some (.port p) ∧ a.next.lastPort = p := by
  rw [Arbiter.next_free h]
  rcases port_cases p a.lastPort with last | last
  · simp [fetch, last, other, waits]
  · simp [fetch, last, waits]

/-- A port without an access is not granted. -/
theorem Arbiter.next_ne_port {a : Arbiter} (h : a.grant = none) {p : Port} (none : a.access p = none) :
    a.next.grant ≠ some (.port p) := by
  rw [Arbiter.next_free h]
  have ne {q : Port} (hq : (a.access q).isSome = true) : q ≠ p := fun e => by simp [e, none] at hq
  split
  · simp
  · split
    · next waits => simpa using ne waits
    · split
      · next waits => simpa using ne waits
      · split <;> simp [h]

/-- Settles O20: the cases of the order of grants, one by one. -/
theorem grantsFollowTheirOrder : Obligations.GrantsFollowTheirOrder := by
  intro a h
  refine ⟨fun fetch => ?_, fun fetch m d => ?_, fun p fetch waits other => Arbiter.next_onePort h fetch waits other,
    fun fetch m d => ?_⟩
  · rw [Arbiter.next_free h]
    simp [fetch]
  · have both (p : Port) : (a.access p).isSome = true := by
      cases p with
      | m => exact m
      | d => exact d
    rw [Arbiter.next_free h]
    simp [fetch, both]
  · have neither (p : Port) : a.access p = none := by
      cases p with
      | m => exact m
      | d => exact d
    rw [Arbiter.next_free h]
    cases hc : a.chunkWaiting <;> simp [fetch, neither, h]

/-! ### Cell commands as they are taken (R21, R22, R158) -/

/-- What an accepted command that any port may give does: its body runs on the received state. -/
theorem command_body {p : Port} {i : Instr} {body : Body} {s : State} (h : s.accepts p) :
    s.command p false i body =
      (body (s.receive p (commandFrame i))).1.setSlot p (body (s.receive p (commandFrame i))).2 := by
  obtain ⟨⟨hl, hs⟩, hf⟩ := h
  simp [State.command, State.take, State.firstTests, hl, hs, hf]

theorem cellRangeRefusal_some {a n : Nat} (s : State) (h : n < 1 ∨ 128 < n ∨ 1048575 < a ∨ 1048576 < a + n) :
    cellRangeRefusal a n s = some (refuse .badValue) := by
  unfold cellRangeRefusal firstRefusal
  rw [if_pos (by simpa [or_assoc] using h)]

theorem cellRangeRefusal_none {a n : Nat} (s : State) (low : 1 ≤ n) (high : n ≤ 128) (inside : a + n ≤ 1048576) :
    cellRangeRefusal a n s = none := by
  simp only [cellRangeRefusal, firstRefusal_none, List.forall_mem_cons]
  refine ⟨?_, by simp⟩
  simp
  omega

/-- A cell command out of range is answered BAD_VALUE. -/
theorem waitForGrant_refuses {p : Port} {i : Instr} {refusal : State → Option Reply} {x : Access} {s : State}
    {status : Status} (h : s.accepts p) (hr : refusal (s.receive p (commandFrame i)) = some (refuse status)) :
    Refuses p status s (s.command p false i (waitForGrant p refusal x)) := by
  rw [command_body h, waitForGrant, hr]
  exact answers_received (State.receive_eq p _ s) rfl

/-- A cell command in range asks for its access, and its slot is PENDING. -/
theorem waitForGrant_waits {p : Port} {i : Instr} {refusal : State → Option Reply} {x : Access} {s : State}
    (h : s.accepts p) (hr : refusal (s.receive p (commandFrame i)) = none) :
    s.command p false i (waitForGrant p refusal x) =
      ((s.receive p (commandFrame i)).askAccess p x).setSlot p .pending := by
  rw [command_body h, waitForGrant, hr]

theorem carriedCells_self {n : Nat} {cells : List Cell} (h : cells.length = n) : carriedCells n cells = cells := by
  subst h
  refine List.ext_getElem (by simp [carriedCells]) fun i _ hi => ?_
  simp [carriedCells, List.getD_eq_getElem?_getD, hi]

/-- The access that a received cell command asks for, and what its port and the arbiter hold. -/
theorem askAccess_waits (p : Port) (f : List Byte) (x : Access) (s : State) :
    let t := ((s.receive p f).askAccess p x).setSlot p .pending
    t = { s with arbiter := t.arbiter, portM := t.portM, portD := t.portD } ∧ KeepsCells s t ∧
      t.port (otherPort p) = s.port (otherPort p) ∧ (t.port p).slot = .pending ∧ (t.port p).discard = false ∧
      (t.port p).events = (s.port p).events ∧ (t.port p).mask = (s.port p).mask ∧
      t.arbiter = (s.arbiter.setAccess p (some x)).next := by
  cases p <;> exact ⟨rfl, fun _ => rfl, rfl, rfl, rfl, rfl, rfl, rfl⟩

/-- Settles O19: out of range the command is refused; in range its access waits, granted at once when the arbiter is
free. -/
theorem cellCommandsWaitForTheirGrant : Obligations.CellCommandsWaitForTheirGrant := by
  intro p a n cells s h
  refine ⟨fun range => ⟨⟨_, rfl, waitForGrant_refuses h (cellRangeRefusal_some _ range)⟩,
    ⟨_, rfl, waitForGrant_refuses h (cellRangeRefusal_some _ range)⟩⟩, fun length low high inside c x hc => ?_⟩
  have taken : ∃ f, exec c s = .next (((s.receive p f).askAccess p x).setSlot p .pending) := by
    rcases hc with ⟨rfl, rfl⟩ | ⟨rfl, rfl⟩
    · exact ⟨_, congrArg _ (waitForGrant_waits h (cellRangeRefusal_none _ low high inside))⟩
    · refine ⟨commandFrame (.writeCells p a n cells), ?_⟩
      change Host.Outcome.next (s.command p false (.writeCells p a n cells)
        (waitForGrant p (cellRangeRefusal a n) (.write a (carriedCells n cells)))) = _
      rw [carriedCells_self length, waitForGrant_waits h (cellRangeRefusal_none _ low high inside)]
  obtain ⟨f, exec⟩ := taken
  obtain ⟨only, cells, other, slot, discard, events, mask, arbiter⟩ := askAccess_waits p f x s
  refine ⟨_, exec, only, cells, other, slot, discard, events, mask, ?_, ?_, fun granted => ?_, fun free fetch alone => ?_⟩
  · rw [arbiter, Arbiter.next_access, Arbiter.access_setAccess]
  · rw [arbiter, Arbiter.next_access, Arbiter.access_setAccess_other]
  · rw [arbiter, Arbiter.next_granted (by simpa using granted)]
    exact ⟨Arbiter.setAccess_grant .., Arbiter.setAccess_lastPort ..⟩
  · rw [arbiter]
    exact Arbiter.next_onePort (by simpa using free) (by simpa using fetch) (by simp) (by simpa using alone)

/-! ### The grants of the cell commands (R21, R22, R23) -/

/-- An access that is done: its port's slot holds the reply, and the arbiter gives the next grant. -/
theorem endAccess_reads (p : Port) (r : Reply) (s : State) :
    s.endAccess p r = { s with
      arbiter := (s.endAccess p r).arbiter, portM := (s.endAccess p r).portM, portD := (s.endAccess p r).portD } ∧
    (s.endAccess p r).arbiter = ({ s.arbiter.setAccess p none with grant := none } : Arbiter).next ∧
    (s.endAccess p r).port p = { s.port p with slot := .ready r } ∧
    (s.endAccess p r).port (otherPort p) = s.port (otherPort p) := by
  cases p <;> exact ⟨rfl, rfl, rfl, rfl⟩

/-- The port whose access is done has none, and is not granted again. -/
theorem endAccess_released (p : Port) (r : Reply) (s : State) :
    (s.endAccess p r).arbiter.access p = none ∧ (s.endAccess p r).arbiter.grant ≠ some (.port p) := by
  obtain ⟨-, arbiter, -⟩ := endAccess_reads p r s
  have none : ({ s.arbiter.setAccess p none with grant := none } : Arbiter).access p = none := by cases p <;> rfl
  rw [arbiter, Arbiter.next_access]
  exact ⟨none, Arbiter.next_ne_port rfl none⟩

/-- A cell reads back from its two bytes. -/
theorem cellBytes_getD (cells : List Cell) {i : Nat} (h : i < cells.length) :
    fieldValue [(cellBytes cells).getD (2 * i) 0, (cellBytes cells).getD (2 * i + 1) 0] = (cells.getD i 0).toNat := by
  induction cells generalizing i with
  | nil => cases h
  | cons c rest ih =>
    cases i with
    | zero => exact fieldValue_field2 c.isLt
    | succ i => exact ih (Nat.lt_of_succ_lt_succ h)

@[simp] theorem readCells_length (mem : List (Nat × Cell)) (a n : Nat) : (readCells mem a n).length = n := by
  simp [readCells]

theorem readCells_getD (mem : List (Nat × Cell)) (a : Nat) {n i : Nat} (h : i < n) (x : Cell) :
    (readCells mem a n).getD i x = readCell mem (a + i) := by
  simp [readCells, List.getD_eq_getElem?_getD, h]

/-- Settles O21: the grant reads the range into the reply, and the arbiter gives the next grant. -/
theorem readGrantReturnsTheCells : Obligations.ReadGrantReturnsTheCells := by
  intro p a n s grant access inside
  have exec : exec (.readCellsGrant p) s =
      .next (s.endAccess p { status := .ok, data := cellBytes (readCells s.memory a n) }) := by
    change execReadCellsGrant p s = _
    simp [execReadCellsGrant, grant, access, Nat.not_lt.mpr inside]
  obtain ⟨only, arbiter, port, other⟩ := endAccess_reads p { status := .ok, data := cellBytes (readCells s.memory a n) } s
  obtain ⟨free, passed⟩ := endAccess_released p { status := .ok, data := cellBytes (readCells s.memory a n) } s
  refine ⟨_, _, exec, only, fun b => ?_, free, passed, arbiter, port, other, by simp, fun i hi => ?_⟩
  · rw [endAccess_memory]
  · rw [cellBytes_getD _ (by simpa using hi), readCells_getD _ _ hi]

/-- Settles O22: the write is judged and lands whole or not at all, and the arbiter gives the next grant. -/
theorem writeGrantLandsWholeOrNotAtAll : Obligations.WriteGrantLandsWholeOrNotAtAll := by
  intro p a cells s wf grant access _ inside
  have outcome := writeOutcome_writeInGrant (p := p) wf inside
  have exec : exec (.writeCellsGrant p) s =
      .next ((s.writeInGrant p a cells).1.endAccess p (refuse (s.writeInGrant p a cells).2)) := by
    change execWriteCellsGrant p s = _
    simp [execWriteCellsGrant, grant, access, Nat.not_lt.mpr inside]
  obtain ⟨u, status, hw⟩ : ∃ u status, s.writeInGrant p a cells = (u, status) := ⟨_, _, rfl⟩
  have written : u = { s with memory := u.memory, segments := u.segments } := by
    have : u = (s.writeInGrant p a cells).1 := by rw [hw]
    rw [this]
    unfold State.writeInGrant
    split <;> rfl
  rw [hw] at exec outcome
  obtain ⟨only, arbiter, port, other⟩ := endAccess_reads p (refuse status) u
  obtain ⟨free, passed⟩ := endAccess_released p (refuse status) u
  have ports (q : Port) : u.port q = s.port q := by rw [written]; cases q <;> rfl
  refine ⟨_, status, exec, ?_, free, passed, ?_, ?_, ?_, ?_⟩
  · rw [only, written]
  · rw [arbiter, written]
  · rw [port, ports]
    rfl
  · rw [other, ports]
  · rw [only]
    exact outcome

end Sys2Proof.Machine
end

section
/-! What the commands of the region table and the reads of the tables answer, and the refusals of the start-up fill. -/

namespace Sys2Proof.Machine

/-! ### The start-up fill (R38, R159) -/

/-- While the fill runs the first test of a command refuses. -/
theorem command_starting {p : Port} {onlyM : Bool} {c : Instr} {body : Body} {s : State} (h : s.takes p)
    (filling : s.filling = true) : Refuses p .starting s (s.command p onlyM c body) := by
  obtain ⟨listens, slot⟩ := h
  rw [command_first listens slot (status := .starting) (by simp [State.firstTests, filling])]
  exact answers_received (State.receive_eq p _ s) rfl

/-- A byte that reads as an unknown command reads as one of its own port: so it is for each of the 256 codes. -/
theorem readFrame_unknown {p q : Port} {t : Nat} {code : Byte} (h : readFrame p t [code] = some (.unknownCommand q code)) :
    p = q := by
  obtain ⟨n, hn, rfl⟩ : ∃ n, n < 256 ∧ code = BitVec.ofNat 8 n := ⟨code.toNat, code.isLt, by simp⟩
  interval_cases n
  all_goals (cases h <;> rfl)

/-- Settles O11: a frame that reads as a command on port `p` is that port's, and every other command is refused by the
first test. -/
theorem startUpFillRefusesCommands : Obligations.StartUpFillRefusesCommands := by
  intro c p s frame takes filling reads status unknown
  cases c with
  | powerUp | resetInput | encoderCount | encoderIndex | simulatedCount | stillTimerExpiry | buildBegin | builderFetch
  | append | orderFrameSent | taken | inPosition | fault | replyFrameIgnored | takeLimitExpiry | moveLimitExpiry | chunk
  | readCellsGrant | writeCellsGrant | transactionBegin | transactionEnd | resetRelease => cases frame
  | replyRead =>
    injection frame with read
    injection read with port
    exact absurd (port ▸ rfl) reads
  | status =>
    injection frame with read
    injection read with port
    exact absurd (port ▸ rfl) status
  | unknownCommand q code => exact absurd (readFrame_unknown frame ▸ rfl) (unknown code)
  | setConstants | setSource | simSpeed | simGate =>
    injection frame with read
    injection read with port _ time
    subst port time
    refine ⟨_, rfl, ?_⟩
    rw [State.elapse_eq (Nat.le_refl s.now)]
    exact command_starting takes filling
  | writeCells =>
    change readCellArguments p _ _ _ = _ at frame
    unfold readCellArguments at frame
    split at frame
    · injection frame with read
      injection read with port
      subst port
      exact ⟨_, rfl, command_starting takes filling⟩
    · cases frame
  | _ =>
    injection frame with read
    injection read with port
    subst port
    exact ⟨_, rfl, command_starting takes filling⟩

/-! ### A rule's tests in their order (R158) -/

/-- A rule's tests are taken in their order: the first that holds refuses, and with none the command is accepted. -/
def Judges : List (Bool × Status) → (Status → Prop) → Prop → Prop
  | [], _, accepted => accepted
  | (test, status) :: rest, refused, accepted => if test then refused status else Judges rest refused accepted

/-- One test, in the words of a statement. -/
theorem judges_ite {test : Bool} {status : Status} {rest : List (Bool × Status)} {refused : Status → Prop}
    {accepted after : Prop} {c : Prop} [Decidable c] (h : test = true ↔ c)
    (hr : ¬c → Judges rest refused accepted → after) (judges : Judges ((test, status) :: rest) refused accepted) : if c then refused status else after := by
  unfold Judges at judges
  by_cases hc : c
  · rw [if_pos hc]
    rwa [if_pos (h.mpr hc)] at judges
  · rw [if_neg hc]
    rw [if_neg (mt h.mp hc)] at judges
    exact hr hc judges

theorem judges_of_firstRefusal {tests : List (Bool × Status)} {refused : Status → Prop} {accepted : Prop}
    (some : ∀ status, firstRefusal tests = some (refuse status) → refused status)
    (none : firstRefusal tests = none → accepted) : Judges tests refused accepted := by
  induction tests with
  | nil => exact none rfl
  | cons x rest ih =>
    unfold Judges
    unfold firstRefusal at some none
    split
    · next h => exact some x.2 (if_pos h)
    · next h =>
      rw [if_neg h] at none
      exact ih (fun status e => some status ((if_neg h).trans e)) none

/-- The answer of an accepted command whose rule makes these tests of the state. -/
theorem command_judges {p : Port} {onlyM : Bool} {i : Instr} {refusal : State → Option Reply} {effect : State → State}
    {data : State → List Byte} {tests : List (Bool × Status)} {s u : State} {bytes : List Byte} (h : s.accepts p)
    (hm : onlyM = true → p = .m) (hr : refusal (s.receive p (commandFrame i)) = firstRefusal tests)
    (he : effect (s.receive p (commandFrame i)) = u.setPort p ((s.receive p (commandFrame i)).port p))
    (hu : u.port p = s.port p) (hd : data (s.receive p (commandFrame i)) = bytes) :
    Judges tests (fun status => Refuses p status s (s.command p onlyM i (judged refusal effect data)))
      (Answers p .ok bytes u (s.command p onlyM i (judged refusal effect data))) :=
  judges_of_firstRefusal (fun _ e => command_answers_refusal h hm (hr.trans e))
    fun e => command_answers_ok h hm (hr.trans e) he hu hd

/-! ### The region table (R28 to R34) -/

theorem setRegion_receive (n : Nat) (r : Region) (p : Port) (f : List Byte) (s : State) :
    (s.receive p f).setRegion n r = State.setPort p ((s.receive p f).port p) { s with regions := s.regions.set n r } := by
  cases p <;> rfl

theorem regionInUse_iff (s : State) (r : Region) :
    s.regionInUse r = true ↔ r.valid = true ∧ ∃ x ∈ s.extents, x.within r.range = true := by
  simp [State.regionInUse]

theorem regionBusy_iff (s : State) (r : Region) :
    s.regionBusy r = true ↔ r.valid = true ∧ ∃ x ∈ s.busyExtents, r.range.meets x = true := by
  simp [State.regionBusy, Extent.meetsAny]

theorem mem_regionSizes (size : Nat) : size ∈ regionSizes ↔
    size ∈ [4096, 8192, 16384, 32768, 65536, 131072, 262144, 524288, 1048576] := by
  rw [show regionSizes = [4096, 8192, 16384, 32768, 65536, 131072, 262144, 524288, 1048576] by decide]

/-- Settles O23: the tests of each rule in its words, and the region set. -/
theorem regionsAreSetAndCleared : Obligations.RegionsAreSetAndCleared := by
  intro p n base size s h
  refine ⟨⟨_, rfl, ?_⟩, ⟨_, rfl, ?_⟩⟩
  · refine judges_ite ?_ (fun _ => judges_ite ?_ fun _ => judges_ite ?_ fun _ => judges_ite ?_ fun _ => judges_ite ?_ fun _ => id)
      (command_judges h (by simp) (refusal := regionSetRefusal n base size)
        (show regionSetRefusal n base size (s.receive p _) = regionSetRefusal n base size s by cases p <;> rfl)
        (setRegion_receive n _ p _ s) (by cases p <;> rfl) rfl)
    · simp [mem_regionSizes, or_assoc]
    · simp
    · exact regionInUse_iff s _
    · simp [regionBusy_iff, Extent.meetsAny]
    · simp [State.overlapsOther, and_assoc]
  · refine judges_ite ?_ (fun _ => judges_ite ?_ fun valid => judges_ite ?_ fun _ => judges_ite ?_ fun _ => judges_ite ?_ fun _ => id)
      (command_judges h (by simp) (refusal := regionClearRefusal n)
        (show regionClearRefusal n (s.receive p _) = regionClearRefusal n s by cases p <;> rfl)
        (u := { s with regions := s.regions.set n { s.region n with valid := false } })
        (by cases p <;> rfl) (by cases p <;> rfl) rfl)
    · simp
    · simp
    · simp
    · simp [regionInUse_iff, Bool.eq_true_of_not_eq_false valid]
    · simp [regionBusy_iff, Bool.eq_true_of_not_eq_false valid]

theorem heldByOther_iff (r : Region) (p : Port) : r.heldByOther p = true ↔ r.holder = some (otherPort p) := by
  simp [Region.heldByOther]

/-- A command whose first test is STARTING (R159). -/
theorem starting_or {p : Port} {onlyM : Bool} {i : Instr} {body : Body} {s : State} (h : s.takes p) {after : Prop}
    (ha : s.accepts p → after) :
    if s.filling then Refuses p .starting s (s.command p onlyM i body) else after := by
  split
  · next filling => exact command_starting h filling
  · next free => exact ha ⟨h, by simpa using free⟩

/-- Settles O25: the tests of LOCK and UNLOCK, and the holder set. -/
theorem regionsAreLockedAndUnlocked : Obligations.RegionsAreLockedAndUnlocked := by
  intro p n s takes
  refine ⟨⟨_, rfl, starting_or takes fun h => ?_⟩, ⟨_, rfl, starting_or takes fun h => ?_⟩⟩
  · refine judges_ite ?_ (fun _ => judges_ite ?_ fun _ => judges_ite ?_ fun _ => judges_ite ?_ fun _ => id)
      (command_judges h (by simp) (refusal := lockRefusal p n)
        (show lockRefusal p n (s.receive p _) = lockRefusal p n s by cases p <;> rfl)
        (u := { s with regions := s.regions.set n { s.region n with holder := some p } })
        (by cases p <;> rfl) (by cases p <;> rfl) rfl)
    · simp
    · simp
    · rfl
    · exact heldByOther_iff _ p
  · refine judges_ite ?_ (fun _ => judges_ite ?_ fun _ => judges_ite ?_ fun _ => judges_ite ?_ fun _ => id)
      (command_judges h (by simp) (refusal := unlockRefusal p n)
        (show unlockRefusal p n (s.receive p _) = unlockRefusal p n s by cases p <;> rfl)
        (u := { s with regions := s.regions.set n { s.region n with holder := none } })
        (by cases p <;> rfl) (by cases p <;> rfl) rfl)
    · simp
    · simp
    · rfl
    · exact heldByOther_iff _ p

/-- Settles O26: port D has no rights, and the tests of port M lead to the lock-down. -/
theorem lockedRegionsAreLockedDown : Obligations.LockedRegionsAreLockedDown := by
  intro p n s takes
  refine ⟨_, rfl, starting_or takes fun h => ?_⟩
  cases p with
  | d =>
    rw [if_pos rfl, command_first takes.1 takes.2 (status := .rights) (by simp [State.firstTests, h.2])]
    exact answers_received (State.receive_eq .d _ s) rfl
  | m =>
    rw [if_neg (by decide)]
    refine judges_ite ?_ (fun _ => judges_ite ?_ fun _ => judges_ite ?_ fun _ => id)
      (command_judges (p := .m) h (fun _ => rfl) (refusal := lockDownRefusal n)
        (show lockDownRefusal n (s.receive .m _) = lockDownRefusal n s from rfl)
        (u := { s with regions := s.regions.set n { s.region n with lockDown := true } }) rfl rfl rfl)
    · simp
    · simp
    · simp

/-! ### The tables read back (R30, R46, R58) -/

theorem lowestRepeat_eq (e : Nat) (s : State) : s.lowestRepeat e =
    if s.run.state = .halted then 1
    else if s.sequence.length ≤ e ∨ s.builder.ended ∨ e < s.builder.position.entry then 0
    else if e = s.builder.position.entry then s.builder.position.iteration + 1
    else 1 := by
  unfold State.lowestRepeat State.builderEntry
  by_cases beyond : s.sequence.length ≤ e
  · simp [beyond]
  · cases s.builder.ended with
    | false => by_cases passed : e < s.builder.position.entry <;> simp [beyond, passed]
    | true => simp [beyond, Nat.lt_of_not_le beyond]

@[simp] theorem mappingBytes_length (m : Option Mapping) : (mappingBytes m).length = 9 := by
  cases m <;> simp [mappingBytes, fieldFlag]

/-- Two fields of ten bytes and what follows them. -/
theorem take_tens {a b c : List Byte} (ha : a.length = 10) (hb : b.length = 10) :
    (a ++ (b ++ c)).take 10 = a ∧ ((a ++ (b ++ c)).drop 10).take 10 = b ∧ (a ++ (b ++ c)).take 20 = a ++ b ∧
      (a ++ (b ++ c)).drop 20 = c := by
  have drop : (a ++ (b ++ c)).drop 10 = b ++ c := List.drop_left' ha
  refine ⟨List.take_left' ha, by rw [drop, List.take_left' hb], ?_, ?_⟩
  · rw [← List.append_assoc, List.take_left' (by simp [ha, hb])]
  · rw [← List.append_assoc, List.drop_left' (by simp [ha, hb])]

/-- A mapping's fields after its presence flag. -/
theorem mappingField_length (m : Option Mapping) : (fieldFlag m.isSome ++ mappingBytes m).length = 10 := by
  simp [fieldFlag]

theorem mappingField_none : fieldFlag (none : Option Mapping).isSome ++ mappingBytes none = List.replicate 10 0 := by decide

/-- R46: the two mappings of a segment, ten bytes each, and its two indications. -/
theorem mapGetData_eq (g : Nat) (s : State) : mapGetData g s =
    (fieldFlag (s.segment g).current.isSome ++ mappingBytes (s.segment g).current) ++
      ((fieldFlag (s.segment g).pending.isSome ++ mappingBytes (s.segment g).pending) ++
        (fieldFlag (s.segmentLive g) ++ field1 (checkingCode (s.checking g)))) := by
  simp [mapGetData]

/-- A test as the flag of the proposition that it decides. -/
theorem eq_decide_of_iff {b : Bool} {c : Prop} [Decidable c] (h : b = true ↔ c) : b = decide c :=
  Bool.eq_iff_iff.mpr (h.trans (decide_eq_true_iff).symm)

/-- What a read of a table answers: BAD_VALUE beyond the table, and its data within it. -/
theorem reading_answers {p : Port} {i : Instr} {last n : Nat} {refusal : State → Option Reply} {data : State → List Byte}
    {s : State} (h : s.accepts p) (hr : refusal (s.receive p (commandFrame i)) = firstRefusal [(last < n, .badValue)])
    (hd : data (s.receive p (commandFrame i)) = data s) :
    if last < n then Refuses p .badValue s (s.command p false i (judged refusal id data))
    else Answers p .ok (data s) s (s.command p false i (judged refusal id data)) :=
  judges_ite (by simp) (fun _ => id) (command_judges h (by simp) hr (State.receive_eq p _ s) rfl hd)

/-- Settles O24: each read answers the bytes of its table as it stands. -/
theorem tablesAreReadBack : Obligations.TablesAreReadBack := by
  intro p n s h
  refine ⟨⟨_, rfl, ?_⟩, ⟨_, rfl, ?_⟩, ⟨_, rfl, ?_⟩⟩
  · have answers := reading_answers (i := .regionGet p n) (refusal := regionRefusal n) (data := regionGetData n) h rfl
      (by cases p <;> rfl)
    rw [← eq_decide_of_iff (regionInUse_iff s _), ← eq_decide_of_iff (regionBusy_iff s _)]
    exact answers
  · have answers := reading_answers (i := .mapGet p n) (refusal := segmentRefusal n) (data := mapGetData n) h rfl
      (by cases p <;> rfl)
    split
    · next beyond =>
      rw [if_pos beyond] at answers
      exact answers
    · next inside =>
      rw [if_neg inside, mapGetData_eq] at answers
      obtain ⟨current, pending, both, rest⟩ := take_tens
        (c := fieldFlag (s.segmentLive n) ++ field1 (checkingCode (s.checking n)))
        (mappingField_length (s.segment n).current) (mappingField_length (s.segment n).pending)
      refine ⟨_, answers, by simp [fieldFlag], fun c x hx => ⟨?_, fun m hm => ?_, fun hm => ?_⟩, fun empty => ?_, ?_⟩
      · rw [current, hx]
        simp [MapEntry.current, mappingBytes]
      · rw [pending, hx, hm]
        simp [MapEntry.pending, mappingBytes]
      · rw [pending, hx, hm]
        exact mappingField_none
      · rw [both, empty]
        decide
      · rw [rest]
        rfl
  · have answers := reading_answers (i := .seqGet p n) (refusal := seqGetRefusal n) (data := seqGetData n) h rfl
      (by cases p <;> rfl)
    rw [← lowestRepeat_eq]
    exact answers

end Sys2Proof.Machine
end

section
/-! CHUNK: the cells of the chunk, what follows it by the engine's flags and its progress, and the grant after it. -/

namespace Sys2Proof.Machine

/-! ### The cells of a chunk (R147 to R150) -/

/-- The cells that an operation works on exist, and those a COPY reads and writes are apart. -/
def State.cellsExist (op : Operation) (s : State) : Prop :=
  match op.kind with
  | .fill _ _ => ∃ x, s.engine.extents = [x] ∧ x.first + op.total ≤ memorySize
  | .copy src dst => src + op.total ≤ memorySize ∧ dst + op.total ≤ memorySize ∧
      (src + op.total ≤ dst ∨ dst + op.total ≤ src)
  | .check _ _ m => m.base + op.total ≤ memorySize
  | .startUp => op.total ≤ memorySize

theorem chunkEnd_le {op : Operation} {s : State} (counted : op.progress ≤ op.total) (exist : s.cellsExist op) :
    s.chunkEnd op ≤ memorySize := by
  have size := chunkSize_le op
  unfold State.cellsExist at exist
  unfold State.chunkEnd
  cases hk : op.kind <;> simp only [hk] at exist ⊢
  case fill n v =>
    obtain ⟨x, hx, inside⟩ := exist
    have base : s.engine.base = x.first := by simp [Engine.base, hx]
    omega
  case copy src dst =>
    obtain ⟨source, target, -⟩ := exist
    omega
  case check g w m => omega
  case startUp => omega

/-- What each cell reads after a chunk, by the kind of the operation. -/
theorem doCells_cell {op : Operation} {s : State} (wf : MemoryWf s.memory) (counted : op.progress ≤ op.total)
    (exist : s.cellsExist op) (a : Nat) :
    readCell (s.doCells op).memory a = match op.kind with
      | .fill _ v =>
        if s.engine.base + op.progress ≤ a ∧ a < s.engine.base + op.progress + op.chunkSize then v
        else readCell s.memory a
      | .copy src dst =>
        if dst + op.progress ≤ a ∧ a < dst + op.progress + op.chunkSize then readCell s.memory (src + (a - dst))
        else readCell s.memory a
      | .check _ _ _ => readCell s.memory a
      | .startUp => if op.progress ≤ a ∧ a < op.progress + op.chunkSize then 0 else readCell s.memory a := by
  have size := chunkSize_le op
  have bound := chunkEnd_le counted exist
  unfold State.chunkEnd at bound
  unfold State.cellsExist at exist
  unfold State.doCells
  cases hk : op.kind <;> simp only [hk] at exist bound ⊢
  case fill n v =>
    rw [readCell_writeCells wf (by simpa using bound), List.length_replicate]
    split
    · exact List.getD_replicate _ (by omega)
    · rfl
  case copy src dst =>
    obtain ⟨source, target, apart⟩ := exist
    rw [readCell_copyCells wf (by omega) (by omega)]
    split
    · rw [show src + op.progress + (a - (dst + op.progress)) = src + (a - dst) by omega]
    · rfl
  case startUp =>
    rw [readCell_writeCells wf (by simpa using bound), List.length_replicate]
    split
    · exact List.getD_replicate _ (by omega)
    · rfl

/-! ### What follows the cells of a chunk (R38, R147, R151, R153, R155) -/

theorem settleChunk_stop {op : Operation} {s : State} (stop : s.engine.resetStop = true) :
    s.settleChunk op = { s with engine := .initial } := if_pos stop

theorem settleChunk_abort {op : Operation} {s : State} (stop : s.engine.resetStop = false)
    (abort : s.engine.abortRequested = true) : s.settleChunk op = s.endOp op.owner .aborted := by
  simp [State.settleChunk, stop, abort]

theorem settleChunk_goesOn {op : Operation} {s : State} (stop : s.engine.resetStop = false)
    (abort : s.engine.abortRequested = false) (more : op.progress < op.total) : s.settleChunk op = s := by
  simp [State.settleChunk, stop, abort, more.ne]

theorem settleChunk_startUp {op : Operation} {s : State} (stop : s.engine.resetStop = false)
    (abort : s.engine.abortRequested = false) (done : op.progress = op.total) (kind : op.kind = .startUp) :
    s.settleChunk op = { s with engine := .initial } := by
  simp [State.settleChunk, stop, abort, done, kind]

theorem settleChunk_check {op : Operation} {s : State} (stop : s.engine.resetStop = false)
    (abort : s.engine.abortRequested = false) (done : op.progress = op.total) {g : Nat} {w : MappingSlot}
    {m : Mapping} (kind : op.kind = .check g w m) : s.settleChunk op = s.endCheck g m.expected op.owner := by
  simp [State.settleChunk, stop, abort, done, kind]

theorem settleChunk_written {op : Operation} {s : State} (stop : s.engine.resetStop = false)
    (abort : s.engine.abortRequested = false) (done : op.progress = op.total)
    (kind : ∀ g w m, op.kind ≠ .check g w m) (fill : op.kind ≠ .startUp) :
    s.settleChunk op = s.endOp op.owner .ok := by
  unfold State.settleChunk
  cases hk : op.kind with
  | fill n v => simp [stop, abort, done]
  | copy src dst => simp [stop, abort, done]
  | check g w m => exact absurd hk (kind g w m)
  | startUp => exact absurd hk fill

@[simp] theorem endOp_engine (owner : Option Port) (r : OpResult) (s : State) :
    (s.endOp owner r).engine = s.engine.finish r := by rw [endOp_eq]

@[simp] theorem endOp_segments (owner : Option Port) (r : OpResult) (s : State) :
    (s.endOp owner r).segments = s.segments := by rw [endOp_eq]

/-- OP_DONE goes to the owner alone (R147). -/
theorem endOp_port (p : Port) (r : OpResult) (s : State) :
    (s.endOp (some p) r).port p = (s.port p).raise .opDone ∧
      (s.endOp (some p) r).port (otherPort p) = s.port (otherPort p) := by
  cases p <;> exact ⟨rfl, rfl⟩

theorem setSegment_segment_self {g : Nat} {s : State} (h : g < s.segments.length) (e : MapEntry) :
    (s.setSegment g e).segment g = e := by
  simp [State.segment, State.setSegment, h]

theorem setSegment_segment_ne {g i : Nat} (h : i ≠ g) (e : MapEntry) (s : State) :
    (s.setSegment g e).segment i = s.segment i :=
  (setSegment_segment g i e s).resolve_right fun ⟨same, _⟩ => h same

theorem settleCheck_unbound {g : Nat} {ok : Bool} {s : State} (h : s.engine.bound = none) :
    s.settleCheck g ok = s := by
  simp [State.settleCheck, h]

theorem settleCheck_bound {g : Nat} {ok : Bool} {s : State} {slot : MappingSlot} (h : s.engine.bound = some slot) :
    s.settleCheck g ok = s.setSegment g ((s.segment g).setVerified slot ok) := by
  simp [State.settleCheck, h]

theorem settleCheck_segment_ne {g i : Nat} (h : i ≠ g) (ok : Bool) (s : State) :
    (s.settleCheck g ok).segment i = s.segment i := by
  unfold State.settleCheck
  split
  · exact setSegment_segment_ne h _ s
  · rfl

@[simp] theorem endCheck_engine (g : Nat) (c : Check) (owner : Option Port) (s : State) :
    (s.endCheck g c owner).engine =
      ({ s.engine with computed := some s.engine.register } : Engine).finish
        (if s.engine.register = c then .ok else .mismatch) := by
  simp [State.endCheck]

@[simp] theorem endCheck_segments (g : Nat) (c : Check) (owner : Option Port) (s : State) :
    (s.endCheck g c owner).segments = (s.settleCheck g (decide (s.engine.register = c))).segments := by
  simp [State.endCheck]

/-- Of a chunk that ends no start-up fill and that the reset input did not find, the check register stays. -/
theorem settleChunk_register {op : Operation} {s : State} (stop : s.engine.resetStop = false)
    (kind : op.kind ≠ .startUp) : (s.settleChunk op).engine.register = s.engine.register := by
  unfold State.settleChunk
  rw [if_neg (by simp [stop])]
  split
  · simp [Engine.finish]
  · split
    · split
      · next startUp => exact absurd startUp kind
      · simp [Engine.finish]
      · simp [Engine.finish]
      · simp [Engine.finish]
    · rfl

/-! ### The chunk as a whole -/

/-- The state after a chunk's cells and its end, before its grant ends. -/
def State.chunkSettled (op : Operation) (s : State) : State := (s.chunkDone op).settleChunk op.advanced

theorem runChunk_chunkSettled (op : Operation) (s : State) :
    s.runChunk op = (s.chunkSettled op).endGrant.askChunk.arbitrate := runChunk_settles op s

theorem runChunk_engine (op : Operation) (s : State) : (s.runChunk op).engine = (s.chunkSettled op).engine := by
  rw [runChunk_chunkSettled, askChunk_eq]
  rfl

theorem runChunk_segments (op : Operation) (s : State) : (s.runChunk op).segments = (s.chunkSettled op).segments := by
  rw [runChunk_chunkSettled, askChunk_eq]
  rfl

theorem runChunk_portM (op : Operation) (s : State) : (s.runChunk op).portM = (s.chunkSettled op).portM := by
  rw [runChunk_chunkSettled, askChunk_eq]
  rfl

theorem runChunk_portD (op : Operation) (s : State) : (s.runChunk op).portD = (s.chunkSettled op).portD := by
  rw [runChunk_chunkSettled, askChunk_eq]
  rfl

theorem runChunk_port (op : Operation) (s : State) (p : Port) : (s.runChunk op).port p = (s.chunkSettled op).port p := by
  cases p
  · exact runChunk_portM op s
  · exact runChunk_portD op s

theorem runChunk_segment (op : Operation) (s : State) (i : Nat) :
    (s.runChunk op).segment i = (s.chunkSettled op).segment i :=
  congrArg (·.getD i .empty) (runChunk_segments op s)

theorem chunkSettled_arbiter (op : Operation) (s : State) : (s.chunkSettled op).arbiter = s.arbiter := by
  unfold State.chunkSettled
  rw [settleChunk_eq]
  rfl

/-- R147: an ACTIVE engine with cells left asks for its next chunk. -/
theorem askChunk_asks {s : State} {op : Operation} (active : s.engine.state = .active)
    (abort : s.engine.abortRequested = false) (hop : s.engine.op = some op) (more : op.progress < op.total)
    (grant : s.arbiter.grant = none) : s.askChunk = { s with arbiter := { s.arbiter with chunkWaiting := true } } := by
  simp [State.askChunk, active, abort, hop, more, grant]

theorem askChunk_inactive {s : State} (h : s.engine.state ≠ .active) : s.askChunk = s :=
  (askChunk_cases s).resolve_right fun ⟨active, _⟩ => h active

/-- An operation goes on after a chunk that nothing stops and that leaves cells to do. -/
theorem chunkSettled_goesOn {op : Operation} {s : State} (stop : s.engine.resetStop = false)
    (abort : s.engine.abortRequested = false) (more : op.advanced.progress < op.advanced.total) :
    s.chunkSettled op = s.chunkDone op := settleChunk_goesOn stop abort more

/-- An operation that does not go on after a chunk leaves the engine IDLE. -/
theorem chunkSettled_idle {op : Operation} {s : State}
    (ends : s.engine.resetStop = true ∨ s.engine.abortRequested = true ∨ op.advanced.progress = op.advanced.total) :
    (s.chunkSettled op).engine.state = .idle ∧ (s.chunkSettled op).engine.abortRequested = false := by
  unfold State.chunkSettled State.settleChunk
  split
  · exact ⟨rfl, rfl⟩
  · next stop =>
    split
    · simp [Engine.finish]
    · next abort =>
      rw [if_pos ((ends.resolve_left stop).resolve_left abort)]
      split
      · exact ⟨rfl, rfl⟩
      · simp [Engine.finish]
      · simp [Engine.finish]
      · simp [Engine.finish]

/-- Where the engine is ACTIVE after a chunk the operation goes on, and it was ACTIVE before. -/
theorem chunkSettled_active {op : Operation} {s : State} (counted : op.advanced.progress ≤ op.advanced.total)
    (active : (s.chunkSettled op).engine.state = .active) :
    (s.engine.resetStop = false ∧ s.engine.abortRequested = false ∧ op.advanced.progress < op.advanced.total) ∧
      s.engine.state = .active := by
  have goesOn : ¬(s.engine.resetStop = true ∨ s.engine.abortRequested = true ∨
      op.advanced.progress = op.advanced.total) := fun ends => by
    simp [(chunkSettled_idle ends).1] at active
  simp only [not_or, Bool.not_eq_true] at goesOn
  obtain ⟨stop, abort, short⟩ := goesOn
  have more := lt_of_le_of_ne counted short
  exact ⟨⟨stop, abort, more⟩, by rwa [chunkSettled_goesOn stop abort more] at active⟩

/-- The grant that follows a chunk of an ACTIVE operation that goes on (R25, R147). -/
theorem runChunk_arbiter_asks {op : Operation} {s : State} (stop : s.engine.resetStop = false)
    (abort : s.engine.abortRequested = false) (more : op.advanced.progress < op.advanced.total)
    (active : s.engine.state = .active) :
    (s.runChunk op).arbiter = ({ s.arbiter with grant := none, chunkWaiting := true } : Arbiter).next := by
  rw [runChunk_chunkSettled, chunkSettled_goesOn stop abort more,
    askChunk_asks (s := (s.chunkDone op).endGrant) (op := op.advanced) active abort rfl more rfl]
  rfl

/-- The grant that follows a chunk after which the engine is not ACTIVE (R25). -/
theorem runChunk_arbiter_inactive {op : Operation} {s : State} (h : (s.chunkSettled op).engine.state ≠ .active) :
    (s.runChunk op).arbiter = ({ s.arbiter with grant := none } : Arbiter).next := by
  rw [runChunk_chunkSettled, askChunk_inactive (s := (s.chunkSettled op).endGrant) h, ← chunkSettled_arbiter op s]
  rfl

/-- The cells that a CHECK feeds into its register (R150). -/
theorem chunkDone_register {op : Operation} {s : State} {g : Nat} {w : MappingSlot} {m : Mapping}
    (kind : op.kind = .check g w m) : (s.chunkDone op).engine.register =
      ((List.range op.chunkSize).map fun i => readCell s.memory (m.base + op.progress + i)).foldl checkCell
        s.engine.register := by
  simp [State.chunkDone, State.doCells, kind, readCells]

theorem exec_chunk {op : Operation} {s : State} (grant : s.arbiter.grant = some .engine) (hop : s.engine.op = some op)
    (inside : s.chunkEnd op ≤ memorySize) : exec .chunk s = .next (s.runChunk op) := by
  change execChunk s = _
  simp only [execChunk, grant, hop]
  exact if_neg (by omega)

/-- What an end of a done operation leaves in the map (R151), for the mapping that a CHECK is bound to. -/
theorem settleCheck_segment {g : Nat} {s : State} (h : g < s.segments.length) {slot : MappingSlot}
    (bound : s.engine.bound = some slot) (ok : Bool) :
    (s.settleCheck g ok).segment g = (s.segment g).setVerified slot ok := by
  rw [settleCheck_bound bound, setSegment_segment_self h]

theorem endCheck_segment (g : Nat) (c : Check) (owner : Option Port) (s : State) (i : Nat) :
    (s.endCheck g c owner).segment i = (s.settleCheck g (decide (s.engine.register = c))).segment i :=
  congrArg (·.getD i .empty) (endCheck_segments g c owner s)

theorem endCheck_port (g : Nat) (c : Check) (p : Port) (s : State) :
    (s.endCheck g c (some p)).port p = (s.port p).raise .opDone ∧
      (s.endCheck g c (some p)).port (otherPort p) = s.port (otherPort p) := by
  have ports (q : Port) : (s.settleCheck g (decide (s.engine.register = c))).port q = s.port q := by
    unfold State.settleCheck
    split <;> cases q <;> rfl
  obtain ⟨own, other⟩ := endOp_port p (if s.engine.register = c then .ok else .mismatch)
    { s.settleCheck g (decide (s.engine.register = c)) with
      engine := { s.engine with computed := some s.engine.register } }
  exact ⟨own.trans (congrArg _ (ports p)), other.trans (ports (otherPort p))⟩

/-- Settles O44: the cells, the end and the next grant of a chunk, each by its lemma. -/
theorem chunksDoTheirCells : Obligations.ChunksDoTheirCells := by
  unfold Obligations.ChunksDoTheirCells
  rintro op n s wf grant hop busy rfl counted exist
  have inside : s.chunkEnd op ≤ memorySize := chunkEnd_le counted exist
  have advanced_le : op.advanced.progress ≤ op.advanced.total := by
    have := chunkSize_le op
    simp only [Operation.advanced]
    omega
  refine ⟨s.runChunk op, exec_chunk grant hop inside, ?_, fun a => ?_, ⟨fun ⟨stop, abort, more⟩ active => ?_,
    fun rests => ?_⟩, fun stop => ?_, fun stop => ⟨fun g w m kind => ?_, fun abort more => ?_, fun ends => ?_,
    fun p abort owner => ?_, fun p abort done owner kind => ?_, fun abort done kind => ?_⟩⟩
  · rw [runChunk_eq]
  · rw [runChunk_eq]
    exact doCells_cell wf counted exist a
  · exact runChunk_arbiter_asks stop abort more active
  · exact runChunk_arbiter_inactive fun active => rests (chunkSettled_active advanced_le active)
  · have settled : s.chunkSettled op = { s.chunkDone op with engine := .initial } := settleChunk_stop stop
    simp [State.busyExtents, runChunk_engine, runChunk_segments, runChunk_portM, runChunk_portD, settled,
      Engine.initial, State.chunkDone]
  · rw [runChunk_engine]
    exact (settleChunk_register (s := s.chunkDone op) stop (by simp [Operation.advanced, kind])).trans
      (chunkDone_register kind)
  · have settled := chunkSettled_goesOn stop abort more
    simp only [runChunk_engine, runChunk_segments, runChunk_portM, runChunk_portD, settled]
    exact ⟨rfl, rfl, rfl, abort, rfl, rfl, rfl, rfl⟩
  · obtain ⟨idle, cleared⟩ := chunkSettled_idle (op := op) (s := s) (.inr ends)
    simp [State.busyExtents, runChunk_engine, idle, cleared]
  · have settled : s.chunkSettled op = (s.chunkDone op).endOp (some p) .aborted :=
      owner ▸ settleChunk_abort (s := s.chunkDone op) stop abort
    obtain ⟨own, other⟩ := endOp_port p .aborted (s.chunkDone op)
    simp only [runChunk_engine, runChunk_segments, runChunk_port, settled, endOp_engine, endOp_segments]
    exact ⟨rfl, rfl, rfl, own, other⟩
  · have advanced : op.advanced = { op with progress := op.total } :=
      congrArg (fun k => { op with progress := k }) done
    by_cases check : ∃ g w m, op.kind = .check g w m
    · obtain ⟨g, w, m, hk⟩ := check
      have settled : s.chunkSettled op = (s.chunkDone op).endCheck g m.expected (some p) :=
        owner ▸ settleChunk_check (s := s.chunkDone op) stop abort done hk
      obtain ⟨own, other⟩ := endCheck_port g m.expected p (s.chunkDone op)
      simp only [runChunk_engine, runChunk_segments, runChunk_segment, runChunk_port, settled, endCheck_engine,
        endCheck_segments, endCheck_segment]
      refine ⟨congrArg some advanced, own, other, fun none => absurd hk (none g w m), ?_⟩
      rintro g' w' m' hk'
      obtain ⟨rfl, rfl, rfl⟩ : g = g' ∧ w = w' ∧ m = m' := by simpa [hk] using hk'
      refine ⟨rfl, rfl, fun unbound => ?_, fun c x hg hc bound => ?_, fun c x hg hc bound => ?_, fun i hi => ?_⟩
      · rw [settleCheck_unbound (s := s.chunkDone op) unbound]
        rfl
      · rw [settleCheck_segment (s := s.chunkDone op) hg bound]
        exact congrArg _ hc
      · rw [settleCheck_segment (s := s.chunkDone op) hg bound]
        exact congrArg _ hc
      · exact settleCheck_segment_ne hi _ _
    · have settled : s.chunkSettled op = (s.chunkDone op).endOp (some p) .ok :=
        owner ▸ settleChunk_written (s := s.chunkDone op) stop abort done
          (fun g w m hk => check ⟨g, w, m, hk⟩) kind
      obtain ⟨own, other⟩ := endOp_port p .ok (s.chunkDone op)
      simp only [runChunk_engine, runChunk_segments, runChunk_port, settled, endOp_engine, endOp_segments]
      exact ⟨congrArg some advanced, own, other, fun _ => ⟨rfl, rfl⟩, fun g w m hk => absurd ⟨g, w, m, hk⟩ check⟩
  · have settled : s.chunkSettled op = { s.chunkDone op with engine := .initial } :=
      settleChunk_startUp (s := s.chunkDone op) stop abort done kind
    simp only [runChunk_engine, runChunk_segments, runChunk_portM, runChunk_portD, settled]
    exact ⟨rfl, rfl, rfl, rfl, rfl, rfl⟩

end Sys2Proof.Machine
end

section
/-! BUILD_BEGIN and BUILDER_FETCH: the start of a course's build, the closure of an iteration, and the fetch. -/

namespace Sys2Proof.Machine

theorem Raised.eq {x y : PortState} (h : Raised x y) : y = { x with events := y.events } := by
  obtain ⟨transaction, slot, discard, mask, deaf, shiftedOut, -⟩ := h
  cases y
  cases transaction
  cases slot
  cases discard
  cases mask
  cases deaf
  cases shiftedOut
  rfl

/-! ### What the builder's steps leave alone -/

/-- From `s` to `t` only the map, the builder, the queue, the arbiter, the engine and raised event flags have changed. -/
structure BuilderSide (s t : State) : Prop where
  frame : t = { s with
    segments := t.segments, builder := t.builder, queue := t.queue, arbiter := t.arbiter, engine := t.engine,
    portM := t.portM, portD := t.portD }
  ports : ∀ p, Raised (s.port p) (t.port p)

theorem BuilderSide.refl (s : State) : BuilderSide s s := ⟨rfl, fun _ => .refl _⟩

theorem BuilderSide.trans {s t u : State} (h : BuilderSide s t) (k : BuilderSide t u) : BuilderSide s u :=
  ⟨by rw [k.frame, h.frame], fun p => (h.ports p).trans (k.ports p)⟩

theorem BuilderSide.update (s : State) (segments : List MapEntry) (builder : Builder) (queue : CourseQueue)
    (arbiter : Arbiter) (engine : Engine) : BuilderSide s { s with
      segments := segments, builder := builder, queue := queue, arbiter := arbiter, engine := engine } :=
  ⟨rfl, fun p => by cases p <;> exact .refl _⟩

theorem raise_builderSide (e : Event) (s : State) : BuilderSide s (s.raise e) := ⟨rfl, (raise_runSide e s).ports⟩

theorem raiseIf_builderSide (c : Bool) (e : Event) (s : State) : BuilderSide s (s.raiseIf c e) := by
  cases c
  · exact .refl s
  · exact raise_builderSide e s

theorem BuilderSide.keepsCells {s t : State} (h : BuilderSide s t) : KeepsCells s t := fun a => by rw [h.frame]

theorem BuilderSide.onlyRaises {s t : State} (h : BuilderSide s t) : OnlyRaises s t := fun p =>
  ⟨(h.ports p).eq, (h.ports p).events⟩

theorem startSegment_builderSide (g : Nat) (s : State) : BuilderSide s (s.startSegment g) := by
  unfold State.startSegment
  split
  · split
    · exact (BuilderSide.update s _ s.builder s.queue s.arbiter _).trans (raise_builderSide _ _)
    · exact raise_builderSide _ s
  · exact .refl s

theorem beginCourse_builderSide (s : State) : BuilderSide s s.beginCourse := by
  have started (c : Prop) [Decidable c] (g : Nat) : BuilderSide s (if c then s.startSegment g else s) := by
    split
    · exact startSegment_builderSide g s
    · exact .refl s
  unfold State.beginCourse
  dsimp only
  split
  · exact .refl s
  · exact (started _ _).trans (.update _ _ _ _ _ _)

theorem closeIteration_builderSide (s : State) : BuilderSide s s.closeIteration :=
  .update s s.segments _ _ s.arbiter s.engine

theorem beginBuild_builderSide (s : State) : BuilderSide s s.beginBuild := by
  unfold State.beginBuild
  split
  · exact .refl s
  · split
    · split
      · exact closeIteration_builderSide s
      · exact (closeIteration_builderSide s).trans (beginCourse_builderSide _)
    · exact beginCourse_builderSide s

theorem watchCeiling_builderSide {f : State → State} {s : State} (h : BuilderSide s (f s)) :
    BuilderSide s (s.watchCeiling f) := h.trans (raiseIf_builderSide _ _ _)

/-! ### The start of a course's build (R49, R50, R51, R69, R71) -/

theorem startSegment_switch {g : Nat} {s : State} {m p : Mapping} (h : s.segment g = .mapped m (some p))
    (verified : p.verified = true) : s.startSegment g =
      State.raise .remapped { s.setSegment g (.mapped p none) with engine := s.engine.rebind g } := by
  simp [State.startSegment, h, verified]

theorem startSegment_hold {g : Nat} {s : State} {m p : Mapping} (h : s.segment g = .mapped m (some p))
    (verified : p.verified = false) : s.startSegment g = s.raise .remapHeld := by
  simp [State.startSegment, h, verified]

theorem startSegment_settled {g : Nat} {s : State} {m : Mapping} (h : s.segment g = .mapped m none) :
    s.startSegment g = s := by
  simp [State.startSegment, h]

theorem rebind_bound {g : Nat} {e : Engine} {op : Operation} {w : MappingSlot} {m : Mapping} (hop : e.op = some op)
    (kind : op.kind = .check g w m) :
    (e.rebind g).bound = if e.bound = some .pending then some .current else none := by
  obtain ⟨k, owner, total, progress⟩ := op
  subst kind
  unfold Engine.rebind
  rw [hop]
  rcases e.bound with _ | _ | _ <;> simp

theorem rebind_eq (g : Nat) (e : Engine) : e.rebind g = { e with bound := (e.rebind g).bound } := by
  unfold Engine.rebind
  split
  · split <;> rfl
  · rfl

/-- The builder takes a build in hand and asks for its fetch. -/
def State.takeBuild (b : Build) (s : State) : State :=
  { s with builder := { s.builder with build := some b, buffer := [] } }.askFetch

/-- The course's build, once the switch at a segment start is made. -/
theorem beginCourse_eq {s t : State} {m : Mapping}
    (started : (if s.builder.position.course = 0 then s.startSegment s.buildSegment else s) = t)
    (current : (t.segment s.buildSegment).current = some m) :
    s.beginCourse = t.takeBuild
      { base := m.base + s.builder.position.course * m.bars, bars := m.bars,
        remapped := s.builder.position.course = 0 && (s.segment s.buildSegment).switches, fetched := false } := by
  unfold State.beginCourse
  dsimp only
  rw [started, current]
  rfl

/-- A build asks for its fetch: it is granted at once where no grant is in progress, and waits otherwise (R25, R71). -/
theorem takeBuild_arbiter (b : Build) (s : State) :
    (s.arbiter.grant = none → (s.takeBuild b).arbiter.grant = some .builder) ∧
      (s.arbiter.grant.isSome → (s.takeBuild b).arbiter = { s.arbiter with fetchWaiting := true }) :=
  ⟨fun free => by
    have next := Arbiter.next_free (a := { s.arbiter with fetchWaiting := true }) free
    exact (congrArg Arbiter.grant next).trans rfl,
   fun granted => Arbiter.next_granted (a := { s.arbiter with fetchWaiting := true }) granted⟩

theorem startSegment_reads (g : Nat) (s : State) : (s.startSegment g).builder = s.builder ∧
    (s.startSegment g).queue = s.queue ∧ (s.startSegment g).arbiter = s.arbiter := by
  unfold State.startSegment
  split
  · split <;> exact ⟨rfl, rfl, rfl⟩
  · exact ⟨rfl, rfl, rfl⟩

/-- The start of a course's build moves no position and leaves the queue. -/
theorem beginCourse_reads (s : State) : s.beginCourse.builder.position = s.builder.position ∧
    s.beginCourse.builder.ended = s.builder.ended ∧ s.beginCourse.queue = s.queue := by
  have started (c : Prop) [Decidable c] (g : Nat) : (if c then s.startSegment g else s).builder = s.builder ∧
      (if c then s.startSegment g else s).queue = s.queue := by
    obtain ⟨builder, queue, -⟩ := startSegment_reads g s
    split
    · exact ⟨builder, queue⟩
    · exact ⟨rfl, rfl⟩
  obtain ⟨builder, queue⟩ := started (s.builder.position.course = 0) s.buildSegment
  unfold State.beginCourse
  dsimp only
  split
  · exact ⟨rfl, rfl, rfl⟩
  · exact ⟨congrArg (·.position) builder, congrArg (·.ended) builder, queue⟩

/-- What `BeginsCourse` says stays said while run control moves and flags are raised. -/
theorem BeginsCourse.mono {position : Position} {s t u : State} (h : BeginsCourse position s t) (side : RunSide t u) :
    BeginsCourse position s u := by
  intro g m x hg inside mapped
  have segment (n : Nat) : u.segment n = t.segment n := congrArg (·.getD n .empty) side.segments
  obtain ⟨at_, running, free, busy, held, switched⟩ := h g m x hg inside mapped
  rw [side.builder, side.arbiter, side.segments, side.engine]
  refine ⟨at_, running, free, busy, fun stays => ?_, fun p first pending verified => ?_⟩
  · obtain ⟨segments, engine, build, shows⟩ := held stays
    exact ⟨segments, engine, build, fun first pending => (shows first pending).mono side.ports⟩
  · obtain ⟨self, others, shows, engine, bound, build⟩ := switched p first pending verified
    simp only [segment]
    exact ⟨self, others, shows.mono side.ports, engine, bound, build⟩

/-- R50: a course 0 begun over a verified pending mapping: it is switched in. -/
theorem beginCourse_switches {s : State} {m p : Mapping} (inside : s.buildSegment < s.segments.length)
    (mapped : s.segment s.buildSegment = .mapped m (some p)) (first : s.builder.position.course = 0)
    (verified : p.verified = true) : s.beginCourse =
      (State.raise .remapped { s.setSegment s.buildSegment (.mapped p none) with
        engine := s.engine.rebind s.buildSegment }).takeBuild
          { base := p.base, bars := p.bars, remapped := true, fetched := false } := by
  rw [beginCourse_eq ((if_pos first).trans (startSegment_switch mapped verified))
    (m := p) (congrArg MapEntry.current (setSegment_segment_self inside _))]
  simp [first, mapped, MapEntry.switches, verified]

/-- The state from which a course begins that switches no mapping: a pending one at course 0 is held (R51). -/
def State.held (x : Option Mapping) (s : State) : State :=
  s.raiseIf (s.builder.position.course = 0 && x.isSome) .remapHeld

/-- R51: a course begun with no verified pending mapping at a segment start: the current mapping goes on. -/
theorem beginCourse_stays {s : State} {m : Mapping} {x : Option Mapping}
    (mapped : s.segment s.buildSegment = .mapped m x)
    (stays : s.builder.position.course ≠ 0 ∨ x = none ∨ ∃ p, x = some p ∧ p.verified = false) :
    s.beginCourse = (s.held x).takeBuild
      { base := m.base + s.builder.position.course * m.bars, bars := m.bars, remapped := false, fetched := false } := by
  have same : (s.held x).segment s.buildSegment = s.segment s.buildSegment :=
    congrArg (·.getD s.buildSegment .empty) (State.raiseIf_segments _ _ s)
  have started : (if s.builder.position.course = 0 then s.startSegment s.buildSegment else s) = s.held x := by
    by_cases first : s.builder.position.course = 0
    · rcases stays.resolve_left (not_not.mpr first) with rfl | ⟨p, rfl, unverified⟩
      · simp [first, startSegment_settled mapped, State.held, State.raiseIf]
      · simp [first, startSegment_hold mapped unverified, State.held, State.raiseIf]
    · simp [first, State.held, State.raiseIf]
  rw [beginCourse_eq started (m := m) (by rw [same, mapped]; rfl)]
  have unswitched : (decide (s.builder.position.course = 0) && (s.segment s.buildSegment).switches) = false := by
    rw [mapped]
    rcases stays with later | rfl | ⟨p, rfl, unverified⟩
    · simp [later]
    · simp [MapEntry.switches]
    · simp [MapEntry.switches, unverified]
  rw [unswitched]

/-- R69: the build of the course at the builder position. -/
theorem beginCourse_beginsCourse {s : State} (running : s.builder.ended = false) :
    BeginsCourse s.builder.position s s.beginCourse := by
  rintro g m x rfl inside mapped
  obtain ⟨position, ended, -⟩ := beginCourse_reads s
  refine ⟨position, ended.trans running, ?_⟩
  by_cases switch : s.builder.position.course = 0 ∧ ∃ p, x = some p ∧ p.verified = true
  · obtain ⟨first, p, rfl, verified⟩ := switch
    rw [beginCourse_switches inside mapped first verified]
    obtain ⟨free, busy⟩ := takeBuild_arbiter { base := p.base, bars := p.bars, remapped := true, fetched := false }
      (State.raise .remapped { s.setSegment s.buildSegment (.mapped p none) with
        engine := s.engine.rebind s.buildSegment })
    refine ⟨free, busy, fun stays => ?_, ?_⟩
    · exact absurd stays (by simp [first, verified])
    · rintro q - ⟨⟩ -
      refine ⟨setSegment_segment_self inside _, fun n other => setSegment_segment_ne other _ s, ?_, rebind_eq _ _,
        fun op e z hop kind => rebind_bound hop kind, rfl⟩
      exact bothShow_raise .remapped _
  · have stays : s.builder.position.course ≠ 0 ∨ x = none ∨ ∃ p, x = some p ∧ p.verified = false := by
      by_contra none
      push Not at none
      obtain ⟨first, pending, verified⟩ := none
      obtain ⟨p, hp⟩ := Option.ne_none_iff_exists'.mp pending
      exact switch ⟨first, p, hp, by simpa using verified p hp⟩
    rw [beginCourse_stays mapped stays]
    obtain ⟨free, busy⟩ := takeBuild_arbiter
      { base := m.base + s.builder.position.course * m.bars, bars := m.bars, remapped := false, fetched := false }
      (s.held x)
    rw [show (s.held x).arbiter = s.arbiter from State.raiseIf_arbiter _ _ _] at free busy
    refine ⟨free, busy, fun _ => ⟨State.raiseIf_segments _ _ _, State.raiseIf_engine _ _ _, rfl,
      fun first pending => ?_⟩, fun p first pending verified => absurd ⟨first, p, pending, verified⟩ switch⟩
    exact bothShow_raiseIf (by simp [first, pending]) .remapHeld s

/-! ### BUILD_BEGIN (R64, R68, R69, R75) -/

theorem canBegin_of_conditions {s : State}
    (active : s.run.state = .placing ∨ s.run.state = .running ∨ s.run.state = .faulted)
    (running : s.builder.ended = false) (room : s.queue.records.length < 16) (free : s.builder.build = none)
    (numbered : ∀ r, s.queue.records.getLast? = some r ∨ (s.queue.records = [] ∧ s.queue.history.head? = some r) →
      r.number < 4294967295) : s.canBegin = true := by
  have predecessor (r : Record) (h : s.predecessor = some r) : r.number < lastCourseNumber := by
    refine numbered r ?_
    unfold State.predecessor at h
    split at h
    · next r' tail => exact .inl (tail.trans h)
    · next empty => exact .inr ⟨List.getLast?_eq_none_iff.mp empty, h⟩
  unfold State.canBegin
  split
  · next r h =>
    rcases active with state | state | state <;> simp [state, running, room, free, predecessor r h]
  · rcases active with state | state | state <;> simp [state, running, room, free]

theorem canBegin_eq_false {s : State} (h : s.run.state = .halted ∨ s.run.state = .ended ∨ s.builder.ended = true ∨
    16 ≤ s.queue.records.length ∨ s.builder.build.isSome) : s.canBegin = false := by
  unfold State.canBegin
  rcases h with state | state | ended | full | building
  · simp [state]
  · simp [state]
  · simp [ended]
  · simp [Nat.not_lt.mpr full]
  · simp [Option.isNone_eq_false_iff.mpr building]

/-- The end of an iteration ends the builder exactly where it ends the article (R61). -/
theorem endIteration_articleEnd (t : SequenceTable) (p : Position) :
    (t.endIteration p).articleEnd = (t.endIteration p).ended := by
  unfold SequenceTable.endIteration
  dsimp only
  split
  · rfl
  · split
    · rfl
    · split <;> rfl

theorem closeIteration_queue_empty {s : State} (h : s.queue.records = []) : s.closeIteration.queue = s.queue := by
  unfold State.closeIteration
  dsimp only
  rw [h, mapLast, ← h]

theorem closeIteration_queue_tail {s : State} {front : List Record} {r : Record}
    (h : s.queue.records = front ++ [r]) : s.closeIteration.queue =
      { s.queue with
        records := front ++ [r.close s.constants (s.sequence.endIteration s.builder.position)] } := by
  unfold State.closeIteration
  dsimp only
  rw [h, mapLast_concat]

theorem beginBuild_within {s : State} {m : Mapping} {x : Option Mapping} (mapped : s.segment s.buildSegment = .mapped m x)
    (within : s.builder.position.course < m.courses) : s.beginBuild = s.beginCourse := by
  simp [State.beginBuild, mapped, MapEntry.current, Nat.not_le.mpr within]

theorem beginBuild_ends {s : State} {m : Mapping} {x : Option Mapping} (mapped : s.segment s.buildSegment = .mapped m x)
    (past : m.courses ≤ s.builder.position.course)
    (ended : (s.sequence.endIteration s.builder.position).ended = true) : s.beginBuild = s.closeIteration := by
  simp [State.beginBuild, mapped, MapEntry.current, past, State.closeIteration, ended]

theorem beginBuild_closes {s : State} {m : Mapping} {x : Option Mapping} (mapped : s.segment s.buildSegment = .mapped m x)
    (past : m.courses ≤ s.builder.position.course)
    (running : (s.sequence.endIteration s.builder.position).ended = false) :
    s.beginBuild = s.closeIteration.beginCourse := by
  simp [State.beginBuild, mapped, MapEntry.current, past, State.closeIteration, running]

/-- Past the last course of the mapping the queue is as the closure of the iteration leaves it. -/
theorem beginBuild_past_queue {s : State} {m : Mapping} {x : Option Mapping}
    (mapped : s.segment s.buildSegment = .mapped m x) (past : m.courses ≤ s.builder.position.course) :
    s.beginBuild.queue = s.closeIteration.queue := by
  cases ended : (s.sequence.endIteration s.builder.position).ended
  · obtain ⟨-, -, queue⟩ := beginCourse_reads s.closeIteration
    rw [beginBuild_closes mapped past ended, queue]
  · rw [beginBuild_ends mapped past ended]

/-- R64, R69: the builder goes on at the position after the iteration that it has closed. -/
theorem closeIteration_beginsCourse {s : State}
    (running : (s.sequence.endIteration s.builder.position).ended = false) :
    BeginsCourse (s.sequence.endIteration s.builder.position).position s s.closeIteration.beginCourse :=
  beginCourse_beginsCourse (s := s.closeIteration) running

/-- The state that BUILD_BEGIN leaves. -/
def State.begun (s : State) : State := if s.canBegin then s.watchCeiling State.beginBuild else s

theorem exec_buildBegin {s : State} (released : s.resetHeld = false) : exec .buildBegin s = .next s.begun := by
  change execBuildBegin s = _
  simp [execBuildBegin, State.unlessHeld, released, State.begun]

theorem begun_builderSide (s : State) : BuilderSide s s.begun := by
  unfold State.begun
  split
  · exact watchCeiling_builderSide (beginBuild_builderSide s)
  · exact .refl s

/-- Where the builder can begin, BUILD_BEGIN does what the begin does, and raises CEILING_DROP at most. -/
theorem begun_runSide {s : State} (h : s.canBegin = true) : RunSide s.beginBuild s.begun := by
  rw [State.begun, if_pos h]
  exact raiseIf_runSide _ _ _

/-! ### BUILDER_FETCH (R25, R70, R71) -/

theorem fetchedBuild_some {s : State} {b : Build} (building : s.builder.build = some b) (unread : b.fetched = false)
    (served : s.arbiter.fetchWaiting = false) : s.fetchedBuild = some b := by
  simp [State.fetchedBuild, building, unread, served]

theorem fetchedBuild_none {s : State} (h : s.builder.build = none ∨ s.arbiter.fetchWaiting = true) :
    s.fetchedBuild = none := by
  unfold State.fetchedBuild
  split
  · next b building => rw [h.resolve_left (by simp [building]), Bool.or_true, if_pos rfl]
  · rfl

theorem endFetch_read {s : State} {b : Build} (h : s.fetchedBuild = some b) : s.endFetch =
    { s with
      builder := { s.builder with
        build := some { b with fetched := true }, buffer := readCells s.memory b.base b.bars }
      arbiter := ({ s.arbiter with grant := none } : Arbiter).next } := by
  rw [State.endFetch, h]
  rfl

theorem endFetch_discards {s : State} (h : s.fetchedBuild = none) : s.endFetch =
    { s with arbiter := ({ s.arbiter with grant := none } : Arbiter).next } := by
  rw [State.endFetch, h]
  rfl

/-- With no fetch waiting, the grant that follows is not the builder's. -/
theorem Arbiter.next_ne_builder {a : Arbiter} (h : a.grant = none) (fetch : a.fetchWaiting = false) :
    a.next.grant ≠ some .builder := by
  rw [Arbiter.next_free h, if_neg (by simp [fetch])]
  split
  · simp
  · split
    · simp
    · split
      · simp
      · simp [h]

theorem exec_builderFetch_read {s : State} {b : Build} (grant : s.arbiter.grant = some .builder)
    (h : s.fetchedBuild = some b) (inside : b.base + b.bars ≤ memorySize) :
    exec .builderFetch s = .next s.endFetch := by
  change execBuilderFetch s = _
  simp only [execBuilderFetch, grant, h, if_true]
  exact if_neg (Nat.not_lt.mpr inside)

theorem exec_builderFetch_discards {s : State} (grant : s.arbiter.grant = some .builder) (h : s.fetchedBuild = none) :
    exec .builderFetch s = .next s.endFetch := by
  change execBuilderFetch s = _
  simp [execBuilderFetch, grant, h]

/-- Settles O40: the begin by the builder position against the mapping's courses, and the fetch by the build it is for. -/
theorem buildsBeginAndFetch : Obligations.BuildsBeginAndFetch := by
  unfold Obligations.BuildsBeginAndFetch
  intro s released
  have side := begun_builderSide s
  refine ⟨⟨s.begun, exec_buildBegin released, side.keepsCells, side.onlyRaises, side.frame, fun barred => ?_,
    ?_⟩, s.endFetch, fun other => ?_, fun grant => ⟨fun b building unread served inside => ?_, fun abandoned => ?_⟩⟩
  · simp [State.begun, canBegin_eq_false barred]
  · rintro g m x a rfl - mapped active running room free numbered rfl
    have raised := begun_runSide (canBegin_of_conditions active running room free numbered)
    refine ⟨fun within => ?_, fun past => ⟨fun empty => ?_, fun ended => ?_, fun goesOn => ?_⟩⟩
    · have begun := beginBuild_within mapped within
      rw [begun] at raised
      obtain ⟨-, -, queue⟩ := beginCourse_reads s
      exact ⟨raised.queue.trans queue, (beginCourse_beginsCourse running).mono raised⟩
    · exact raised.queue.trans ((beginBuild_past_queue mapped past).trans (closeIteration_queue_empty empty))
    · rw [beginBuild_ends mapped past ended] at raised
      refine ⟨raised.segments, raised.engine, raised.arbiter, ?_, fun front r tail => ?_⟩
      · rw [raised.builder, ← ended]
        rfl
      · have articleEnd := (endIteration_articleEnd s.sequence s.builder.position).trans ended
        rw [raised.queue, closeIteration_queue_tail tail, Record.close, if_pos articleEnd]
    · rw [beginBuild_closes mapped past goesOn] at raised
      obtain ⟨position, ended, queue⟩ := beginCourse_reads s.closeIteration
      refine ⟨?_, ?_, (closeIteration_beginsCourse goesOn).mono raised, fun front r tail => ?_⟩
      · rw [raised.builder, position]
        rfl
      · rw [raised.builder, ended]
        exact goesOn
      · have articleEnd := (endIteration_articleEnd s.sequence s.builder.position).trans goesOn
        rw [raised.queue, queue, closeIteration_queue_tail tail, Record.close, if_neg (by simp [articleEnd])]
  · change execBuilderFetch s = _
    simp [execBuilderFetch, other]
  · have fetched := fetchedBuild_some building unread served
    refine ⟨exec_builderFetch_read grant fetched inside, ?_⟩
    rw [endFetch_read fetched]
    exact ⟨rfl, Arbiter.next_ne_builder rfl served, rfl, rfl, rfl, rfl, readCells_length _ _ _,
      fun i hi => readCells_getD _ _ hi 0⟩
  · have none := fetchedBuild_none abandoned
    exact ⟨exec_builderFetch_discards grant none, endFetch_discards none⟩

end Sys2Proof.Machine
end

section
/-! The commands of the segment map, and OP_FILL, OP_COPY and OP_CHECK: their tests in order, and their effects. -/

namespace Sys2Proof.Machine

/-! ### Commands that do not look at their port (R158) -/

theorem judges_refused {test : Bool} {status : Status} {rest : List (Bool × Status)} {refused : Status → Prop}
    {accepted : Prop} (h : test = true) (judges : Judges ((test, status) :: rest) refused accepted) : refused status := by
  unfold Judges at judges
  rwa [if_pos h] at judges

theorem judges_passed {test : Bool} {status : Status} {rest : List (Bool × Status)} {refused : Status → Prop}
    {accepted : Prop} (h : test = false) (judges : Judges ((test, status) :: rest) refused accepted) :
    Judges rest refused accepted := by
  unfold Judges at judges
  rwa [if_neg (by simp [h])] at judges

/-- The answer of a command without data whose tests and effect do not look at its port. -/
theorem command_judges_blind {p : Port} {i : Instr} {refusal : State → Option Reply} {effect : State → State}
    {tests : List (Bool × Status)} {s : State} (h : s.accepts p)
    (hr : ∀ x, refusal (s.setPort p x) = firstRefusal tests)
    (he : ∀ x, effect (s.setPort p x) = (effect s).setPort p x) :
    Judges tests (fun status => Refuses p status s (s.command p false i (judged refusal effect fun _ => [])))
      (Accepts p (effect s) (s.command p false i (judged refusal effect fun _ => []))) := by
  have port : (effect s).port p = s.port p := by
    have same := he (s.port p)
    rw [State.setPort_same] at same
    rw [same, State.setPort_port]
  refine command_judges h (by simp) ?_ ?_ port rfl
  · rw [State.receive_eq]
    exact hr _
  · rw [State.receive_eq, State.setPort_port]
    exact he _

/-! ### The segment map (R41 to R45) -/

/-- From a cell of an extent, cells lie within it exactly when the last of them does. -/
theorem Extent.not_within_iff_last {a n : Nat} {x : Extent} (cells : 0 < n) (first : x.holds a = true) :
    (!Extent.within { first := a, count := n } x) = true ↔ ¬x.holds (a + n - 1) = true := by
  simp only [Extent.within, Extent.holds, Bool.not_eq_true', Bool.and_eq_false_iff, Bool.and_eq_true,
    decide_eq_true_eq, decide_eq_false_iff_not] at first ⊢
  omega

theorem regionHolding_holds {s : State} {a : Nat} {r : Region} (h : s.regionHolding a = some r) :
    r.range.holds a = true := by
  have found := List.find?_some h
  rw [Bool.and_eq_true] at found
  exact found.2

theorem mapEffect_notLive {g : Nat} {m : Mapping} {s : State} (h : s.segmentLive g = false) :
    mapEffect g m s = s.setSegment g (.mapped m none) := by
  simp [mapEffect, h]

theorem mapEffect_live_mapped {g : Nat} {m c : Mapping} {x : Option Mapping} {s : State}
    (live : s.segmentLive g = true) (mapped : s.segment g = .mapped c x) :
    mapEffect g m s = s.setSegment g (.mapped c (some m)) := by
  simp [mapEffect, live, mapped]

theorem setPort_setSegment (p : Port) (x : PortState) (g : Nat) (e : MapEntry) (s : State) :
    (s.setPort p x).setSegment g e = (s.setSegment g e).setPort p x := by cases p <;> rfl

theorem setPort_segmentLive (p : Port) (x : PortState) (g : Nat) (s : State) :
    (s.setPort p x).segmentLive g = s.segmentLive g := by cases p <;> rfl

theorem setPort_segment (p : Port) (x : PortState) (g : Nat) (s : State) :
    (s.setPort p x).segment g = s.segment g := by cases p <;> rfl

theorem mapEffect_setPort (g : Nat) (m : Mapping) (p : Port) (x : PortState) (s : State) :
    mapEffect g m (s.setPort p x) = (mapEffect g m s).setPort p x := by
  unfold mapEffect
  rw [setPort_segmentLive, setPort_segment]
  split <;> exact setPort_setSegment p x g _ s

theorem mapCancelEffect_setPort (g : Nat) (p : Port) (x : PortState) (s : State) :
    mapCancelEffect g (s.setPort p x) = (mapCancelEffect g s).setPort p x := by
  unfold mapCancelEffect
  rw [setPort_segment]
  split
  · rfl
  · exact setPort_setSegment p x g _ s

/-- Settles O27: R41's tests in its words, and the new mapping by whether the segment is live. -/
theorem mapMakesUnverifiedMappings : Obligations.MapMakesUnverifiedMappings := by
  intro p g base courses bars expected s h
  refine ⟨_, rfl, judges_ite ?_ (fun inside judged => ?_) (command_judges_blind h
    (refusal := mapRefusal g base courses bars) (effect := mapEffect g (newMapping base courses bars expected))
    (fun x => show mapRefusal g base courses bars (s.setPort p x) = mapRefusal g base courses bars s by cases p <;> rfl)
    fun x => mapEffect_setPort g _ p x s)⟩
  · simp [or_assoc]
  · have cells : 0 < courses * bars := Nat.mul_pos (by omega) (by omega)
    split
    · next unheld => exact judges_refused (by simp [State.regionHolding, unheld]) judged
    · next r found =>
      refine judges_ite ?_ (fun _ => judges_ite ?_ fun _ accepted => ⟨fun idle => ?_, fun c x live mapped => ?_⟩)
        (judges_passed (by simp [State.regionHolding, found]) judged)
      · simp only [State.regionHolding, found]
        exact Extent.not_within_iff_last cells (regionHolding_holds found)
      · simp [Extent.meetsAny]
      · rwa [Judges, mapEffect_notLive idle] at accepted
      · rwa [Judges, mapEffect_live_mapped live mapped] at accepted

/-- Settles O28: the tests of each rule, and the mapping dropped or the entry emptied. -/
theorem mappingsAreCancelledAndCleared : Obligations.MappingsAreCancelledAndCleared := by
  intro p g s h
  refine ⟨⟨_, rfl, ?_⟩, ⟨_, rfl, ?_⟩⟩
  · refine judges_ite ?_ (fun _ => judges_ite .rfl fun _ accepted => ?_) (command_judges_blind h
      (refusal := mapCancelRefusal g) (effect := mapCancelEffect g)
      (fun x => show mapCancelRefusal g (s.setPort p x) = mapCancelRefusal g s by cases p <;> rfl)
      fun x => mapCancelEffect_setPort g p x s)
    · simp
    · unfold Judges mapCancelEffect at accepted
      split
      · next empty => rwa [empty] at accepted
      · next mapped => rwa [mapped] at accepted
  · refine judges_ite ?_ (fun _ => judges_ite .rfl fun _ => judges_ite .rfl fun _ => id) (command_judges_blind h
      (refusal := mapClearRefusal g) (effect := mapClearEffect g)
      (fun x => show mapClearRefusal g (s.setPort p x) = mapClearRefusal g s by cases p <;> rfl)
      fun x => setPort_setSegment p x g .empty s)
    simp

/-! ### An operation starts and asks for its first chunk (R147) -/

/-- A waiting chunk goes on waiting or is granted. -/
theorem Arbiter.next_chunk {a : Arbiter} (h : a.chunkWaiting = true ∨ a.grant = some .engine) :
    a.next.chunkWaiting = true ∨ a.next.grant = some .engine := by
  by_cases granted : a.grant.isSome = true
  · rwa [Arbiter.next_granted granted]
  · have free : a.grant = none := by simpa using granted
    have waiting : a.chunkWaiting = true := h.resolve_right (by simp [free])
    rw [Arbiter.next_free free]
    repeat' split
    all_goals simp_all

/-- R147: after an ACTIVE engine with cells left has asked, a chunk waits or is in its grant. -/
theorem askChunk_asked {s : State} {op : Operation} (active : s.engine.state = .active)
    (abort : s.engine.abortRequested = false) (hop : s.engine.op = some op) (more : op.progress < op.total) :
    s.askChunk.arbiter.chunkWaiting = true ∨ s.askChunk.arbiter.grant = some .engine := by
  by_cases granted : s.arbiter.grant = some .engine
  · exact .inr (by simp [State.askChunk, granted])
  · exact .inl (by simp [State.askChunk, active, abort, hop, more, granted])

theorem askChunk_setPort (p : Port) (x : PortState) (s : State) :
    (s.setPort p x).askChunk = s.askChunk.setPort p x := by
  unfold State.askChunk
  rw [State.setPort_engine, State.setPort_arbiter]
  dsimp only
  split <;> split <;> cases p <;> rfl

/-- The engine takes up an operation and asks for its first chunk. -/
def State.launch (e : Engine) (s : State) : State := ({ s with engine := e } : State).askChunk.arbitrate

theorem launch_eq (e : Engine) (s : State) :
    s.launch e = { s with engine := e, arbiter := (s.launch e).arbiter } := by
  unfold State.launch
  rw [askChunk_eq]
  rfl

theorem launch_setPort (e : Engine) (p : Port) (x : PortState) (s : State) :
    (s.setPort p x).launch e = (s.launch e).setPort p x := by
  have engine : ({ s.setPort p x with engine := e } : State) = State.setPort p x { s with engine := e } := by
    cases p <;> rfl
  unfold State.launch
  rw [engine, askChunk_setPort]
  cases p <;> rfl

/-- R147: a launched operation with cells to do has its first chunk waiting or in its grant. -/
theorem launch_asked {e : Engine} {op : Operation} (s : State) (active : e.state = .active)
    (abort : e.abortRequested = false) (hop : e.op = some op) (more : op.progress < op.total) :
    (s.launch e).arbiter.chunkWaiting = true ∨ (s.launch e).arbiter.grant = some .engine :=
  Arbiter.next_chunk (askChunk_asked (s := { s with engine := e }) active abort hop more)

/-- What an accepted command that launches an operation leaves. -/
theorem launch_accepted {e : Engine} {p : Port} {s t : State} (h : Accepts p (s.launch e) t) :
    t.engine = e ∧ t.segments = s.segments ∧ t.arbiter = (s.launch e).arbiter ∧
      Accepts p { s with engine := t.engine, arbiter := t.arbiter } t := by
  obtain ⟨only, -⟩ := id h
  have engine : t.engine = e := by rw [only, State.setPort_engine, launch_eq]
  have segments : t.segments = s.segments := by rw [only, State.setPort_segments, launch_eq]
  have arbiter : t.arbiter = (s.launch e).arbiter := by rw [only, State.setPort_arbiter]
  refine ⟨engine, segments, arbiter, ?_⟩
  rwa [engine, arbiter, ← launch_eq]

/-! ### OP_FILL and OP_COPY (R48, R148, R149) -/

theorem segment_unverify (e : Extent) (s : State) (g : Nat) :
    (s.unverify e).segment g = (s.segment g).unverifyIn e := by
  unfold State.segment State.unverify
  rw [List.getD_eq_getElem?_getD, List.getD_eq_getElem?_getD, List.getElem?_map]
  cases s.segments[g]? <;> rfl

/-- The effect of OP_FILL and OP_COPY: the verified flags cleared in the destination, and the operation launched. -/
def State.overwrite (target : Extent) (kind : OpKind) (p : Port) (total : Nat) (extents : List Extent) (s : State) :
    State :=
  (s.unverify target).launch (s.engine.start kind p total extents)

theorem opFillEffect_eq (p : Port) (n : Nat) (v : Cell) (s : State) : opFillEffect p n v s =
    s.overwrite (s.region n).range (.fill n v) p (s.region n).size [(s.region n).range] := rfl

theorem opCopyEffect_eq (p : Port) (src dst n : Nat) (s : State) : opCopyEffect p src dst n s =
    s.overwrite { first := dst, count := n } (.copy src dst) p n
      [{ first := src, count := n }, { first := dst, count := n }] := rfl

theorem overwrite_setPort (target : Extent) (kind : OpKind) (p : Port) (total : Nat) (extents : List Extent)
    (q : Port) (x : PortState) (s : State) :
    (s.setPort q x).overwrite target kind p total extents = (s.overwrite target kind p total extents).setPort q x := by
  unfold State.overwrite
  rw [← launch_setPort, State.setPort_engine]
  cases q <;> rfl

/-- An accepted OP_FILL or OP_COPY: the engine's record, the verified flags and the first chunk (R48, R147). -/
theorem overwrite_accepted {target : Extent} {kind : OpKind} {p : Port} {total : Nat} {extents : List Extent}
    {s t : State} (h : Accepts p (s.overwrite target kind p total extents) t) :
    Accepts p { s with engine := t.engine, segments := t.segments, arbiter := t.arbiter } t ∧
      t.busyExtents = extents ∧ t.engine.state = .active ∧ t.engine.abortRequested = false ∧
      t.engine.result = .none ∧ t.engine.computed = none ∧
      t.engine.op = some { kind := kind, owner := some p, total := total, progress := 0 } ∧
      (∀ g, t.segment g = (s.segment g).unverifyIn target) ∧
      (0 < total → t.arbiter.chunkWaiting = true ∨ t.arbiter.grant = some .engine) := by
  obtain ⟨engine, segments, arbiter, accepted⟩ := launch_accepted h
  have flags (g : Nat) : t.segment g = (s.segment g).unverifyIn target := by
    rw [← segment_unverify]
    exact congrArg (·.getD g .empty) segments
  refine ⟨by rw [segments]; exact accepted, by simp [State.busyExtents, engine, Engine.start], ?_⟩
  rw [engine, arbiter]
  exact ⟨rfl, rfl, rfl, rfl, rfl, flags, fun cells => launch_asked _ rfl rfl rfl cells⟩

/-- R149's BAD_VALUE in its words. -/
theorem copyBadValue_iff (src dst n : Nat) :
    (n == 0 || 65536 < n || 1048575 < src || 1048575 < dst || 1048576 < src + n || 1048576 < dst + n ||
        Extent.meets { first := src, count := n } { first := dst, count := n }) = true ↔
      n = 0 ∨ 65536 < n ∨ 1048575 < src ∨ 1048575 < dst ∨ 1048576 < src + n ∨ 1048576 < dst + n ∨
        (src < dst + n ∧ dst < src + n) := by
  simp only [Extent.meets, Bool.or_eq_true, Bool.and_eq_true, beq_iff_eq, decide_eq_true_eq]
  omega

/-! ### OP_CHECK (R150) -/

theorem slot_slotNamed (e : MapEntry) (w : Nat) :
    e.slot (slotNamed w) = if w = 0 then e.current else e.pending := by
  unfold slotNamed
  split <;> rfl

/-- The engine that an accepted OP_CHECK of the mapping `m` leaves (R150). -/
def Engine.startCheck (p : Port) (g w : Nat) (m : Mapping) (e : Engine) : Engine :=
  { e.start (.check g (slotNamed w) m) p (m.courses * m.bars) [m.extent] with
    register := 0xFFFF#16, bound := some (slotNamed w) }

theorem opCheckEffect_some {p : Port} {g w : Nat} {m : Mapping} {s : State}
    (h : (s.segment g).slot (slotNamed w) = some m) :
    opCheckEffect p g w s = s.launch (s.engine.startCheck p g w m) := by
  unfold opCheckEffect
  rw [h]
  rfl

theorem opCheckEffect_setPort (p : Port) (g w : Nat) (q : Port) (x : PortState) (s : State) :
    opCheckEffect p g w (s.setPort q x) = (opCheckEffect p g w s).setPort q x := by
  have segment := setPort_segment q x g s
  cases h : (s.segment g).slot (slotNamed w) with
  | none => simp [opCheckEffect, segment, h]
  | some m => rw [opCheckEffect_some h, opCheckEffect_some (segment ▸ h), State.setPort_engine, launch_setPort]

/-- Settles O45: the tests of each rule in its words, and the operation launched. -/
theorem operationsStart : Obligations.OperationsStart := by
  intro p s h
  refine ⟨fun n v => ⟨_, rfl, ?_⟩, fun src dst n => ⟨_, rfl, ?_⟩, fun g w => ⟨_, rfl, ?_⟩⟩
  · refine judges_ite ?_ (fun _ => judges_ite ?_ fun _ => judges_ite ?_ fun _ => judges_ite ?_ fun _ =>
        judges_ite ?_ fun _ accepted => ?_)
      (command_judges_blind h (refusal := opFillRefusal p n) (effect := opFillEffect p n v)
        (fun x => show opFillRefusal p n (s.setPort p x) = opFillRefusal p n s by cases p <;> rfl) fun x => ?_)
    · simp
    · simp
    · simp
    · exact Region.lockedAgainst_iff _ p
    · simp [Extent.meetsAny]
    · rw [Judges, opFillEffect_eq] at accepted
      exact overwrite_accepted accepted
    · rw [opFillEffect_eq, overwrite_setPort]
      cases p <;> rfl
  · refine judges_ite (copyBadValue_iff src dst n) (fun inside => judges_ite ?_ fun _ judged => ?_)
      (command_judges_blind h (refusal := opCopyRefusal p src dst n) (effect := opCopyEffect p src dst n)
        (fun x => show opCopyRefusal p src dst n (s.setPort p x) = opCopyRefusal p src dst n s by cases p <;> rfl)
        fun x => overwrite_setPort _ _ p n _ p x s)
    · simp
    · have cells : 0 < n := by omega
      split
      · next unheld => exact judges_refused (by simp [State.regionHolding, unheld]) judged
      · next r found =>
        refine judges_ite ?_ (fun _ => judges_ite ?_ fun _ => judges_ite ?_ fun _ accepted => ?_)
          (judges_passed (by simp [State.regionHolding, found]) judged)
        · simp only [State.regionHolding, found]
          exact Extent.not_within_iff_last cells (regionHolding_holds found)
        · simp only [State.regionHolding, found]
          exact Region.lockedAgainst_iff r p
        · simp [Extent.meetsAny]
        · rw [Judges, opCopyEffect_eq] at accepted
          obtain ⟨only, extents, active, abort, result, computed, op, flags, asked⟩ := overwrite_accepted accepted
          exact ⟨only, extents, active, abort, result, computed, op, flags, asked cells⟩
  · refine judges_ite ?_ (fun _ => judges_ite ?_ fun _ judged => ?_)
      (command_judges_blind h (refusal := opCheckRefusal g w) (effect := opCheckEffect p g w)
        (fun x => show opCheckRefusal g w (s.setPort p x) = opCheckRefusal g w s by cases p <;> rfl)
        fun x => opCheckEffect_setPort p g w p x s)
    · simp
    · simp
    · rw [← slot_slotNamed]
      split
      · next unmapped => exact judges_refused (by simp [unmapped]) judged
      · next m mapped =>
        have accepted := judges_passed (by simp [mapped]) judged
        rw [Judges, opCheckEffect_some mapped] at accepted
        obtain ⟨engine, -, arbiter, only⟩ := launch_accepted accepted
        refine ⟨only, by simp [State.busyExtents, engine, Engine.startCheck, Engine.start, Mapping.extent], ?_⟩
        rw [engine, arbiter]
        exact ⟨rfl, rfl, rfl, rfl, rfl, rfl, rfl, fun cells => launch_asked s rfl rfl rfl cells⟩

end Sys2Proof.Machine
end

section
/-! The commands of the sequence table and the advance of the builder position through the article. -/

namespace Sys2Proof.Machine

/-! ### The advance of the builder position (R61) -/

/-- R61, step 1: inside the segment the next course follows. -/
theorem advance_inside {courses : Nat} {p : Position} (t : SequenceTable) (h : p.course + 1 < courses) :
    t.advance courses p =
      { position := { p with course := p.course + 1 }, ended := false, stopMark := false, articleEnd := false } :=
  if_pos h

theorem advance_endIteration {courses : Nat} {p : Position} (t : SequenceTable) (h : ¬p.course + 1 < courses) :
    t.advance courses p = t.endIteration p :=
  if_neg h

/-- The entry that a position names in a table. -/
def SequenceTable.entryAt (t : SequenceTable) (p : Position) : SeqEntry := t.entries.getD p.entry SeqEntry.initial

theorem endIteration_repeats {t : SequenceTable} {p : Position} (h : p.iteration + 1 < (t.entryAt p).repeats) :
    t.endIteration p =
      { position := { entry := p.entry, iteration := p.iteration + 1, course := 0 }, ended := false,
        stopMark := (t.entryAt p).markEach, articleEnd := false } :=
  if_pos h

theorem endIteration_nextEntry {t : SequenceTable} {p : Position} (h : ¬p.iteration + 1 < (t.entryAt p).repeats)
    (inside : p.entry + 1 < t.length) : t.endIteration p =
      { position := { entry := p.entry + 1, iteration := 0, course := 0 }, ended := false,
        stopMark := (t.entryAt p).markEach || (t.entryAt p).markEnd, articleEnd := false } :=
  (if_neg h).trans (if_pos inside)

/-- Past the last entry the end mode decides: the article begins anew, or it ends. -/
theorem endIteration_tableEnds {t : SequenceTable} {p : Position} (h : ¬p.iteration + 1 < (t.entryAt p).repeats)
    (last : ¬p.entry + 1 < t.length) : t.endIteration p =
      { position := { entry := if t.endMode = .wrap then 0 else t.length, iteration := 0, course := 0 },
        ended := decide (t.endMode = .stop), stopMark := (t.entryAt p).markEach || (t.entryAt p).markEnd,
        articleEnd := decide (t.endMode = .stop) } := by
  refine (if_neg h).trans ((if_neg last).trans ?_)
  unfold SequenceTable.entryAt
  cases t.endMode <;> rfl

/-- Settles O31, by the step of R61 at which the advance stops. -/
theorem builderWalksTheArticle : Obligations.BuilderWalksTheArticle := by
  intro t k p e iterationEnds entryEnds tableEnds
  have entry : t.entryAt p = e := rfl
  by_cases inside : p.course + 1 < k
  · rw [advance_inside t inside]
    simp [iterationEnds, entryEnds, tableEnds, inside]
  rw [advance_endIteration t inside]
  have past : k ≤ p.course + 1 := Nat.le_of_not_lt inside
  by_cases repeats : p.iteration + 1 < e.repeats
  · rw [endIteration_repeats repeats]
    simp [iterationEnds, entryEnds, tableEnds, past, repeats, entry]
  by_cases next : p.entry + 1 < t.length
  · rw [endIteration_nextEntry repeats next]
    simp [iterationEnds, entryEnds, tableEnds, past, repeats, next, entry]
  · rw [endIteration_tableEnds repeats next]
    cases mode : t.endMode <;> simp [iterationEnds, entryEnds, tableEnds, past, repeats, next, entry]

/-! ### The commands of the sequence table (R56, R57, R65, R66) -/

theorem setPort_setSeqEntry (p : Port) (x : PortState) (n : Nat) (e : SeqEntry) (s : State) :
    (s.setPort p x).setSeqEntry n e = (s.setSeqEntry n e).setPort p x := by cases p <;> rfl

/-- The two flags of SEQ_WRITE, as numbers. -/
theorem seqWriteEffect_eq {flags : Nat} (e g n : Nat) (s : State) (h : flags ≤ 3) : seqWriteEffect e g n flags s =
    s.setSeqEntry e { segment := g, repeats := n, markEach := flags % 2 == 1, markEnd := flags / 2 == 1 } := by
  have bits : flags.testBit 0 = (flags % 2 == 1) ∧ flags.testBit 1 = (flags / 2 == 1) := by
    interval_cases flags <;> decide
  rw [seqWriteEffect, bits.1, bits.2]

/-- Settles O29: the tests of each rule in its words, and the entry or the form written. -/
theorem sequenceIsWrittenInHalted : Obligations.SequenceIsWrittenInHalted := by
  intro p e g n flags mode s takes
  refine ⟨⟨_, rfl, starting_or takes fun h => ?_⟩, ⟨_, rfl, starting_or takes fun h => ?_⟩⟩
  · refine judges_ite ?_ (fun _ => judges_ite ?_ fun inside accepted => ?_) (command_judges_blind h
      (refusal := seqWriteRefusal e g n flags) (effect := seqWriteEffect e g n flags)
      (fun x => show seqWriteRefusal e g n flags (s.setPort p x) = seqWriteRefusal e g n flags s by cases p <;> rfl)
      fun x => setPort_setSeqEntry p x e _ s)
    · simp
    · simp [or_assoc]
    · rwa [Judges, seqWriteEffect_eq e g n s (by omega)] at accepted
  · refine judges_ite ?_ (fun _ => judges_ite ?_ fun _ => id) (command_judges_blind h
      (refusal := seqFormRefusal n mode) (effect := seqFormEffect n mode)
      (fun x => show seqFormRefusal n mode (s.setPort p x) = seqFormRefusal n mode s by cases p <;> rfl)
      fun x => by cases p <;> rfl)
    · simp
    · simp

/-- R65, R66: SEQ_REPEAT's tests, the two ways of being PASSED apart. -/
theorem seqRepeatRefusal_eq (e n : Nat) (s : State) : seqRepeatRefusal e n s = firstRefusal
    [(63 < e || n == 0 || 4095 < n, .badValue),
     (s.run.state != .halted && s.sequence.length ≤ e, .badValue),
     (s.run.state != .halted && e < s.builderEntry, .passed),
     (s.run.state != .halted && (e == s.builderEntry && n ≤ s.builder.position.iteration), .passed)] := by
  unfold seqRepeatRefusal
  simp only [firstRefusal, Bool.and_or_distrib_left, Bool.or_eq_true]
  split_ifs <;> simp_all

/-- Settles O30: the tests against the table and the builder position in their words, and the count written. -/
theorem repeatCountsChangeAheadOfTheBuilder : Obligations.RepeatCountsChangeAheadOfTheBuilder := by
  intro p e n s takes
  refine ⟨_, rfl, starting_or takes fun h => ?_⟩
  refine judges_ite ?_ (fun _ => judges_ite ?_ fun _ => judges_ite ?_ fun _ => judges_ite ?_ fun _ => id)
    (command_judges_blind h (refusal := seqRepeatRefusal e n) (effect := seqRepeatEffect e n)
      (fun x => (show seqRepeatRefusal e n (s.setPort p x) = seqRepeatRefusal e n s by cases p <;> rfl).trans
        (seqRepeatRefusal_eq e n s))
      fun x => by cases p <;> rfl)
  · simp [or_assoc]
  · simp
  · simp only [Bool.and_eq_true, bne_iff_ne, decide_eq_true_eq]
    rfl
  · simp [State.builderEntry]

end Sys2Proof.Machine
end

section
/-! APPEND: the record that joins the queue, the record that it finalizes, and the placement that has waited for it. -/

namespace Sys2Proof.Machine

/-! ### The record that the new one follows (R75) -/

theorem predecessor_of_tail {s : State} {q : Record} (h : s.queue.records.getLast? = some q) :
    s.predecessor = some q := by simp [State.predecessor, h]

theorem predecessor_of_empty {s : State} (h : s.queue.records = []) : s.predecessor = s.queue.history.head? := by
  simp [State.predecessor, h]

theorem predecessor_none_iff {s : State} :
    s.predecessor = none ↔ s.queue.records = [] ∧ s.queue.history = [] := by
  cases tail : s.queue.records.getLast? with
  | some q =>
    have filled : s.queue.records ≠ [] := fun empty => by simp [empty] at tail
    simp [predecessor_of_tail tail, filled]
  | none =>
    have empty := List.getLast?_eq_none_iff.mp tail
    simp [predecessor_of_empty empty, empty]

/-! ### The pairs (R72, R73, R74) -/

/-- R72: an enabled bar that the mapping reaches takes its positions from its cell. -/
theorem coursePair_fetched {b : Build} {s : State} {n : Nat} (enabled : (s.bar n).enabled = true) (reached : n < b.bars) :
    s.coursePair b n =
      ({ p1 := min ((s.builder.buffer.getD n 0).toNat % 256) (s.bar n).limit
         p2 := min ((s.builder.buffer.getD n 0).toNat / 256) (s.bar n).limit },
        (s.bar n).limit < (s.builder.buffer.getD n 0).toNat % 256 ||
          (s.bar n).limit < (s.builder.buffer.getD n 0).toNat / 256) := by
  simp [State.coursePair, enabled, reached]

theorem not_fetched {b : Build} {s : State} {n : Nat} (h : (s.bar n).enabled = false ∨ b.bars ≤ n) :
    ((s.bar n).enabled && decide (n < b.bars)) = false := by
  rcases h with disabled | beyond
  · simp [disabled]
  · simp [Nat.not_lt.mpr beyond]

/-- R73: another bar stays where the predecessor leaves it. -/
theorem coursePair_follows {b : Build} {s : State} {n : Nat} {q : Record}
    (h : (s.bar n).enabled = false ∨ b.bars ≤ n) (pred : s.predecessor = some q) :
    s.coursePair b n = ({ p1 := (q.pair n).p2, p2 := (q.pair n).p2 }, false) := by
  simp [State.coursePair, not_fetched h, pred]

/-- R73, R74: without a predecessor it stays where it stands. -/
theorem coursePair_stands {b : Build} {s : State} {n : Nat} (h : (s.bar n).enabled = false ∨ b.bars ≤ n)
    (pred : s.predecessor = none) : s.coursePair b n =
      (⟨min ((s.bar n).known.getD 0) (s.bar n).limit, min ((s.bar n).known.getD 0) (s.bar n).limit⟩,
        decide ((s.bar n).limit < (s.bar n).known.getD 0)) := by
  simp [State.coursePair, not_fetched h, pred]

/-- R74: which bars have a position clamped. -/
theorem coursePair_clamped_iff {b : Build} {s : State} {n : Nat} : (s.coursePair b n).2 = true ↔
    ((s.bar n).enabled = true ∧ n < b.bars ∧
        ((s.bar n).limit < (s.builder.buffer.getD n 0).toNat % 256 ∨
          (s.bar n).limit < (s.builder.buffer.getD n 0).toNat / 256)) ∨
      (((s.bar n).enabled = false ∨ b.bars ≤ n) ∧ s.queue.records = [] ∧ s.queue.history = [] ∧
        (s.bar n).limit < (s.bar n).known.getD 0) := by
  by_cases fetched : (s.bar n).enabled = true ∧ n < b.bars
  · obtain ⟨enabled, reached⟩ := fetched
    rw [coursePair_fetched enabled reached]
    simp [enabled, reached, Nat.not_le.mpr reached]
  · have stays : (s.bar n).enabled = false ∨ b.bars ≤ n := by
      rcases not_and_or.mp fetched with disabled | beyond
      · exact .inl (eq_false_of_ne_true disabled)
      · exact .inr (Nat.le_of_not_lt beyond)
    rw [or_iff_right fun ⟨enabled, reached, _⟩ => fetched ⟨enabled, reached⟩, and_iff_right stays,
      ← and_assoc, ← predecessor_none_iff]
    cases pred : s.predecessor with
    | some q => simp [coursePair_follows stays pred]
    | none => simp [coursePair_stands stays pred]

/-! ### The new record -/

theorem newRecord_pair {b : Build} {s : State} {n : Nat} (hn : n < 48) :
    (s.newRecord b).pair n = (s.coursePair b n).1 := by
  simp [State.newRecord, Record.pair, List.getD_eq_getElem?_getD, hn]

theorem newRecord_clamped_iff {b : Build} {s : State} :
    (s.newRecord b).clamped = true ↔ ∃ n, n < 48 ∧ (s.coursePair b n).2 = true := by
  simp [State.newRecord]

theorem newRecord_number {b : Build} {s : State} {q : Record} (h : s.predecessor = some q) :
    (s.newRecord b).number = q.number + 1 := by
  simp [State.newRecord, h]

theorem newRecord_number_first {b : Build} {s : State} (h : s.predecessor = none) : (s.newRecord b).number = 0 := by
  simp [State.newRecord, h]

/-! ### The record that an append finalizes (R85, R97) -/

theorem finalize_eq_finalized {s : State} {q : Record} (r : Record) (h : q.articleEnd = false) :
    s.finalize r.pairs q = q.finalized s r := by
  simp [State.finalize, h, Record.finalized]

theorem finalizedQueue_tail {s : State} {front : List Record} {q : Record} (next : List Pair)
    (h : s.queue.records = front ++ [q]) :
    s.finalizedQueue next = { s.queue with records := front ++ [s.finalize next q] } := by
  rw [← mapLast_concat (s.finalize next), ← h]
  unfold State.finalizedQueue
  split
  · rfl
  · next empty => simp [empty] at h

theorem finalizedQueue_initial {s : State} (next : List Pair) (h : s.queue.records = [])
    (history : s.queue.history = []) : s.finalizedQueue next = s.queue := by
  simp [State.finalizedQueue, h, history]

/-- With the queue empty the newest history record is finalized while it is OPEN. -/
theorem finalizedQueue_history {s : State} {q : Record} {rest : List Record} (next : List Pair)
    (h : s.queue.records = []) (history : s.queue.history = q :: rest) : s.finalizedQueue next =
      { s.queue with history := (if q.isOpen then s.finalize next q else q) :: rest } := by
  simp [State.finalizedQueue, h, history]

theorem finalizedQueue_counts (next : List Pair) (s : State) :
    (s.finalizedQueue next).backlog = s.queue.backlog ∧ (s.finalizedQueue next).overrun = s.queue.overrun := by
  unfold State.finalizedQueue
  split
  · exact ⟨rfl, rfl⟩
  · split <;> exact ⟨rfl, rfl⟩

theorem toFinalize_eq {s : State} {q : Record} (h : s.queue.records.getLast? = some q ∨
    (s.queue.records = [] ∧ s.queue.history.head? = some q ∧ q.isOpen = true)) : s.toFinalize = some q := by
  rcases h with tail | ⟨empty, newest, isOpen⟩
  · simp [State.toFinalize, tail]
  · simp [State.toFinalize, empty, newest, isOpen]

/-! ### The queue with the record appended (R83) -/

/-- The queue block after an append: its tail finalized, and the new record behind it. -/
def State.appendedQueue (b : Build) (s : State) : CourseQueue :=
  { s.finalizedQueue (s.newRecord b).pairs with
    records := (s.finalizedQueue (s.newRecord b).pairs).records ++ [s.newRecord b] }

theorem appendedQueue_tail {b : Build} {s : State} {front : List Record} {q : Record}
    (h : s.queue.records = front ++ [q]) : (s.appendedQueue b).history = s.queue.history ∧
      (q.articleEnd = false →
        (s.appendedQueue b).records = front ++ [q.finalized s (s.newRecord b), s.newRecord b]) := by
  unfold State.appendedQueue
  rw [finalizedQueue_tail _ h]
  exact ⟨rfl, fun goesOn => by simp [finalize_eq_finalized _ goesOn]⟩

theorem appendedQueue_empty {b : Build} {s : State} (h : s.queue.records = []) :
    (s.appendedQueue b).records = [s.newRecord b] ∧
      (s.queue.history = [] → (s.appendedQueue b).history = []) ∧
      ∀ q rest, s.queue.history = q :: rest →
        (q.isOpen = false → (s.appendedQueue b).history = s.queue.history) ∧
        (q.isOpen = true → q.articleEnd = false →
          (s.appendedQueue b).history = q.finalized s (s.newRecord b) :: rest) := by
  unfold State.appendedQueue
  cases history : s.queue.history with
  | nil =>
    rw [finalizedQueue_initial _ h history]
    exact ⟨by simp [h], fun _ => history, nofun⟩
  | cons q rest =>
    rw [finalizedQueue_history _ h history]
    refine ⟨by simp [h], nofun, fun _ _ same => ?_⟩
    cases same
    exact ⟨fun closed => by simp [closed], fun isOpen goesOn => by simp [isOpen, finalize_eq_finalized _ goesOn]⟩

/-- The part with the record appended and the builder position advanced. -/
def State.appended (b : Build) (s : State) : State :=
  { s with
    queue := s.appendedQueue b
    builder := { position := s.buildAdvance.position, ended := s.buildAdvance.ended, build := none, buffer := [] } }

/-- That part with the events of the record raised. -/
def State.announced (b : Build) (s : State) : State :=
  State.raiseIf ((s.newRecord b).longShog || s.finalizeRaises (s.newRecord b).pairs) .longShog
    (State.raiseIf (s.newRecord b).clamped .clamped (s.appended b))

theorem appendBuild_eq (b : Build) (s : State) : s.appendBuild b = (s.announced b).tryPlacement := rfl

theorem appended_announced (b : Build) (s : State) : RunSide (s.appended b) (s.announced b) :=
  (raiseIf_runSide _ _ _).trans (raiseIf_runSide _ _ _)

/-- The events touch neither run control nor the bars and lanes. -/
theorem announced_reads (b : Build) (s : State) : (s.announced b).run = s.run ∧ (s.announced b).bars = s.bars ∧
    (s.announced b).lanes = s.lanes := by
  refine ⟨?_, ?_, ?_⟩ <;> simp [State.announced, State.appended]

/-! ### The placement that waits for the record (R133) -/

theorem tryPlacement_of_not_placing {s : State} (h : s.run.state ≠ .placing) : s.tryPlacement = s := by
  unfold State.tryPlacement
  split
  · contradiction
  · rfl

theorem tryPlacement_of_targets {s : State} {zones : List Zone} {targets : List (Option Nat)}
    (h : s.run.placement = some { zones := zones, targets := some targets }) : s.tryPlacement = s := by
  unfold State.tryPlacement
  rw [h]
  split
  · next placement => simp at placement
  · rfl

/-- An order is read from its bar and the lanes, in the state before it too. -/
theorem Ordered.congr_before {b : Nat} {o : Order} {s u t : State} (h : Ordered b o s t) (bar : u.bar b = s.bar b)
    (lane : ∀ g, u.lane g = s.lane g) : Ordered b o u t := by
  unfold Ordered at h ⊢
  simpa only [bar, lane] using h

/-- A placement is read from the bars, the lanes, the source and run control, and PLACED is an event. -/
theorem PlacesBars.congr {zones : List Zone} {target : Nat → Option Nat} {run : RunControl} {s s' t t' : State}
    (h : PlacesBars zones target run s t) (bars : s'.bars = s.bars) (lanes : s'.lanes = s.lanes)
    (source : s'.tracker.source = s.tracker.source) (side : RunSide t t') (run' : t'.run = t.run)
    (bars' : t'.bars = t.bars) (lanes' : t'.lanes = t.lanes) : PlacesBars zones target run s' t' := by
  have bar (n : Nat) : s'.bar n = s.bar n := by simp only [State.bar, bars]
  have lane (g : Nat) : s'.lane g = s.lane g := by simp only [State.lane, lanes]
  have bar' (n : Nat) : t'.bar n = t.bar n := by simp only [State.bar, bars']
  have lane' (g : Nat) : t'.lane g = t.lane g := by simp only [State.lane, lanes']
  unfold PlacesBars
  simp only [bar, lane, bar', bars, lanes, source, run', bars', lanes']
  obtain ⟨waits, places⟩ := h
  refine ⟨waits, fun targets => ?_⟩
  obtain ⟨ends, runs, disabled, orders⟩ := places targets
  refine ⟨ends.imp_left fun ⟨running, shows⟩ => ⟨running, shows.mono side.ports⟩, runs, disabled,
    fun n x hn enabled hx => ?_⟩
  obtain ⟨stays, moves⟩ := orders n x hn enabled hx
  refine ⟨stays, fun elsewhere active => ?_⟩
  obtain ⟨dry, wet⟩ := moves elsewhere active
  exact ⟨dry, fun encoder inside sent =>
    ((wet encoder inside sent).congr_before (bar n) lane).congr_after (bar' n) lane'⟩

theorem announced_placesBars {b : Build} {s : State} {zones : List Zone} {target : Nat → Option Nat}
    (placing : s.run.state = .placing) (placement : s.run.placement = some { zones := zones, targets := none })
    (ht : ∀ n, target n = if 0 < s.queue.backlog then (s.appendedQueue b).records.head?.map fun q => (q.pair n).p1
      else (s.appendedQueue b).zoneTarget (zones.getD (s.bar n).lane .z0) n) :
    PlacesBars zones target s.run (s.announced b) (s.announced b).tryPlacement := by
  obtain ⟨run, bars, -⟩ := announced_reads b s
  have queue : (s.announced b).queue = s.appendedQueue b := (appended_announced b s).queue
  have backlog : (s.appendedQueue b).backlog = s.queue.backlog := (finalizedQueue_counts _ s).1
  have asks : Asks zones (s.announced b) := ⟨by rw [run]; exact placing, by rw [run]; exact placement⟩
  rw [← run]
  refine tryPlacement_placesBars asks fun n _ _ => ?_
  rw [ht, State.placementTarget, queue, backlog, State.bar, bars]
  rfl

/-! ### APPEND -/

/-- The state that APPEND leaves. -/
def State.afterAppend (b : Build) (s : State) : State := s.watchCeiling (State.appendBuild b)

theorem exec_append {s : State} {b : Build} (released : s.resetHeld = false) (building : s.builder.build = some b)
    (fetched : b.fetched = true) : exec .append s = .next (s.afterAppend b) := by
  change execAppend s = _
  simp [execAppend, State.unlessHeld, released, State.readyBuild, building, fetched, State.afterAppend]

theorem announced_afterAppend (b : Build) (s : State) : RunSide (s.announced b) (s.afterAppend b) :=
  (tryPlacement_runSide _).trans (raiseIf_runSide _ _ _)

theorem appended_afterAppend (b : Build) (s : State) : RunSide (s.appended b) (s.afterAppend b) :=
  (appended_announced b s).trans (announced_afterAppend b s)

theorem afterAppend_shaftSide (b : Build) (s : State) : ShaftSide s (s.afterAppend b) :=
  (ShaftSide.update s s.tracker (s.appendedQueue b) _ s.arbiter s.run).trans (appended_afterAppend b s).shaftSide

/-- Where no placement asks for its targets, run control, the bars and the lanes stand. -/
theorem afterAppend_stands {b : Build} {s : State} (h : (s.announced b).tryPlacement = s.announced b) :
    (s.afterAppend b).run = s.run ∧ (s.afterAppend b).bars = s.bars ∧ (s.afterAppend b).lanes = s.lanes := by
  have reads := announced_reads b s
  rw [State.afterAppend, State.watchCeiling, appendBuild_eq, h]
  simpa using reads

/-- R82, R84: CLAMPED, and LONG_SHOG for the new record or the one that it finalizes. -/
theorem afterAppend_shows (b : Build) (s : State) :
    ((s.newRecord b).clamped = true → BothShow .clamped (s.afterAppend b)) ∧
    ((s.newRecord b).longShog = true ∨ s.finalizeRaises (s.newRecord b).pairs = true →
      BothShow .longShog (s.afterAppend b)) := by
  have ports := (announced_afterAppend b s).ports
  refine ⟨fun clamped => BothShow.mono ?_ ports, fun raised => BothShow.mono ?_ ports⟩
  · exact (bothShow_raiseIf clamped _ _).mono (raiseIf_runSide _ _ _).ports
  · exact bothShow_raiseIf (by simpa using raised) _ _

/-- R134: a placement that asks for its targets places the bars as the new record allows. -/
theorem afterAppend_placesBars {b : Build} {s : State} {zones : List Zone} {target : Nat → Option Nat}
    (placing : s.run.state = .placing) (placement : s.run.placement = some { zones := zones, targets := none })
    (ht : ∀ n, target n = if 0 < s.queue.backlog then (s.appendedQueue b).records.head?.map fun q => (q.pair n).p1
      else (s.appendedQueue b).zoneTarget (zones.getD (s.bar n).lane .z0) n) :
    PlacesBars zones target s.run s (s.afterAppend b) := by
  obtain ⟨-, bars, lanes⟩ := announced_reads b s
  refine (announced_placesBars placing placement ht).congr bars.symm lanes.symm ?_ (raiseIf_runSide _ _ _)
    (State.raiseIf_run _ _ _) (State.raiseIf_bars _ _ _) (State.raiseIf_lanes _ _ _)
  rw [(appended_announced b s).tracker]
  rfl

/-- Settles O41: the record appended and the one it finalizes, then the placement by whether it asks for its targets. -/
theorem appendsJoinTheQueue : Obligations.AppendsJoinTheQueue := by
  unfold Obligations.AppendsJoinTheQueue
  intro b s released building fetched _
  have side := appended_afterAppend b s
  have queue : (s.afterAppend b).queue = s.appendedQueue b := side.queue
  obtain ⟨backlog, overrun⟩ := finalizedQueue_counts (s.newRecord b).pairs s
  obtain ⟨clamped, longShog⟩ := afterAppend_shows b s
  have stands (h : s.run.state ≠ .placing) := afterAppend_stands (b := b)
    (tryPlacement_of_not_placing (by rw [(announced_reads b s).1]; exact h))
  refine ⟨s.afterAppend b, s.newRecord b, exec_append released building fetched, (afterAppend_shaftSide b s).only,
    side.tracker, side.arbiter, stands, fun a ha => ?_, rfl, rfl, rfl, rfl, rfl, by simp [State.newRecord], rfl, rfl, rfl,
    fun n hn enabled reached => ?_, fun n hn stays x hx => ?_, ?_, clamped, fun h => longShog (.inl h), ?_, ?_,
    fun front q tail => ?_, fun empty => ?_, fun q goesOn short long finalizes => ?_, fun running falls => ?_,
    fun z targets placing placement => ?_, fun z target placing placement ht => ?_⟩
  · subst ha
    exact ⟨side.builder, rfl, rfl, rfl⟩
  · rw [newRecord_pair hn, coursePair_fetched enabled reached]
  · rw [newRecord_pair hn]
    split at hx
    · next q tail => rw [coursePair_follows stays (predecessor_of_tail tail), hx]
    · next none =>
      have empty := List.getLast?_eq_none_iff.mp none
      split at hx
      · next q newest => rw [coursePair_follows stays ((predecessor_of_empty empty).trans newest), hx]
      · next none => rw [coursePair_stands stays ((predecessor_of_empty empty).trans none), hx]
  · simp only [newRecord_clamped_iff, coursePair_clamped_iff]
  · rw [queue]
    exact backlog
  · rw [queue]
    exact overrun
  · rw [queue]
    exact ⟨newRecord_number (predecessor_of_tail (by simp [tail])), appendedQueue_tail tail⟩
  · obtain ⟨records, first, newest⟩ := appendedQueue_empty (b := b) empty
    rw [queue]
    refine ⟨records, fun none => ⟨newRecord_number_first (predecessor_none_iff.mpr ⟨empty, none⟩), first none⟩,
      fun q rest history => ⟨newRecord_number ?_, newest q rest history⟩⟩
    rw [predecessor_of_empty empty, history]
    rfl
  · refine longShog (.inr ?_)
    rw [← finalize_eq_finalized _ goesOn] at long
    simp [State.finalizeRaises, toFinalize_eq finalizes, short, long]
  · obtain ⟨run, -, -⟩ := stands (by simp [running])
    exact watchCeiling_drop running ((congrArg RunControl.state run).trans running) falls
  · exact afterAppend_stands (tryPlacement_of_targets (by rw [(announced_reads b s).1]; exact placement))
  · rw [queue] at ht
    exact afterAppend_placesBars placing placement ht

end Sys2Proof.Machine
end


section
/-! The shog arithmetic: the required period as the least that fits, and P_o and P_u as the largest over the enabled bars. -/

namespace Sys2Proof.Machine

/-! ### Required periods (R78, R79) -/

/-- R79: the division rounded up is the least period in which the move fits its window. -/
theorem requiredPeriod_le_iff {t w p : Nat} (hw : 0 < w) : requiredPeriod t w ≤ p ↔ t * 4096 ≤ p * w := by
  rw [requiredPeriod, Nat.div_le_iff_le_mul_add_pred hw, Nat.mul_comm w p]
  omega

/-- R17, R78: three staggers and 64 leave each window of the four groups at least 64 counts. -/
theorem windows_of_valid {k : MachineConstants} {g : Nat} (valid : validConstants k = true) (hg : g < 4) :
    64 + g * k.stagger ≤ k.overlapEnd - k.overlapStart ∧ 64 + g * k.stagger ≤ k.underlapEnd - k.underlapStart := by
  obtain ⟨-, -, -, ⟨overlap, underlap⟩, -⟩ := (validConstants_iff k).mp valid
  have : g * k.stagger ≤ 3 * k.stagger := Nat.mul_le_mul_right _ (by omega)
  omega

/-! ### The largest over the enabled bars (R80) -/

theorem largest_le_iff {l : List Nat} {p : Nat} : largest l ≤ p ↔ ∀ x ∈ l, x ≤ p := by
  have general (m : Nat) : l.foldl max m ≤ p ↔ m ≤ p ∧ ∀ x ∈ l, x ≤ p := by
    induction l generalizing m with
    | nil => simp
    | cons y rest ih => simp [ih, and_assoc]
  exact (general 0).trans (and_iff_right (Nat.zero_le p))

/-- The largest over the bars is at most a period exactly where each bar's number is. -/
theorem largest_bars_le_iff {α : Type} {s : State} {l : List α} {f : Bar × α → Nat} {p : Nat} :
    largest ((s.bars.zip l).map f) ≤ p ↔ ∀ n, n < s.bars.length → ∀ x, l[n]? = some x → f (s.bar n, x) ≤ p := by
  simp only [largest_le_iff, List.forall_mem_map]
  constructor
  · intro all n hn x hx
    refine all (s.bar n, x) (List.mem_iff_getElem?.mpr ⟨n, List.getElem?_zip_eq_some.mpr ⟨?_, hx⟩⟩)
    rw [State.bar, List.getD_eq_getElem _ _ hn, List.getElem?_eq_getElem hn]
  · rintro each ⟨bar, x⟩ hmem
    obtain ⟨n, hz⟩ := List.mem_iff_getElem?.mp hmem
    obtain ⟨hb, hx⟩ := List.getElem?_zip_eq_some.mp hz
    obtain ⟨hn, hb⟩ := List.getElem?_eq_some_iff.mp hb
    have bounded := each n hn x hx
    rwa [State.bar, List.getD_eq_getElem _ _ hn, hb] at bounded

/-- A bar that is not enabled needs 0, which any period allows. -/
theorem need_le_iff {enabled : Bool} {need p : Nat} : (if enabled then need else 0) ≤ p ↔ (enabled = true → need ≤ p) := by
  cases enabled <;> simp

theorem overlapPeriod_le_iff {s : State} {pairs : List Pair} {p : Nat} :
    s.overlapPeriod pairs ≤ p ↔ ∀ n, n < s.bars.length → (s.bar n).enabled = true → ∀ x, pairs[n]? = some x →
      s.overlapNeed (s.bar n) (distance x.p1 x.p2) ≤ p := by
  rw [State.overlapPeriod, largest_bars_le_iff]
  simp only [need_le_iff]
  exact forall₂_congr fun _ _ => ⟨fun h enabled x hx => h x hx enabled, fun h x hx enabled => h enabled x hx⟩

theorem underlapPeriod_le_iff {s : State} {pairs next : List Pair} {p : Nat} :
    s.underlapPeriod pairs next ≤ p ↔ ∀ n, n < s.bars.length → (s.bar n).enabled = true →
      ∀ x y, pairs[n]? = some x → next[n]? = some y → s.underlapNeed (s.bar n) (distance x.p2 y.p1) ≤ p := by
  rw [State.underlapPeriod, largest_bars_le_iff]
  simp only [need_le_iff, List.getElem?_zip_eq_some, Prod.forall, and_imp]
  exact forall₂_congr fun _ _ => ⟨fun h enabled x y hx hy => h x y hx hy enabled,
    fun h x y hx hy enabled => h enabled x y hx hy⟩

/-! ### O42 -/

/-- Settles O42: the division that rounds up, the windows of valid constants, and the largest need over the bars. -/
theorem requiredPeriodsAreLeast : Obligations.RequiredPeriodsAreLeast := by
  unfold Obligations.RequiredPeriodsAreLeast
  refine ⟨fun _ _ => rfl, fun t w p hw => (requiredPeriod_le_iff hw).symm, fun k g valid hg => ?_,
    fun s pairs next p bars _ _ => ?_⟩
  · have := windows_of_valid valid hg
    unfold overlapWindow underlapWindow
    omega
  · rw [overlapPeriod_le_iff, underlapPeriod_le_iff, bars]
    exact ⟨Iff.rfl, Iff.rfl⟩

end Sys2Proof.Machine
end


section
/-! Ceilings: the ceiling for a period P*, what each position of the look-ahead contributes, and the governing ceiling as the
least contribution. -/

namespace Sys2Proof.Machine

/-! ### The ceiling for a period (R81, R82) -/

theorem ceilingFor_zero (k : MachineConstants) : ceilingFor k 0 = (k.maxRpm, false) := rfl

/-- Even crawl rpm is above what the period allows: a long shog. -/
theorem ceilingFor_of_long {k : MachineConstants} {p : Nat} (hp : 0 < p) (long : 60000000 / p < k.crawlRpm) :
    ceilingFor k p = (k.crawlRpm, true) := by
  rw [ceilingFor, if_neg hp.ne']
  exact if_pos (lt_of_le_of_lt (Nat.min_le_left _ _) long)

theorem ceilingFor_of_fits {k : MachineConstants} {p : Nat} (range : k.crawlRpm ≤ k.maxRpm) (hp : 0 < p)
    (fits : k.crawlRpm ≤ 60000000 / p) : ceilingFor k p = (min (60000000 / p) k.maxRpm, false) := by
  rw [ceilingFor, if_neg hp.ne']
  exact if_neg (Nat.not_lt.mpr (le_min fits range))

theorem ceilingFor_long_iff {k : MachineConstants} {p : Nat} (range : k.crawlRpm ≤ k.maxRpm) (hp : 0 < p) :
    (ceilingFor k p).2 = true ↔ 60000000 / p < k.crawlRpm := by
  rcases Nat.lt_or_ge (60000000 / p) k.crawlRpm with long | fits
  · simp [ceilingFor_of_long hp long, long]
  · simp [ceilingFor_of_fits range hp fits, fits]

/-- Without a long shog the ceiling is the largest speed that max rpm and the period allow. -/
theorem le_ceilingFor_iff {k : MachineConstants} {p : Nat} (range : k.crawlRpm ≤ k.maxRpm) (hp : 0 < p)
    (short : (ceilingFor k p).2 = false) (x : Nat) :
    x ≤ (ceilingFor k p).1 ↔ x ≤ k.maxRpm ∧ x * p ≤ 60000000 := by
  have fits : ¬ 60000000 / p < k.crawlRpm := by simp [← ceilingFor_long_iff range hp, short]
  rw [ceilingFor_of_fits range hp (Nat.le_of_not_lt fits), le_min_iff, Nat.le_div_iff_mul_le hp, and_comm]

/-! ### What a position of the look-ahead contributes (R103) -/

theorem mem_take_iff_getElem? {α : Type} {l : List α} {n : Nat} {x : α} :
    x ∈ l.take n ↔ ∃ i, i < n ∧ l[i]? = some x := by
  simp [List.mem_iff_getElem?, List.getElem?_take]

/-- R103: a record behind which the look-ahead contributes 0: a stop mark, or the article's end. -/
abbrev Record.Marked (r : Record) : Prop := r.stopMark = true ∨ r.articleEnd = true

/-- Behind a marked record a position contributes 0. -/
theorem contribution_behind_mark {ended : Bool} {records : List Record} {i j : Nat} {r : Record} (hij : i < j)
    (hr : records[i]? = some r) (marked : r.Marked) : contribution ended records j = some 0 := by
  refine if_pos (List.any_eq_true.mpr ⟨r, ?_, by simpa using marked⟩)
  exact mem_take_iff_getElem?.mpr ⟨i, hij, hr⟩

/-- With no marked record before it a position contributes its record's ceiling, and past the tail 0 where END is set. -/
theorem contribution_unmarked {ended : Bool} {records : List Record} {j : Nat}
    (unmarked : ∀ i r, i < j → records[i]? = some r → r.stopMark = false ∧ r.articleEnd = false) :
    contribution ended records j = match records[j]? with
      | some r => some r.ceiling
      | none => if ended then some 0 else none := by
  refine if_neg ?_
  simp only [List.any_eq_true, not_exists, not_and]
  intro r hr
  obtain ⟨i, hij, hi⟩ := mem_take_iff_getElem?.mp hr
  simp [unmarked i r hij hi]

/-- Past the tail, with END set, a position contributes 0. -/
theorem contribution_past_end {records : List Record} {j : Nat} (hj : records.length ≤ j) :
    contribution true records j = some 0 := by
  unfold contribution
  rw [List.getElem?_eq_none hj]
  exact ite_self _

/-- A contribution is 0 or a record's ceiling. -/
theorem contribution_cases {ended : Bool} {records : List Record} {j c : Nat}
    (h : contribution ended records j = some c) : c = 0 ∨ ∃ r ∈ records, c = r.ceiling := by
  unfold contribution at h
  split at h
  · exact .inl (Option.some.inj h).symm
  · split at h
    · next r hr => exact .inr ⟨r, List.mem_of_getElem? hr, (Option.some.inj h).symm⟩
    · split at h
      · exact .inl (Option.some.inj h).symm
      · cases h

/-! ### The governing ceiling (R103) -/

/-- The contributions of the positions inside the look-ahead. -/
def State.contributions (s : State) : List Nat :=
  (List.range s.constants.lookAhead).filterMap (contribution s.builder.ended s.queue.records)

theorem mem_contributions_iff {s : State} {c : Nat} : c ∈ s.contributions ↔
    ∃ j, j < s.constants.lookAhead ∧ contribution s.builder.ended s.queue.records j = some c := by
  simp [State.contributions]

theorem governingCeiling_idle {s : State} (h : s.run.state ≠ .running ∨ s.queue.records = []) :
    s.governingCeiling = 0 :=
  if_neg (by rcases h with h | h <;> simp [h])

/-- In RUNNING, with a record at the head, the governing ceiling is the least contribution. -/
theorem governingCeiling_least {s : State} (running : s.run.state = .running) (nonempty : s.queue.records ≠ [])
    (ahead : 0 < s.constants.lookAhead) : s.contributions.min? = some s.governingCeiling := by
  obtain ⟨r, rest, records⟩ := List.exists_cons_of_ne_nil nonempty
  have head : r.ceiling ∈ s.contributions := mem_contributions_iff.mpr ⟨0, ahead, by simp [contribution, records]⟩
  have governs : s.governingCeiling = s.contributions.min?.getD 0 := if_pos (by simp [running, records])
  rw [governs]
  cases least : s.contributions.min? with
  | none => simp [List.min?_eq_none_iff.mp least] at head
  | some c => rfl

theorem le_governingCeiling_iff {s : State} (running : s.run.state = .running) (nonempty : s.queue.records ≠ [])
    (ahead : 0 < s.constants.lookAhead) {x : Nat} : x ≤ s.governingCeiling ↔ ∀ j, j < s.constants.lookAhead →
      ∀ c, contribution s.builder.ended s.queue.records j = some c → x ≤ c := by
  rw [List.le_min?_iff (governingCeiling_least running nonempty ahead)]
  simp only [mem_contributions_iff, forall_exists_index, and_imp]
  exact forall_comm.trans (forall_congr' fun j => forall_comm)

/-- A position that contributes 0 holds the governing ceiling at 0. -/
theorem governingCeiling_zero {s : State} {j : Nat} (hj : j < s.constants.lookAhead)
    (zero : contribution s.builder.ended s.queue.records j = some 0) : s.governingCeiling = 0 := by
  by_cases idle : s.run.state ≠ .running ∨ s.queue.records = []
  · exact governingCeiling_idle idle
  · obtain ⟨running, nonempty⟩ := not_or.mp idle
    exact Nat.le_zero.mp ((le_governingCeiling_iff (not_not.mp running) nonempty (by omega)).mp le_rfl j hj 0 zero)

/-- The governing ceiling is 0 or the ceiling of a record of the queue. -/
theorem governingCeiling_cases {s : State} (running : s.run.state = .running) (nonempty : s.queue.records ≠ [])
    (ahead : 0 < s.constants.lookAhead) :
    s.governingCeiling = 0 ∨ ∃ r ∈ s.queue.records, s.governingCeiling = r.ceiling := by
  obtain ⟨j, -, attains⟩ :=
    mem_contributions_iff.mp (List.min?_mem (governingCeiling_least running nonempty ahead))
  exact contribution_cases attains

/-- With no marked record before its last position and no end of the article inside it, the look-ahead's records govern. -/
theorem le_governingCeiling_iff_records {s : State} (running : s.run.state = .running)
    (nonempty : s.queue.records ≠ []) (ahead : 0 < s.constants.lookAhead)
    (unmarked : ∀ i r, i + 1 < s.constants.lookAhead → s.queue.records[i]? = some r →
      r.stopMark = false ∧ r.articleEnd = false)
    (reaches : s.builder.ended = true → s.constants.lookAhead ≤ s.queue.records.length) {x : Nat} :
    x ≤ s.governingCeiling ↔ ∀ r ∈ s.queue.records.take s.constants.lookAhead, x ≤ r.ceiling := by
  have contributes (j : Nat) (hj : j < s.constants.lookAhead) :
      contribution s.builder.ended s.queue.records j = s.queue.records[j]?.map Record.ceiling := by
    rw [contribution_unmarked fun i r hij => unmarked i r (by omega)]
    cases record : s.queue.records[j]? with
    | some r => rfl
    | none =>
      have short := List.getElem?_eq_none_iff.mp record
      exact if_neg fun ended => by have := reaches ended; omega
  rw [le_governingCeiling_iff running nonempty ahead]
  constructor
  · intro least r hr
    obtain ⟨j, inside, record⟩ := mem_take_iff_getElem?.mp hr
    exact least j inside r.ceiling (by rw [contributes j inside, record]; rfl)
  · intro least j hj c hc
    rw [contributes j hj] at hc
    obtain ⟨r, record, rfl⟩ := Option.map_eq_some_iff.mp hc
    exact least r (mem_take_iff_getElem?.mpr ⟨j, hj, record⟩)

/-! ### O43 -/

/-- Settles O43: the ceiling by what its period allows, and the governing ceiling as the least contribution. -/
theorem ceilingsGovern : Obligations.CeilingsGovern := by
  unfold Obligations.CeilingsGovern
  refine ⟨fun k p valid => ?_, fun s valid => ⟨governingCeiling_idle, fun running nonempty => ?_⟩⟩
  · obtain ⟨-, -, -, -, -, ⟨-, -, -, range⟩, -⟩ := (validConstants_iff k).mp valid
    obtain ⟨crawl, max⟩ := ceilingFor_range range p
    refine ⟨crawl, max, fun zero => by rw [zero, ceilingFor_zero], fun hp =>
      ⟨ceilingFor_long_iff range hp, fun long => ?_, le_ceilingFor_iff range hp⟩⟩
    rw [ceilingFor_of_long hp ((ceilingFor_long_iff range hp).mp long)]
  · obtain ⟨-, -, -, -, -, -, ⟨ahead, -⟩, -⟩ := (validConstants_iff s.constants).mp valid
    refine ⟨fun ⟨i, r, hi, hr, marked⟩ => ?_, fun ended short => ?_, fun unmarked reaches x => ?_, fun law => ?_⟩
    · exact governingCeiling_zero hi (contribution_behind_mark (Nat.lt_succ_self i) hr marked)
    · exact governingCeiling_zero short (by rw [ended]; exact contribution_past_end le_rfl)
    · exact le_governingCeiling_iff_records running nonempty ahead unmarked reaches
    · refine (governingCeiling_cases running nonempty ahead).imp_right fun ⟨r, hr, governs⟩ => ?_
      rw [governs]
      exact law r (List.mem_append_left _ hr)

end Sys2Proof.Machine
end


section
/-! What leaves the queue's records and the build in progress alone, and what keeps the laws of the queue, the backlog and
the course numbers. -/

namespace Sys2Proof.Machine

/-! ### The queue stands -/

/-- From `s` to `t` the queue block stands as it was, and a build is in progress where one was. -/
structure QueueStill (s t : State) : Prop where
  queue : t.queue = s.queue
  building : t.builder.build.isSome = s.builder.build.isSome

theorem QueueStill.refl (s : State) : QueueStill s s := ⟨rfl, rfl⟩

theorem QueueStill.trans {s t u : State} (h : QueueStill s t) (k : QueueStill t u) : QueueStill s u :=
  ⟨k.queue.trans h.queue, k.building.trans h.building⟩

theorem QueueStill.of_same {s t : State} (queue : t.queue = s.queue) (builder : t.builder = s.builder) :
    QueueStill s t := ⟨queue, by rw [builder]⟩

/-- The tracker alone has changed. -/
theorem tracker_queueStill (k : Tracker) (s : State) : QueueStill s { s with tracker := k } := .of_same rfl rfl

theorem RunSide.queueStill {s t : State} (h : RunSide s t) : QueueStill s t := .of_same h.queue h.builder

theorem queueStill_blind : PortBlind QueueStill :=
  ⟨.refl, .trans, fun p x s => .of_same (State.setPort_queue p x s) (State.setPort_builder p x s)⟩

/-- While the reset input is held nothing follows. -/
theorem PortBlind.unlessHeld {R : State → State → Prop} (blind : PortBlind R) {f : State → State} (h : ∀ u, R u (f u))
    (s : State) : R s (s.unlessHeld f) := by
  unfold State.unlessHeld
  split
  · exact blind.refl s
  · exact h s

/-! ### Commands that leave the queue -/

theorem launch_queueStill (e : Engine) (s : State) : QueueStill s (s.launch e) := by
  rw [launch_eq]
  exact .of_same rfl rfl

theorem overwrite_queueStill (target : Extent) (kind : OpKind) (p : Port) (total : Nat) (extents : List Extent)
    (s : State) : QueueStill s (s.overwrite target kind p total extents) :=
  (QueueStill.of_same rfl rfl : QueueStill s (s.unverify target)).trans (launch_queueStill _ _)

theorem opCheckEffect_queueStill (p : Port) (g w : Nat) (s : State) : QueueStill s (opCheckEffect p g w s) := by
  unfold opCheckEffect
  split
  · exact .refl s
  · exact launch_queueStill _ s

theorem opSuspendEffect_queueStill (s : State) : QueueStill s (opSuspendEffect s) := by
  unfold opSuspendEffect
  split <;> exact .of_same rfl rfl

theorem opResumeEffect_queueStill (s : State) : QueueStill s (opResumeEffect s) := by
  unfold opResumeEffect
  split
  · exact launch_queueStill _ s
  · exact .refl s

theorem opAbortEffect_queueStill (s : State) : QueueStill s (opAbortEffect s) := by
  unfold opAbortEffect
  split
  · exact .refl s
  · split
    · exact .of_same rfl rfl
    · rw [endOp_eq]
      exact .of_same rfl rfl

theorem mapEffect_queueStill (g : Nat) (m : Mapping) (s : State) : QueueStill s (mapEffect g m s) := by
  unfold mapEffect
  split <;> exact .of_same rfl rfl

theorem mapCancelEffect_queueStill (g : Nat) (s : State) : QueueStill s (mapCancelEffect g s) := by
  unfold mapCancelEffect
  split <;> exact .of_same rfl rfl

theorem setConstantsEffect_queueStill (k : MachineConstants) (s : State) : QueueStill s (setConstantsEffect k s) := by
  rw [setConstantsEffect_eq]
  exact .of_same rfl rfl

theorem setSourceEffect_queueStill (x : Nat) (s : State) : QueueStill s (setSourceEffect x s) := by
  unfold setSourceEffect
  split
  · exact .refl s
  · split
    · exact .refl s
    · exact (QueueStill.of_same rfl rfl : QueueStill s (s.selectSource _)).trans (loseEnabled_runSide _).queueStill

theorem simGateEffect_queueStill (x : Nat) (s : State) : QueueStill s (simGateEffect x s) := by
  unfold simGateEffect
  split <;> exact .of_same rfl rfl

theorem shaftLatchEffect_queueStill (p : Port) (s : State) : QueueStill s (shaftLatchEffect p s) := .of_same rfl rfl

/-- R131, R133: a placement begins with the builder's position set, and no build touched. -/
theorem armEffect_queueStill (e r c : Nat) (s : State) : QueueStill s (armEffect e r c s) :=
  (⟨rfl, rfl⟩ : QueueStill s (s.arming _)).trans (tryPlacement_runSide _).queueStill

theorem resumeEffect_queueStill (s : State) : QueueStill s (resumeEffect s) :=
  (QueueStill.of_same rfl rfl : QueueStill s s.resuming).trans (tryPlacement_runSide _).queueStill

theorem waitForGrant_queueStill (p : Port) (refusal : State → Option Reply) (x : Access) (s : State) :
    QueueStill s (waitForGrant p refusal x s).1 := by
  unfold waitForGrant
  split <;> exact .of_same rfl rfl

/-! ### Grants and lane events that leave the queue -/

theorem endAccess_queueStill (p : Port) (r : Reply) (s : State) : QueueStill s (s.endAccess p r) :=
  (queueStill_blind.setPort p _ s).trans (.of_same rfl rfl)

theorem writeInGrant_queueStill (p : Port) (a : Nat) (cells : List Cell) (s : State) :
    QueueStill s (s.writeInGrant p a cells).1 := by
  unfold State.writeInGrant
  split <;> exact .of_same rfl rfl

theorem runChunk_queueStill (op : Operation) (s : State) : QueueStill s (s.runChunk op) := by
  rw [runChunk_eq]
  exact .of_same rfl rfl

/-- R71: the fetch is read, and its build goes on. -/
theorem endFetch_queueStill (s : State) : QueueStill s s.endFetch := by
  unfold State.endFetch
  split
  · next b fetched =>
    refine ⟨rfl, ?_⟩
    unfold State.fetchedBuild at fetched
    split at fetched
    · next building => simp [building]
    · cases fetched
  · exact .of_same rfl rfl

theorem takeIndex_queueStill (s : State) : QueueStill s s.takeIndex := by
  have slipped (k : Tracker) : QueueStill s (State.raise .slip { s with tracker := k }) :=
    (tracker_queueStill k s).trans (raise_runSide _ _).queueStill
  unfold State.takeIndex State.slip
  dsimp only
  split
  · split
    · exact .refl s
    · split
      · exact (slipped _).trans (hardFault_runSide _ _ _ _).queueStill
      · exact slipped _
  · exact tracker_queueStill _ s

/-- An event at a time: the timebase reaches it, and while the reset input is held nothing follows. -/
theorem timed_queueStill {f : State → State} (h : ∀ u, QueueStill u (f u)) (t : Nat) (s : State) :
    QueueStill s ((s.elapse t).unlessHeld f) :=
  (QueueStill.of_same rfl rfl : QueueStill s (s.elapse t)).trans (queueStill_blind.unlessHeld h _)

/-- A timed command: the timebase reaches its reading as it is taken. -/
theorem timedCommand_queueStill {refusal : State → Option Reply} {effect : State → State} {data : State → List Byte}
    (h : ∀ u, QueueStill u (effect u)) (p : Port) (onlyM : Bool) (i : Instr) (t : Nat) (s : State) :
    QueueStill s ((s.elapse t).command p onlyM i (judged refusal effect data)) :=
  (QueueStill.of_same rfl rfl : QueueStill s (s.elapse t)).trans
    (queueStill_blind.command (fun u _ => h u) p onlyM i _)

theorem command_queueStill {refusal : State → Option Reply} {effect : State → State} {data : State → List Byte}
    (h : ∀ u, QueueStill u (effect u)) (p : Port) (onlyM : Bool) (i : Instr) (s : State) :
    QueueStill s (s.command p onlyM i (judged refusal effect data)) :=
  queueStill_blind.command (fun u _ => h u) p onlyM i s

/-! ### The rows that move the queue -/

/-- The rows that move records, or begin or end a build. -/
def movesQueue : Instr → Bool
  | .powerUp => true
  | .resetInput => true
  | .encoderCount _ _ => true
  | .simulatedCount _ => true
  | .buildBegin => true
  | .append => true
  | .disarm _ => true
  | .restart _ => true
  | .continueRun _ => true
  | _ => false

/-- Every other row leaves the queue block as it was, and a build in progress where one was. -/
theorem exec_queueStill {c : Instr} {s t : State} (hc : movesQueue c = false) (h : exec c s = .next t) :
    QueueStill s t := by
  have next {u : State} (e : exec c s = .next u) (k : QueueStill s u) : QueueStill s t :=
    Host.Outcome.next.inj (e.symm.trans h) ▸ k
  cases c with
  | powerUp | resetInput | encoderCount | simulatedCount | buildBegin | append | disarm | restart | continueRun => cases hc
  | encoderIndex =>
    refine next rfl (queueStill_blind.unlessHeld (fun u => ?_) s)
    split
    · exact takeIndex_queueStill u
    · exact .refl u
  | stillTimerExpiry time =>
    refine next rfl (timed_queueStill (fun u => ?_) time s)
    split
    · split <;> exact .of_same rfl rfl
    · exact .refl u
  | builderFetch =>
    rcases builderFetch_cases h with rfl | rfl
    · exact .refl t
    · exact endFetch_queueStill s
  | orderFrameSent lane time => exact next rfl (timed_queueStill (fun u => (frameSent_runSide lane u).queueStill) time s)
  | taken lane address time =>
    exact next rfl (timed_queueStill (fun u => (driveReply_runSide lane address _ u).queueStill) time s)
  | inPosition lane address position =>
    refine next rfl ?_
    split
    · exact queueStill_blind.unlessHeld (fun u => (driveReply_runSide lane address _ u).queueStill) s
    · exact .refl s
  | fault lane address code =>
    refine next rfl ?_
    split
    · exact .refl s
    · exact queueStill_blind.unlessHeld (fun u => (driveReply_runSide lane address _ u).queueStill) s
  | replyFrameIgnored lane frame time =>
    refine next rfl ?_
    split
    · exact .refl s
    · exact timed_queueStill (fun u => (driveReply_runSide lane _ _ u).queueStill) time s
  | takeLimitExpiry bar time =>
    exact next rfl (timed_queueStill (fun u => (takeLimitReached_runSide bar u).queueStill) time s)
  | moveLimitExpiry bar time =>
    exact next rfl (timed_queueStill (fun u => (moveLimitReached_runSide bar u).queueStill) time s)
  | chunk =>
    rcases chunk_cases h with rfl | ⟨op, -, -, -, rfl⟩
    · exact .refl t
    · exact runChunk_queueStill op s
  | readCellsGrant port =>
    rcases readCellsGrant_cases h with rfl | ⟨r, rfl⟩
    · exact .refl t
    · exact endAccess_queueStill port r s
  | writeCellsGrant port =>
    rcases writeCellsGrant_cases h with rfl | ⟨a, cells, r, -, rfl⟩
    · exact .refl t
    · exact (writeInGrant_queueStill port a cells s).trans (endAccess_queueStill port r _)
  | transactionBegin port =>
    refine next rfl ?_
    split
    · exact queueStill_blind.setPort port _ s
    · split
      · exact queueStill_blind.setPort port _ s
      · exact .refl s
  | transactionEnd port bits => exact next rfl (queueStill_blind.setPort port _ s)
  | replyRead port =>
    refine next rfl ?_
    split
    · exact queueStill_blind.setPort port _ s
    · exact .refl s
  | unknownCommand port code => exact next rfl (queueStill_blind.take .refl port _ _ s)
  | status port =>
    exact next rfl (queueStill_blind.take (body := judged (fun _ => none) id (statusData port)) .refl port _ _ s)
  | eventsClear port | eventsEnable port =>
    exact next rfl (command_queueStill (fun u => queueStill_blind.setPort port _ u) port _ _ s)
  | shaftLatch port => exact next rfl (command_queueStill (shaftLatchEffect_queueStill port) port _ _ s)
  | setConstants port k time => exact next rfl (timedCommand_queueStill (setConstantsEffect_queueStill k) port _ _ time s)
  | setSource port x time => exact next rfl (timedCommand_queueStill (setSourceEffect_queueStill x) port _ _ time s)
  | simSpeed port x time =>
    refine next rfl (timedCommand_queueStill (fun u => ?_) port _ _ time s)
    exact .of_same rfl rfl
  | simGate port x time => exact next rfl (timedCommand_queueStill (simGateEffect_queueStill x) port _ _ time s)
  | readCells port | writeCells port =>
    exact next rfl (queueStill_blind.take (waitForGrant_queueStill port _ _) port _ _ s)
  | map port g => exact next rfl (command_queueStill (mapEffect_queueStill g _) port _ _ s)
  | mapCancel port g => exact next rfl (command_queueStill (mapCancelEffect_queueStill g) port _ _ s)
  | home port bar => exact next rfl (command_queueStill (fun u => (homeEffect_runSide bar u).queueStill) port _ _ s)
  | placeBar port bar x =>
    exact next rfl (command_queueStill (fun u => (orderTo_runSide bar x none u).queueStill) port _ _ s)
  | arm port e r c => exact next rfl (command_queueStill (armEffect_queueStill e r c) port _ _ s)
  | resume port => exact next rfl (command_queueStill resumeEffect_queueStill port _ _ s)
  | opFill port | opCopy port => exact next rfl (command_queueStill (fun u => overwrite_queueStill _ _ _ _ _ u) port _ _ s)
  | opCheck port g w => exact next rfl (command_queueStill (opCheckEffect_queueStill port g w) port _ _ s)
  | opSuspend port => exact next rfl (command_queueStill opSuspendEffect_queueStill port _ _ s)
  | opResume port => exact next rfl (command_queueStill opResumeEffect_queueStill port _ _ s)
  | opAbort port => exact next rfl (command_queueStill opAbortEffect_queueStill port _ _ s)
  | resetRelease => exact next rfl (.of_same rfl rfl)
  | eventsRead port | shaftRead port | getConstants port | regionGet port | mapGet port | seqGet port | getBar port
  | queueRead port | opStatus port => exact next rfl (command_queueStill .refl port _ _ s)
  | regionSet port | regionClear port | lock port | unlock port | lockDown port | mapClear port | seqWrite port
  | seqForm port | seqRepeat port | setClass port | setBar port | clearStop port =>
    refine next rfl (command_queueStill (fun u => ?_) port _ _ s)
    exact .of_same rfl rfl

end Sys2Proof.Machine
end


section
/-! O54: every step keeps the laws of the queue, the backlog and the course numbers (R89, R91, R101). -/

namespace Sys2Proof.Machine

/-! ### The laws kept -/

/-- From `s` to `t` the three laws of the queue are kept. -/
structure QueueLawsKept (s t : State) : Prop where
  room : s.QueueLaw → t.QueueLaw
  backlog : s.BacklogLaw → t.BacklogLaw
  numbers : s.CourseNumberLaw → t.CourseNumberLaw

theorem QueueLawsKept.refl (s : State) : QueueLawsKept s s := ⟨id, id, id⟩

theorem QueueLawsKept.trans {s t u : State} (h : QueueLawsKept s t) (k : QueueLawsKept t u) : QueueLawsKept s u :=
  ⟨k.room ∘ h.room, k.backlog ∘ h.backlog, k.numbers ∘ h.numbers⟩

/-- The course numbers of the queue and of the history are as they were and the backlog has not grown; a build in progress
has room. -/
theorem QueueLawsKept.of_numbers {s t : State}
    (records : t.queue.records.map Record.number = s.queue.records.map Record.number)
    (history : t.queue.history.map Record.number = s.queue.history.map Record.number)
    (backlog : t.queue.backlog ≤ s.queue.backlog)
    (building : t.builder.build.isSome → s.builder.build.isSome ∨ s.queue.records.length < 16) : QueueLawsKept s t := by
  have length : t.queue.records.length = s.queue.records.length := by simpa using congrArg List.length records
  have lengthHistory : t.queue.history.length = s.queue.history.length := by simpa using congrArg List.length history
  refine ⟨fun ⟨few, short, room⟩ => ?_, fun ⟨alone, small⟩ => ?_, fun chain => ?_⟩
  · exact ⟨length ▸ few, lengthHistory ▸ short, fun h => length ▸ (building h).elim room id⟩
  · exact ⟨fun h => List.map_eq_nil_iff.mp (history.trans (by rw [alone (by omega), List.map_nil])), by omega⟩
  · unfold State.CourseNumberLaw State.courseNumbers at chain ⊢
    rw [List.map_append, List.map_reverse, records, history, ← List.map_reverse, ← List.map_append]
    exact chain

theorem QueueStill.lawsKept {s t : State} (h : QueueStill s t) : QueueLawsKept s t :=
  .of_numbers (by rw [h.queue]) (by rw [h.queue]) (by rw [h.queue]) fun building => .inl (h.building ▸ building)

theorem RunSide.queueLawsKept {s t : State} (h : RunSide s t) : QueueLawsKept s t := h.queueStill.lawsKept

/-- R92: a queue block emptied and a builder without a build meet the laws. -/
theorem QueueLawsKept.of_cleared {s t : State} (queue : t.queue = CourseQueue.initial)
    (builder : t.builder = Builder.initial) : QueueLawsKept s t := by
  refine ⟨fun _ => ?_, fun _ => ?_, fun _ => ?_⟩
  · simp [State.QueueLaw, queue, builder, CourseQueue.initial, Builder.initial]
  · simp [State.BacklogLaw, queue, CourseQueue.initial]
  · simp [State.CourseNumberLaw, State.courseNumbers, queue, CourseQueue.initial]

theorem queueLawsKept_blind : PortBlind QueueLawsKept :=
  ⟨.refl, .trans, fun p x s => (queueStill_blind.setPort p x s).lawsKept⟩

/-- A watched step keeps the laws where the step does. -/
theorem watchCeiling_queueLawsKept {f : State → State} {s : State} (h : QueueLawsKept s (f s)) :
    QueueLawsKept s (s.watchCeiling f) := h.trans (raiseIf_runSide _ _ _).queueLawsKept

/-! ### Forward boundaries (R93 to R96) -/

theorem overrunForward_queueLawsKept (s : State) : QueueLawsKept s s.overrunForward := by
  obtain ⟨queue, -, builder, -⟩ := overrunForward_reads s
  exact .of_numbers (by rw [queue]) (by rw [queue]) (by rw [queue]) fun h => .inl (builder ▸ h)

/-- R90, R94: a head that leaves goes to the newest end of the history, whose oldest record may be dropped. -/
theorem headLeaves_queueLawsKept {s : State} {r : Record} {rest : List Record} (h : s.queue.records = r :: rest)
    (backlog : s.queue.backlog = 0) : QueueLawsKept s (s.headLeaves r rest) := by
  obtain ⟨queue, builder, -⟩ := headLeaves_reads r rest s
  refine ⟨fun ⟨few, _, room⟩ => ?_, fun _ => ?_, fun chain => ?_⟩
  · rw [h, List.length_cons] at few room
    unfold State.QueueLaw
    rw [queue, builder]
    exact ⟨by dsimp only; omega, List.length_take_le 8 _, fun building => by have := room building; dsimp only; omega⟩
  · simp [State.BacklogLaw, queue, backlog]
  · unfold State.CourseNumberLaw State.courseNumbers at chain ⊢
    rw [queue]
    refine chain.suffix (List.IsSuffix.map _ ?_)
    have dropped : ((r :: s.queue.history).take 8).reverse <:+ (r :: s.queue.history).reverse :=
      List.reverse_suffix.mpr (List.take_prefix _ _)
    obtain ⟨oldest, split⟩ := dropped
    exact ⟨oldest, by rw [← List.append_assoc, split, h]; simp⟩

theorem endArticle_queueLawsKept (s : State) : QueueLawsKept s s.endArticle := by
  unfold State.endArticle
  split
  · exact .of_numbers rfl rfl (Nat.le_refl _) .inl
  · exact .refl s

theorem advanceQueue_queueLawsKept {s : State} (backlog : s.queue.backlog = 0) : QueueLawsKept s s.advanceQueue := by
  unfold State.advanceQueue
  split
  · split
    · exact overrunForward_queueLawsKept s
    · exact (hardFault_runSide _ _ _ s).queueLawsKept
  · next r h =>
    split
    · exact (headLeaves_queueLawsKept h backlog).trans (endArticle_queueLawsKept _)
    · exact (headLeaves_queueLawsKept h backlog).trans (hardFault_runSide _ _ _ _).queueLawsKept
  · next h => exact headLeaves_queueLawsKept h backlog

/-- R93: with a retreat backlog the boundary lowers it, and moves no record. -/
theorem queueForward_queueLawsKept (s : State) : QueueLawsKept s s.queueForward := by
  unfold State.queueForward
  split
  · exact .refl s
  · exact overrunForward_queueLawsKept s
  · split
    · exact .of_numbers rfl rfl (Nat.sub_le _ _) .inl
    · next none => exact advanceQueue_queueLawsKept (Nat.eq_zero_of_not_pos none)

/-! ### Backward boundaries (R99 to R102) -/

@[simp] theorem reopen_number (k : MachineConstants) (r : Record) : (r.reopen k).number = r.number := by
  unfold Record.reopen
  split <;> rfl

/-- A change of the last element that keeps what is read of it keeps what is read of the list. -/
theorem map_mapLast {α β : Type} {f : α → α} {read : α → β} (h : ∀ x, read (f x) = read x) (l : List α) :
    (mapLast f l).map read = l.map read := by
  rcases List.eq_nil_or_concat l with rfl | ⟨front, x, rfl⟩
  · rfl
  · simp [mapLast_concat, h]

/-- R100: the queue without its tail. -/
theorem discardTail_reads (s : State) : s.discardTail.queue.history = s.queue.history ∧
    s.discardTail.queue.backlog = s.queue.backlog ∧
    s.discardTail.queue.records.map Record.number = (s.queue.records.map Record.number).dropLast := by
  unfold State.discardTail
  split
  · next empty => simp [List.getLast?_eq_none_iff.mp empty]
  · exact ⟨rfl, rfl, by rw [map_mapLast (reopen_number s.constants), List.map_dropLast]⟩

/-- R99, R100: the newest history record comes back to the head; past 16 records the tail goes, and with 16 the build. -/
theorem restore_queue {s : State} {r : Record} {rest : List Record} (h : s.queue.history = r :: rest) :
    s.restore.queue.history = rest ∧ s.restore.queue.backlog = s.queue.backlog ∧
    s.restore.queue.records.map Record.number =
      (if 16 < s.queue.records.length + 1 then ((r :: s.queue.records).map Record.number).dropLast
        else (r :: s.queue.records).map Record.number) ∧
    s.restore.builder.build = (if 16 ≤ s.queue.records.length + 1 then none else s.builder.build) := by
  simp only [State.restore, h, List.length_cons]
  split
  · obtain ⟨history, backlog, records⟩ :=
      discardTail_reads { s with queue := { s.queue with records := r :: s.queue.records, history := rest } }
    exact ⟨history, backlog, records, by rw [if_pos (by omega)]; rfl⟩
  · split
    · exact ⟨rfl, rfl, rfl, by rw [if_pos (by omega)]; rfl⟩
    · exact ⟨rfl, rfl, rfl, by rw [if_neg (by omega)]⟩

theorem restore_queueLawsKept (s : State) : QueueLawsKept s s.restore := by
  cases h : s.queue.history with
  | nil =>
    have stands : s.restore = s := by simp [State.restore, h]
    rw [stands]
    exact .refl s
  | cons r rest =>
    obtain ⟨history, backlog, records, build⟩ := restore_queue h
    have length := congrArg List.length records
    refine ⟨fun ⟨few, short, room⟩ => ⟨?_, ?_, fun building => ?_⟩, fun ⟨alone, small⟩ => ⟨fun some => ?_, ?_⟩,
      fun chain => ?_⟩
    · split at length <;> simp at length <;> omega
    · rw [h, List.length_cons] at short
      rw [history]
      omega
    · rw [build] at building
      split at building
      · cases building
      · rw [if_neg (by omega)] at length
        simp at length
        omega
    · rw [backlog] at some
      simpa [h] using alone some
    · omega
    · unfold State.CourseNumberLaw State.courseNumbers at chain ⊢
      have back : s.restore.queue.records.map Record.number <+: (r :: s.queue.records).map Record.number := by
        rw [records]
        split
        · exact List.dropLast_prefix _
        · exact List.prefix_rfl
      obtain ⟨tail, split⟩ := back
      have same : (s.queue.history.reverse ++ s.queue.records).map Record.number =
          (rest.reverse ++ s.restore.queue.records).map Record.number ++ tail := by
        rw [List.map_append (l₁ := rest.reverse), List.append_assoc, split]
        simp [h]
      rw [same] at chain
      rw [history]
      exact chain.left_of_append

/-- R101: a retreat counts up to 255, with the history empty. -/
theorem retreat_queueLawsKept {s : State} (h : s.queue.history = []) : QueueLawsKept s s.retreat := by
  obtain ⟨queue, builder, -⟩ := retreat_reads s
  refine ⟨fun law => ?_, fun _ => ?_, fun law => ?_⟩
  · simpa only [State.QueueLaw, queue, builder] using law
  · unfold State.BacklogLaw
    rw [queue]
    exact ⟨fun _ => h, Nat.min_le_left _ _⟩
  · simpa only [State.CourseNumberLaw, State.courseNumbers, queue] using law

theorem overrunBackward_queueLawsKept (s : State) : QueueLawsKept s s.overrunBackward := by
  unfold State.overrunBackward
  split
  · exact .of_numbers rfl rfl (Nat.le_refl _) .inl
  · split
    · exact .refl s
    · split
      · exact (restore_queueLawsKept s).trans (QueueStill.lawsKept (.of_same rfl rfl))
      · exact restore_queueLawsKept s

theorem queueBackward_queueLawsKept (s : State) : QueueLawsKept s s.queueBackward := by
  unfold State.queueBackward
  split
  · exact .refl s
  · exact overrunBackward_queueLawsKept s
  · split
    · exact overrunBackward_queueLawsKept s
    · split
      · next empty => exact retreat_queueLawsKept empty
      · exact restore_queueLawsKept s

/-! ### Counts -/

theorem forwardBoundary_queueLawsKept (t : Nat) (s : State) : QueueLawsKept s (s.forwardBoundary t) :=
  (tracker_queueStill (s.tracker.measure t) s).lawsKept.trans
    (watchCeiling_queueLawsKept (queueForward_queueLawsKept _))

theorem crossForward_queueLawsKept (c t : Nat) (s : State) : QueueLawsKept s (s.crossForward c t) := by
  have crossed (a a' : Nat) : QueueLawsKept s ((List.range 4).foldl (State.zonesForward a a') (s.deadlinesFrom a a')) :=
    ((deadlinesFrom_runSide a a' s).trans (.foldl (zonesForward_runSide a a') _ _)).queueLawsKept
  unfold State.crossForward
  dsimp only
  split
  · exact (crossed _ _).trans (forwardBoundary_queueLawsKept t _)
  · exact crossed _ _

theorem crossReverse_queueLawsKept (c : Nat) (s : State) : QueueLawsKept s (s.crossReverse c) := by
  have crossed (a a' : Nat) (s : State) : QueueLawsKept s ((List.range 4).foldl (State.zonesReverse a a') s) :=
    (RunSide.foldl (zonesReverse_runSide a a') _ _).queueLawsKept
  unfold State.crossReverse
  dsimp only
  split
  · exact (watchCeiling_queueLawsKept (queueBackward_queueLawsKept s)).trans (crossed _ _ _)
  · exact crossed _ _ s

theorem takeCount_queueLawsKept (d : Direction) (t : Nat) (s : State) : QueueLawsKept s (s.takeCount d t) := by
  have counted : QueueLawsKept s (s.counted d t) :=
    (tracker_queueStill _ s).lawsKept.trans (counted_runSide d t s).queueLawsKept
  unfold State.takeCount
  dsimp only
  split
  · cases d with
    | forward => exact counted.trans (crossForward_queueLawsKept _ _ _)
    | reverse => exact counted.trans (crossReverse_queueLawsKept _ _)
  · exact counted

theorem simulate_queueLawsKept (t : Nat) (s : State) : QueueLawsKept s (s.simulate t) := by
  have counted := (tracker_queueStill s.tracker.giveCount s).lawsKept.trans
    (takeCount_queueLawsKept .forward t _)
  unfold State.simulate
  dsimp only
  split
  · exact counted.trans (takeIndex_queueStill _).lawsKept
  · exact counted

/-! ### The builder -/

@[simp] theorem close_number (k : MachineConstants) (a : Advance) (r : Record) : (r.close k a).number = r.number := by
  unfold Record.close
  split <;> rfl

@[simp] theorem finalize_number (next : List Pair) (s : State) (r : Record) : (s.finalize next r).number = r.number := by
  unfold State.finalize
  split <;> rfl

/-- R64: a build that begins may mark the tail, and moves no record. -/
theorem beginBuild_queue (s : State) : s.beginBuild.queue = s.queue ∨ s.beginBuild.queue = s.closeIteration.queue := by
  unfold State.beginBuild
  split
  · exact .inl rfl
  · split
    · split
      · exact .inr rfl
      · exact .inr (beginCourse_reads _).2.2
    · exact .inl (beginCourse_reads s).2.2

/-- R68: a build begins with room in the queue. -/
theorem canBegin_room {s : State} (h : s.canBegin = true) : s.queue.records.length < 16 := by
  by_contra full
  exact absurd h (by simp [canBegin_eq_false (.inr (.inr (.inr (.inl (Nat.le_of_not_lt full)))))])

theorem beginBuild_queueLawsKept {s : State} (h : s.canBegin = true) : QueueLawsKept s s.beginBuild := by
  have closed : s.closeIteration.queue.records.map Record.number = s.queue.records.map Record.number :=
    map_mapLast (close_number s.constants _) _
  have room : s.beginBuild.builder.build.isSome → s.builder.build.isSome ∨ s.queue.records.length < 16 :=
    fun _ => .inr (canBegin_room h)
  rcases beginBuild_queue s with queue | queue
  · exact .of_numbers (by rw [queue]) (by rw [queue]) (by rw [queue]) room
  · exact .of_numbers (by rw [queue, closed]) (by rw [queue]; rfl) (by rw [queue]; rfl) room

/-- R85, R97: a finalized record keeps its number and its place. -/
theorem finalizedQueue_numbers (next : List Pair) (s : State) :
    (s.finalizedQueue next).records.map Record.number = s.queue.records.map Record.number ∧
      (s.finalizedQueue next).history.map Record.number = s.queue.history.map Record.number := by
  unfold State.finalizedQueue
  split
  · exact ⟨map_mapLast (finalize_number next s) _, rfl⟩
  · split
    · next r rest history =>
      refine ⟨rfl, ?_⟩
      rw [history]
      split <;> simp
    · exact ⟨rfl, rfl⟩

/-- R75: the predecessor is the newest record of the queue and the history together. -/
theorem predecessor_number (s : State) : s.predecessor.map Record.number = s.courseNumbers.getLast? := by
  unfold State.courseNumbers
  cases tail : s.queue.records.getLast? with
  | some q => simp [predecessor_of_tail tail, List.getLast?_append, tail]
  | none =>
    have empty := List.getLast?_eq_none_iff.mp tail
    simp [predecessor_of_empty empty, empty]

/-- R75: the new record's number follows the newest. -/
theorem newRecord_follows {b : Build} {s : State} {n : Nat} (h : s.courseNumbers.getLast? = some n) :
    (s.newRecord b).number = n + 1 := by
  rw [← predecessor_number, Option.map_eq_some_iff] at h
  obtain ⟨q, pred, rfl⟩ := h
  exact newRecord_number pred

/-- R83: the record that joins the tail had room kept for it by its build (R68). -/
theorem appended_queueLawsKept {b : Build} {s : State} (building : s.builder.build.isSome) :
    QueueLawsKept s (s.appended b) := by
  obtain ⟨records, history⟩ := finalizedQueue_numbers (s.newRecord b).pairs s
  obtain ⟨backlog, -⟩ := finalizedQueue_counts (s.newRecord b).pairs s
  have finalized : QueueLawsKept s { s with queue := s.finalizedQueue (s.newRecord b).pairs } :=
    .of_numbers records history (le_of_eq backlog) .inl
  refine ⟨fun law => ?_, finalized.backlog, fun law => ?_⟩
  · obtain ⟨-, short, room⟩ := finalized.room law
    refine ⟨?_, short, fun h => by cases h⟩
    have := room building
    simpa [State.appended, State.appendedQueue] using this
  · have joined : (s.appended b).courseNumbers = s.courseNumbers ++ [(s.newRecord b).number] := by
      simp [State.courseNumbers, State.appended, State.appendedQueue, records, history]
    rw [State.CourseNumberLaw, joined]
    refine List.IsChain.append law (List.isChain_singleton _) fun n hn m hm => ?_
    rw [← Option.mem_some.mp hm]
    exact newRecord_follows hn

theorem afterAppend_queueLawsKept {b : Build} {s : State} (h : s.readyBuild = some b) :
    QueueLawsKept s (s.afterAppend b) := by
  have building : s.builder.build.isSome := by
    unfold State.readyBuild at h
    split at h
    · next build => simp [build]
    · cases h
  exact (appended_queueLawsKept building).trans (appended_afterAppend b s).queueLawsKept

/-! ### CONTINUE (R105) -/

/-- R105: a cleared mark leaves what is read of the records but for their marks. -/
theorem map_clearFirstMark {β : Type} {read : Record → β} (h : ∀ r, read { r with stopMark := false } = read r) :
    ∀ l : List Record, (clearFirstMark l).map read = l.map read
  | [] => rfl
  | r :: rest => by
    unfold clearFirstMark
    split
    · simp [h]
    · simp [map_clearFirstMark h rest]

theorem continueEffect_queueLawsKept (s : State) : QueueLawsKept s (continueEffect s) :=
  watchCeiling_queueLawsKept (.of_numbers (map_clearFirstMark (fun _ => rfl) _) rfl (Nat.le_refl _) .inl)

/-! ### Every command and event -/

/-- An event at a time: the timebase reaches it, and while the reset input is held nothing follows. -/
theorem timed_queueLawsKept {f : State → State} (h : ∀ u, QueueLawsKept u (f u)) (t : Nat) (s : State) :
    QueueLawsKept s ((s.elapse t).unlessHeld f) :=
  (QueueStill.lawsKept (.of_same rfl rfl) : QueueLawsKept s (s.elapse t)).trans (queueLawsKept_blind.unlessHeld h _)

theorem exec_queueLawsKept {c : Instr} {s t : State} (h : exec c s = .next t) : QueueLawsKept s t := by
  by_cases hc : movesQueue c = false
  · exact (exec_queueStill hc h).lawsKept
  have next {u : State} (e : exec c s = .next u) (k : QueueLawsKept s u) : QueueLawsKept s t :=
    Host.Outcome.next.inj (e.symm.trans h) ▸ k
  cases c with
  | powerUp | resetInput => exact next rfl (.of_cleared rfl rfl)
  | encoderCount e time =>
    refine next rfl (timed_queueLawsKept (fun u => ?_) time s)
    split
    · cases e with
      | forward | reverse => exact takeCount_queueLawsKept _ _ u
      | together => exact .refl u
    · exact .refl u
  | simulatedCount time =>
    refine next rfl (timed_queueLawsKept (fun u => ?_) time s)
    split
    · split
      · exact simulate_queueLawsKept _ u
      · exact .refl u
    · exact .refl u
  | buildBegin =>
    refine next rfl (queueLawsKept_blind.unlessHeld (fun u => ?_) s)
    split
    · next begins => exact watchCeiling_queueLawsKept (beginBuild_queueLawsKept begins)
    · exact .refl u
  | append =>
    refine next rfl (queueLawsKept_blind.unlessHeld (fun u => ?_) s)
    split
    · next ready => exact afterAppend_queueLawsKept ready
    · exact .refl u
  | disarm port =>
    exact next rfl (queueLawsKept_blind.command (fun u _ => .of_cleared u.clearRun_queue u.clearRun_builder) port _ _ s)
  | restart port =>
    exact next rfl (queueLawsKept_blind.command
      (fun u _ => .of_cleared u.purge.clearRun_queue u.purge.clearRun_builder) port _ _ s)
  | continueRun port =>
    exact next rfl (queueLawsKept_blind.command (fun u _ => continueEffect_queueLawsKept u) port _ _ s)
  | _ => exact absurd rfl hc

/-- Settles O54: a tick moves no record, and every command and event keeps the laws of the queue. -/
theorem stepsKeepTheQueueLaws : Obligations.StepsKeepTheQueueLaws := by
  intro s t h
  have kept : QueueLawsKept s t := by
    rcases step_cases h with rfl | ⟨c, rest, -, h⟩
    · exact QueueStill.lawsKept (.of_same rfl rfl)
    · have popped : QueueStill s { s with pending := rest } := .of_same rfl rfl
      exact popped.lawsKept.trans (exec_queueLawsKept h)
  exact ⟨kept.room, kept.backlog, kept.numbers⟩

end Sys2Proof.Machine
end


section
/-! GET_BAR and QUEUE_READ: the bar and the record as they are read back. -/

namespace Sys2Proof.Machine

/-! ### Flags in a byte -/

/-- A flag's weight in a byte. -/
theorem weight_eq (b : Bool) (n : Nat) : (if b = true then n else 0) = n * b.toNat := by cases b <;> simp

/-- R111: bit 0 for the take timer, bit 1 for the move timer. -/
theorem timersByte_eq (c : Chain) : c.timersByte =
    (if c.takeTimer.isSome then 1 else 0) + (if c.moveTimer.isSome then 2 else 0) := by
  simp only [Chain.timersByte, packFlags, weight_eq]
  omega

/-- R106: the flags of a record, bit by bit. -/
theorem flagsByte_eq (r : Record) : r.flagsByte =
    (if r.isOpen then 1 else 0) + (if r.segmentStart then 2 else 0) + (if r.stopMark then 4 else 0) +
      (if r.articleEnd then 8 else 0) + (if r.remapped then 16 else 0) + (if r.clamped then 32 else 0) +
      (if r.longShog then 64 else 0) := by
  simp only [Record.flagsByte, packFlags, weight_eq]
  omega

/-! ### GET_BAR (R111) -/

/-- The order fields of a bar: none while no order is outstanding. -/
def Bar.orderBytes (bar : Bar) : List Byte := (bar.handshake.chain?.map Chain.bytes).getD []

theorem orderBytes_free {bar : Bar} (h : bar.outstanding = false) : bar.orderBytes = [] := by
  have none : bar.handshake.chain? = none := by simpa [Bar.outstanding] using h
  simp [Bar.orderBytes, none]

theorem orderBytes_outstanding {bar : Bar} {c : Chain} (h : bar.handshake = .posted c ∨ bar.handshake = .moving c) :
    bar.orderBytes = c.bytes := by
  rcases h with h | h <;> simp [Bar.orderBytes, Handshake.chain?, h]

/-- The bar's own fields, and the fields of its order. -/
theorem getBarData_eq (b : Nat) (s : State) : getBarData b s =
    fieldFlag (s.bar b).enabled ++ field1 (s.bar b).lane ++ field1 (s.bar b).address ++ field1 (s.bar b).cls ++
      field1 (s.bar b).limit ++ field1 ((s.bar b).known.getD 0xFF) ++ field1 (s.bar b).handshake.code ++
      field1 (s.bar b).driveCode ++ (s.bar b).orderBytes := by
  unfold getBarData Bar.orderBytes
  dsimp only
  cases (s.bar b).handshake.chain? <;> rfl

/-! ### QUEUE_READ (R106) -/

theorem recordList_eq {list : Nat} (h : list ≤ 1) (s : State) :
    s.recordList list = if list = 0 then s.queue.records else s.queue.history := by
  match list, h with
  | 0, _ => rfl
  | 1, _ => rfl

theorem queueReadData_eq {list index : Nat} {r : Record} {s : State} (h : (s.recordList list)[index]? = some r) :
    queueReadData list index s = field1 (s.recordList list).length ++ r.bytes := by
  simp [queueReadData, h]

/-- What QUEUE_READ answers: BAD_VALUE for a list or an index that does not exist, and otherwise its data. -/
theorem queueRead_judges {p : Port} {s : State} (h : s.accepts p) (list index : Nat) :
    Judges [(1 < list || (s.recordList list).length ≤ index, .badValue)]
      (fun status => Refuses p status s (s.command p false (.queueRead p list index)
        (judged (queueReadRefusal list index) id (queueReadData list index))))
      (Answers p .ok (queueReadData list index s) s (s.command p false (.queueRead p list index)
        (judged (queueReadRefusal list index) id (queueReadData list index)))) := by
  have lists (f : List Byte) : (s.receive p f).recordList list = s.recordList list := by cases p <;> rfl
  refine command_judges h (by simp) ?_ (State.receive_eq p _ s) rfl ?_
  · rw [queueReadRefusal, lists]
  · rw [queueReadData, lists, queueReadData]

/-- Settles O49: each read answers its fields in their order, and refuses what its rule refuses. -/
theorem barsAndRecordsAreReadBack : Obligations.BarsAndRecordsAreReadBack := by
  intro p s h
  refine ⟨fun b => ⟨_, rfl, ?_⟩,
    fun list index records hrecords => ⟨_, rfl, fun missing => ?_, fun r known hr => ?_⟩⟩
  · have answers := reading_answers (i := .getBar p b) (refusal := barRefusal b) (data := getBarData b) h rfl
      (by cases p <;> rfl)
    split
    · next beyond => rwa [if_pos beyond] at answers
    · next inside =>
      rw [if_neg inside, getBarData_eq] at answers
      refine ⟨(s.bar b).orderBytes, ?_, orderBytes_free, fun c hc => ?_⟩
      · cases hs : (s.bar b).handshake <;> rw [hs] at answers <;> exact answers
      · rw [orderBytes_outstanding hc, Chain.bytes, timersByte_eq]
        cases c.order.kind <;> cases c.order.deadline with
        | none => rfl
        | some d => cases d <;> rfl
  · refine judges_refused ?_ (queueRead_judges h list index)
    by_cases known : list ≤ 1
    · rw [recordList_eq known, ← hrecords]
      simpa using missing
    · simp [Nat.lt_of_not_le known]
  · rw [← recordList_eq known] at hrecords
    subst hrecords
    have inside := (List.getElem?_eq_some_iff.mp hr).1
    have answers := judges_passed (by simp [Nat.not_lt.mpr known, inside]) (queueRead_judges h list index)
    rw [queueReadData_eq hr, Record.bytes, flagsByte_eq] at answers
    exact answers

end Sys2Proof.Machine
end


section
/-! DISARM, RESTART, CLEAR_STOP and CONTINUE: their tests, and the part that each leaves. -/

namespace Sys2Proof.Machine

/-! ### CONTINUE (R104, R105) -/

theorem clearFirstMark_unmarked : ∀ {l : List Record}, (∀ r ∈ l, r.stopMark = false) → clearFirstMark l = l
  | [], _ => rfl
  | r :: rest, h => by
    rw [clearFirstMark, if_neg (by simp [h r]), clearFirstMark_unmarked fun x hx => h x (List.mem_cons_of_mem r hx)]

/-- R105: the first record that carries a mark loses it. -/
theorem clearFirstMark_marked {r : Record} {rest : List Record} (marked : r.stopMark = true) :
    ∀ {front : List Record}, (∀ x ∈ front, x.stopMark = false) →
      clearFirstMark (front ++ r :: rest) = front ++ { r with stopMark := false } :: rest
  | [], _ => by rw [List.nil_append, clearFirstMark, if_pos marked, List.nil_append]
  | x :: front, h => by
    rw [List.cons_append, clearFirstMark, if_neg (by simp [h x]),
      clearFirstMark_marked marked fun y hy => h y (List.mem_cons_of_mem x hy), List.cons_append]

/-- Behind a head without a mark a position contributes what it does without the head. -/
theorem contribution_cons {ended : Bool} {r : Record} (rest : List Record) (j : Nat) (unmarked : ¬r.Marked) :
    contribution ended (r :: rest) (j + 1) = contribution ended rest j := by
  obtain ⟨stop, goesOn⟩ := not_or.mp unmarked
  simp [contribution, stop, goesOn]

/-- R103, R105: a position contributed 0, or its contribution stands without the mark. -/
theorem contribution_clearFirstMark (ended : Bool) : ∀ (l : List Record) (j : Nat),
    contribution ended l j = some 0 ∨ contribution ended (clearFirstMark l) j = contribution ended l j
  | [], _ => .inr rfl
  | r :: rest, 0 => .inr (by unfold clearFirstMark; split <;> rfl)
  | r :: rest, j + 1 => by
    by_cases marked : r.Marked
    · exact .inl (contribution_behind_mark (Nat.zero_lt_succ j) rfl marked)
    · obtain ⟨stop, -⟩ := not_or.mp marked
      rw [clearFirstMark, if_neg stop, contribution_cons _ j marked, contribution_cons _ j marked]
      exact contribution_clearFirstMark ended rest j

/-- The part with the first mark from the head cleared. -/
def State.continued (s : State) : State := { s with queue := { s.queue with records := clearFirstMark s.queue.records } }

/-- R104: a cleared mark never lowers the governing ceiling. -/
theorem governingCeiling_le_continued (s : State) : s.governingCeiling ≤ s.continued.governingCeiling := by
  by_cases idle : s.run.state ≠ .running ∨ s.queue.records = []
  · rw [governingCeiling_idle idle]
    exact Nat.zero_le _
  obtain ⟨running, nonempty⟩ := not_or.mp idle
  rw [not_not] at running
  have continues : s.continued.queue.records ≠ [] := fun empty =>
    nonempty (List.map_eq_nil_iff.mp ((map_clearFirstMark (read := Record.number) (fun _ => rfl) _).symm.trans
      (congrArg _ empty)))
  by_cases ahead : 0 < s.constants.lookAhead
  · refine (le_governingCeiling_iff (s := s.continued) running continues ahead).mpr fun j hj c hc => ?_
    rcases contribution_clearFirstMark s.builder.ended s.queue.records j with zero | stands
    · rw [governingCeiling_zero (s := s) hj zero]
      exact Nat.zero_le c
    · exact (le_governingCeiling_iff running nonempty ahead).mp le_rfl j hj c (stands ▸ hc)
  · simp [State.governingCeiling, Nat.eq_zero_of_not_pos ahead]

/-- R104: a watched step that does not lower the governing ceiling raises nothing. -/
theorem watchCeiling_of_le {f : State → State} {s : State} (h : s.governingCeiling ≤ (f s).governingCeiling) :
    s.watchCeiling f = f s := by
  simp [State.watchCeiling, State.raiseIf, Nat.not_lt.mpr h]

/-- CONTINUE raises no event. -/
theorem continueEffect_eq (s : State) : continueEffect s = s.continued :=
  watchCeiling_of_le (f := State.continued) (governingCeiling_le_continued s)

/-- An accepted CONTINUE leaves the queue with these records. -/
theorem continueRun_accepts {s : State} (h : s.accepts .m) :
    Accepts .m s.continued (s.command .m true (.continueRun .m) (judged (fun _ => none) continueEffect fun _ => [])) :=
  command_answers_ok h (fun _ => rfl) rfl (continueEffect_eq _) rfl rfl

/-! ### DISARM (R139) -/

/-- R139: the tests of DISARM and the return to HALTED. -/
theorem disarm_judges {s : State} (h : s.accepts .m) :
    Judges [(s.run.state == .halted || s.run.state == .placing, .state), (s.tracker.motion != .still, .moving),
        (s.anyOutstanding, .busy)]
      (fun status => Refuses .m status s
        (s.command .m true (.disarm .m) (judged disarmRefusal State.clearRun fun _ => [])))
      (Accepts .m s.clearRun (s.command .m true (.disarm .m) (judged disarmRefusal State.clearRun fun _ => []))) :=
  command_judges h (fun _ => rfl) rfl rfl rfl rfl

/-! ### RESTART (R127, R140) -/

/-- An accepted RESTART is the purge, the return to HALTED, and its answer. -/
theorem restart_eq {s : State} (h : s.accepts .m) :
    s.command .m true (.restart .m) (judged (fun _ => none) restartEffect fun _ => []) =
      (s.receive .m (commandFrame (.restart .m))).purge.clearRun.setSlot .m (.ready { status := .ok, data := [] }) :=
  command_ok h (fun _ => rfl) rfl

/-- R127: BAR_LOST where a bar of the table had an order outstanding. -/
theorem purge_barLost {s u : State} (bars : u.bars = s.bars)
    (h : ∃ b, b < s.bars.length ∧ (s.bar b).outstanding = true) : BothShow .barLost u.purge :=
  bothShow_raiseIf (by rw [bars]; exact any_bars.mpr h) _ _

/-- The return to HALTED leaves the ports. -/
theorem BothShow.clearRun {e : Event} {s : State} (h : BothShow e s) : BothShow e s.clearRun := fun p => by
  cases p with
  | m => exact h .m
  | d => exact h .d

/-- A port with the mask and the chip select's flag of another differs from it in the rest alone. -/
theorem PortState.eq_of_mask_deaf {x y : PortState} (mask : y.mask = x.mask) (deaf : y.deaf = x.deaf) :
    y = { x with
      transaction := y.transaction, slot := y.slot, discard := y.discard, shiftedOut := y.shiftedOut,
      events := y.events } := by
  cases y
  cases mask
  cases deaf
  rfl

/-- An accepted RESTART: the lane purge and the return to HALTED, with the answer in port M's slot. -/
theorem restart_answers {s v t : State} (side : RunSide (s.receive .m (commandFrame (.restart .m))) v)
    (ht : t = v.clearRun.setSlot .m (.ready { status := .ok, data := [] })) :
    (t.port .m).slot = .ready { status := .ok, data := [] } ∧
    OnlyRaises { s with portM := { s.portM with
      transaction := t.portM.transaction, slot := t.portM.slot, discard := t.portM.discard,
      shiftedOut := t.portM.shiftedOut } } t ∧
    KeepsCells s t ∧
    t = { s with
      queue := CourseQueue.initial, builder := Builder.initial, run := RunControl.initial,
      arbiter := { s.arbiter with fetchWaiting := false }, bars := t.bars, lanes := t.lanes, portM := t.portM,
      portD := t.portD } := by
  have raisedM := side.ports .m
  have raisedD := side.ports .d
  have frame := side.eq
  subst ht
  refine ⟨rfl, fun p => ?_, fun a => ?_, ?_⟩
  · cases p with
    | m => exact ⟨PortState.eq_of_mask_deaf raisedM.mask raisedM.deaf, raisedM.events⟩
    | d => exact ⟨raisedD.eq, raisedD.events⟩
  · rw [State.setSlot_memory, State.clearRun_memory, side.memory, State.receive_memory]
  · rw [frame]
    rfl

/-- Settles O52: DISARM by its tests, RESTART by the purge, and CONTINUE by the first mark from the head. -/
theorem runsAreLeftAndContinued : Obligations.RunsAreLeftAndContinued := by
  unfold Obligations.RunsAreLeftAndContinued
  rintro q builder run arbiter s h rfl rfl rfl rfl
  refine ⟨⟨_, rfl, ?_⟩, ⟨_, rfl, ?_⟩, ⟨_, rfl, ?_⟩,
    ⟨_, rfl, fun unmarked => ?_, fun front r rest records free marked => ?_⟩⟩
  · exact judges_ite (by simp) (fun _ => judges_ite (by simp) fun _ => judges_ite (anyOutstanding_iff s) fun _ => id)
      (disarm_judges h)
  · obtain ⟨slot, raises, cells, frame⟩ := restart_answers (purge_runSide _) (restart_eq h)
    refine ⟨slot, raises, cells, frame, fun b => bar_of_map (f := Bar.purge) ?_ rfl,
      fun g => lane_of_map (f := Lane.purge) ?_ rfl g, fun lost => ?_⟩ <;> rw [restart_eq h]
    · simp
    · simp
    · exact (purge_barLost (State.receive_bars _ _ s) lost).clearRun.setSlot _ _
  · exact command_answers_ok h (fun _ => rfl) rfl rfl rfl rfl
  · have accepts := continueRun_accepts h
    rwa [State.continued, clearFirstMark_unmarked unmarked] at accepts
  · have accepts := continueRun_accepts h
    rwa [State.continued, records, clearFirstMark_marked marked free] at accepts

end Sys2Proof.Machine
end


section
/-! What keeps the configuration law of the bars (R109) and the law of the lane queues (R116): every bar keeps its seat, and
a lane's queue loses entries or takes one of a POSTED bar that has none. -/

namespace Sys2Proof.Machine

/-! ### The bars whose orders stand in a queue -/

/-- The bars whose orders stand in a lane's queue, head first (R116). -/
def State.queued (g : Nat) (s : State) : List Nat := (s.lane g).queue.map LaneEntry.bar

/-- R109 and R116, with what keeps them. -/
structure State.OrderLaws (s : State) : Prop where
  bars : s.BarLaw
  lanes : s.LaneLaw
  entries : s.LaneEntriesLaw

theorem bar_of_bars {s t : State} (h : t.bars = s.bars) (n : Nat) : t.bar n = s.bar n := by
  rw [State.bar, h]
  rfl

theorem queued_of_lanes {s t : State} (h : t.lanes = s.lanes) (g : Nat) : t.queued g = s.queued g := by
  rw [State.queued, State.lane, h]
  rfl

/-- A bar with an entry in a lane's queue is an enabled, POSTED bar of that lane. -/
theorem State.OrderLaws.of_queued {s : State} (law : s.OrderLaws) {g n : Nat} (h : n ∈ s.queued g) :
    n < 48 ∧ (s.bar n).lane = g ∧ (s.bar n).enabled = true ∧ ∃ c, (s.bar n).handshake = .posted c := by
  obtain ⟨e, he, rfl⟩ := List.mem_map.mp h
  exact law.entries.1 g e he

/-- A bar that is not POSTED has no entry. -/
theorem State.OrderLaws.not_queued {s : State} (law : s.OrderLaws) {b : Nat}
    (h : ∀ c, (s.bar b).handshake ≠ .posted c) (g : Nat) : b ∉ s.queued g := fun hb => by
  obtain ⟨-, -, -, c, hc⟩ := law.of_queued hb
  exact h c hc

/-- R129: where an entry stands the source is not SIMULATED. -/
theorem State.OrderLaws.wet {s : State} (law : s.OrderLaws) {g n : Nat} (h : n ∈ s.queued g) :
    s.tracker.source ≠ .simulated := fun dry => by
  rw [State.queued, law.entries.2.2 dry g] at h
  cases h

/-- R129: with the source SIMULATED no entry stands. -/
theorem State.OrderLaws.dry {s : State} (law : s.OrderLaws) (h : s.tracker.source = .simulated) (g n : Nat) :
    n ∉ s.queued g := fun hn => law.wet hn h

/-- R116: a lane's queue is no longer than the lane has enabled bars. -/
theorem laneLaw_of_queued {s : State} (bars : s.BarLaw)
    (entries : ∀ g, ∀ n ∈ s.queued g, n < 48 ∧ (s.bar n).lane = g ∧ (s.bar n).enabled = true)
    (nodup : ∀ g, (s.queued g).Nodup) : s.LaneLaw := fun g => by
  have sub : s.queued g ⊆ s.enabledOn g := fun n hn => by
    obtain ⟨hn, lane, enabled⟩ := entries g n hn
    simp [State.enabledOn, hn, lane, enabled]
  have short := (List.subperm_of_subset (nodup g) sub).length_le
  rw [State.queued, List.length_map] at short
  exact ⟨nodup g, short.trans (bars.2 g)⟩

/-! ### Seats -/

/-- A bar keeps its configuration (R107), and is OFF or not as it was. -/
structure Bar.SameSeat (x y : Bar) : Prop where
  enabled : y.enabled = x.enabled
  lane : y.lane = x.lane
  address : y.address = x.address
  off : y.handshake = .off ↔ x.handshake = .off

theorem Bar.SameSeat.refl (x : Bar) : x.SameSeat x := ⟨rfl, rfl, rfl, .rfl⟩

theorem Bar.SameSeat.trans {x y z : Bar} (h : x.SameSeat y) (k : y.SameSeat z) : x.SameSeat z :=
  ⟨k.enabled.trans h.enabled, k.lane.trans h.lane, k.address.trans h.address, k.off.trans h.off⟩

/-- A new handshake state and known position, neither OFF before nor after, leave the seat. -/
theorem Bar.SameSeat.of_on {x y : Bar} (enabled : y.enabled = x.enabled) (lane : y.lane = x.lane)
    (address : y.address = x.address) (before : x.handshake ≠ .off) (after : y.handshake ≠ .off) : x.SameSeat y :=
  ⟨enabled, lane, address, iff_of_false after before⟩

/-- Every bar keeps its seat, and the tables of bars and lanes their sizes. -/
structure SeatsKept (s t : State) : Prop where
  bar : ∀ n, (s.bar n).SameSeat (t.bar n)
  bars : t.bars.length = s.bars.length
  lanes : t.lanes.length = s.lanes.length

theorem SeatsKept.refl (s : State) : SeatsKept s s := ⟨fun _ => .refl _, rfl, rfl⟩

theorem SeatsKept.trans {s t u : State} (h : SeatsKept s t) (k : SeatsKept t u) : SeatsKept s u :=
  ⟨fun n => (h.bar n).trans (k.bar n), k.bars.trans h.bars, k.lanes.trans h.lanes⟩

theorem SeatsKept.of_same {s t : State} (bars : t.bars = s.bars) (lanes : t.lanes = s.lanes) : SeatsKept s t :=
  ⟨fun n => by rw [bar_of_bars bars]; exact .refl _, by rw [bars], by rw [lanes]⟩

/-- R109 is a law of the seats. -/
theorem SeatsKept.barLaw {s t : State} (h : SeatsKept s t) (law : s.BarLaw) : t.BarLaw := by
  unfold State.BarLaw State.enabledOn
  simp only [(h.bar _).enabled, (h.bar _).lane, (h.bar _).address]
  exact law

/-- Laws kept where the seats are, the queues lose entries at most, and every bar with an entry left is POSTED; a change of
source leaves no entry. -/
theorem State.OrderLaws.of_seats {s t : State} (law : s.OrderLaws) (seats : SeatsKept s t)
    (queues : ∀ g, (t.queued g).Sublist (s.queued g))
    (posted : ∀ g, ∀ n ∈ t.queued g, ∃ c, (t.bar n).handshake = .posted c)
    (source : t.tracker.source = s.tracker.source ∨ ∀ g, t.queued g = []) : t.OrderLaws := by
  have bars := seats.barLaw law.bars
  have entries (g n : Nat) (hn : n ∈ t.queued g) : n < 48 ∧ (t.bar n).lane = g ∧ (t.bar n).enabled = true := by
    obtain ⟨hb, lane, enabled, -⟩ := law.of_queued ((queues g).mem hn)
    exact ⟨hb, (seats.bar n).lane.trans lane, (seats.bar n).enabled.trans enabled⟩
  refine ⟨bars, laneLaw_of_queued bars entries fun g => (law.lanes g).1.sublist (queues g), fun g e he => ?_,
    fun b => ?_, fun dry g => ?_⟩
  · have hn : e.bar ∈ t.queued g := List.mem_map_of_mem he
    obtain ⟨hb, lane, enabled⟩ := entries g e.bar hn
    exact ⟨hb, lane, enabled, posted g e.bar hn⟩
  · rw [(seats.bar b).off, (seats.bar b).enabled]
    exact law.entries.2.1 b
  · have empty : t.queued g = [] := by
      rcases source with same | empty
      · exact List.eq_nil_iff_forall_not_mem.mpr fun n hn => law.dry (same ▸ dry) g n ((queues g).mem hn)
      · exact empty g
    exact List.map_eq_nil_iff.mp empty

/-! ### Steps of the lanes -/

/-- From `s` to `t` the bars keep their seats, and the laws of the bars and lanes hold as they held. -/
structure LanesKept (s t : State) : Prop where
  seats : SeatsKept s t
  orders : s.OrderLaws → t.OrderLaws
  transmits : s.LaneTransmitsLaw → t.LaneTransmitsLaw

theorem LanesKept.refl (s : State) : LanesKept s s := ⟨.refl s, id, id⟩

theorem LanesKept.trans {s t u : State} (h : LanesKept s t) (k : LanesKept t u) : LanesKept s u :=
  ⟨h.seats.trans k.seats, k.orders ∘ h.orders, k.transmits ∘ h.transmits⟩

/-- The bars, the lanes and the source stand. -/
theorem LanesKept.of_same {s t : State} (bars : t.bars = s.bars) (lanes : t.lanes = s.lanes)
    (source : t.tracker.source = s.tracker.source) : LanesKept s t := by
  refine ⟨.of_same bars lanes, fun law => ?_, fun law g => ?_⟩
  · refine law.of_seats (.of_same bars lanes) (fun g => by rw [queued_of_lanes lanes]) (fun g n hn => ?_) (.inl source)
    rw [queued_of_lanes lanes] at hn
    rw [bar_of_bars bars]
    exact (law.of_queued hn).2.2.2
  · rw [State.lane, lanes]
    exact law g

theorem LanesKept.foldl {f : State → Nat → State} (l : List Nat) (h : ∀ b ∈ l, ∀ s, LanesKept s (f s b)) (s : State) :
    LanesKept s (l.foldl f s) := foldl_rel .refl .trans l h s

theorem raise_lanesKept (e : Event) (s : State) : LanesKept s (s.raise e) := .of_same rfl rfl rfl

theorem raiseIf_lanesKept (c : Bool) (e : Event) (s : State) : LanesKept s (s.raiseIf c e) :=
  .of_same (by simp) (by simp) (by simp)

theorem setCause_lanesKept (c : StopCause) (s : State) : LanesKept s (s.setCause c) :=
  .of_same (by simp) (by simp) (by simp)

/-! ### One bar -/

theorem setBar_cases (b n : Nat) (x : Bar) (s : State) :
    (s.setBar b x).bar n = s.bar n ∨ (n = b ∧ (s.setBar b x).bar n = x) := getD_set_cases _ _ _ _ _

theorem setBar_seats {b : Nat} {x : Bar} {s : State} (seat : (s.bar b).SameSeat x) : SeatsKept s (s.setBar b x) := by
  refine ⟨fun n => ?_, by simp, rfl⟩
  rcases setBar_cases b n x s with e | ⟨rfl, e⟩ <;> rw [e]
  · exact .refl _
  · exact seat

/-- A bar that keeps its seat, and stays POSTED while it has an entry. -/
theorem setBar_lanesKept {b : Nat} {x : Bar} {s : State} (seat : (s.bar b).SameSeat x)
    (h : s.OrderLaws → (∃ c, x.handshake = .posted c) ∨ ∀ g, b ∉ s.queued g) : LanesKept s (s.setBar b x) := by
  refine ⟨setBar_seats seat, fun law => ?_, id⟩
  refine law.of_seats (setBar_seats seat) (fun _ => .refl _) (fun g n hn => ?_) (.inl rfl)
  rcases setBar_cases b n x s with e | ⟨rfl, e⟩ <;> rw [e]
  · exact (law.of_queued hn).2.2.2
  · exact (h law).resolve_right fun none => none g hn

/-! ### One lane -/

theorem setLane_cases (g n : Nat) (x : Lane) (s : State) :
    (s.setLane g x).lane n = s.lane n ∨ (n = g ∧ (s.setLane g x).lane n = x) := getD_set_cases _ _ _ _ _

theorem setLane_seats (g : Nat) (x : Lane) (s : State) : SeatsKept s (s.setLane g x) := ⟨fun _ => .refl _, rfl, by simp⟩

/-- A lane whose queue loses entries keeps the laws of the bars and queues. -/
theorem setLane_orderLaws {g : Nat} {x : Lane} {s : State} (law : s.OrderLaws)
    (h : (x.queue.map LaneEntry.bar).Sublist (s.queued g)) : (s.setLane g x).OrderLaws := by
  have queues (n : Nat) : ((s.setLane g x).queued n).Sublist (s.queued n) := by
    unfold State.queued
    rcases setLane_cases g n x s with e | ⟨rfl, e⟩ <;> rw [e]
    exact h
  exact law.of_seats (setLane_seats g x s) queues (fun n m hm => (law.of_queued ((queues n).mem hm)).2.2.2) (.inl rfl)

/-- A lane that loses entries, and does not come to stand free with entries. -/
theorem setLane_lanesKept {g : Nat} {x : Lane} {s : State} (h : (x.queue.map LaneEntry.bar).Sublist (s.queued g))
    (transmits : (s.lane g).Transmits → x.Transmits) : LanesKept s (s.setLane g x) := by
  refine ⟨setLane_seats g x s, fun law => setLane_orderLaws law h, fun law n => ?_⟩
  rcases setLane_cases g n x s with e | ⟨rfl, e⟩ <;> rw [e]
  · exact law n
  · exact transmits (law n)

@[simp] theorem transmit_queued (g n : Nat) (s : State) : (s.transmit g).queued n = s.queued n := by
  simp [State.queued]

theorem transmit_seats (g : Nat) (s : State) : SeatsKept s (s.transmit g) :=
  ⟨fun n => by rw [State.transmit_bar]; exact .refl _, by simp, by simp⟩

theorem transmit_orderLaws {s : State} (law : s.OrderLaws) (g : Nat) : (s.transmit g).OrderLaws := by
  refine law.of_seats (transmit_seats g s) (fun n => by rw [transmit_queued]) (fun n m hm => ?_)
    (.inl (by rw [(transmit_runSide g s).tracker]))
  rw [transmit_queued] at hm
  rw [State.transmit_bar]
  exact (law.of_queued hm).2.2.2

/-- R116: a lane that transmits does not stand free with entries, whatever has become of its queue. -/
theorem transmit_transmitsLaw {g : Nat} {s : State} (h : ∀ n, n ≠ g → (s.lane n).Transmits) :
    (s.transmit g).LaneTransmitsLaw := fun n => by
  by_cases hn : n = g
  · subst hn
    exact State.transmit_transmits n s
  · rw [State.transmit_lane_ne s (Ne.symm hn)]
    exact h n hn

/-! ### An entry joins a queue -/

theorem enqueue_queued (b : Nat) (o : Order) (g : Nat) (s : State) : (s.enqueue b o).queued g = s.queued g ∨
    (g = (s.bar b).lane ∧ (s.enqueue b o).queued g = s.queued g ++ [b]) := by
  by_cases hg : (s.bar b).lane = g
  · subst hg
    by_cases hl : (s.bar b).lane < s.lanes.length
    · exact .inr ⟨rfl, by simp [State.queued, State.enqueue_queue o s hl]⟩
    · refine .inl ?_
      have beyond := Nat.le_of_not_lt hl
      rw [State.queued, State.queued, State.lane_beyond _ (by simpa using beyond), State.lane_beyond s beyond]
  · exact .inl (by rw [State.queued, State.queued, State.enqueue_lane_ne o s hg])

theorem enqueue_seats (b : Nat) (o : Order) (s : State) : SeatsKept s (s.enqueue b o) :=
  ⟨fun n => by rw [State.enqueue_bar]; exact .refl _, by simp, by simp⟩

/-- R116: an entry joins its lane's queue where its bar is POSTED and has none. -/
theorem enqueue_orderLaws {b : Nat} (o : Order) {s : State} (law : s.OrderLaws) (hb : b < 48)
    (posted : ∃ c, (s.bar b).handshake = .posted c) (none : ∀ g, b ∉ s.queued g)
    (wet : s.tracker.source ≠ .simulated) : (s.enqueue b o).OrderLaws := by
  have bars := (enqueue_seats b o s).barLaw law.bars
  have enabled : (s.bar b).enabled = true := by
    obtain ⟨c, hc⟩ := posted
    have on := law.entries.2.1 b
    rw [hc] at on
    simpa using on
  have entries (g n : Nat) (hn : n ∈ (s.enqueue b o).queued g) :
      n < 48 ∧ (s.bar n).lane = g ∧ (s.bar n).enabled = true ∧ ∃ c, (s.bar n).handshake = .posted c := by
    rcases enqueue_queued b o g s with e | ⟨rfl, e⟩ <;> rw [e] at hn
    · exact law.of_queued hn
    · rcases List.mem_append.mp hn with hn | hn
      · exact law.of_queued hn
      · rw [List.mem_singleton.mp hn]
        exact ⟨hb, rfl, enabled, posted⟩
  refine ⟨bars, laneLaw_of_queued bars (fun g n hn => ?_) fun g => ?_, fun g e he => ?_, fun n => ?_, fun dry => ?_⟩
  · rw [State.enqueue_bar]
    obtain ⟨hn, lane, enabled, -⟩ := entries g n hn
    exact ⟨hn, lane, enabled⟩
  · rcases enqueue_queued b o g s with e | ⟨rfl, e⟩ <;> rw [e]
    · exact (law.lanes g).1
    · exact List.nodup_append'.mpr ⟨(law.lanes _).1, by simp, by simpa using none _⟩
  · rw [State.enqueue_bar]
    exact entries g e.bar (List.mem_map_of_mem he)
  · rw [State.enqueue_bar]
    exact law.entries.2.1 n
  · rw [(enqueue_runSide b o s).tracker] at dry
    exact absurd dry wet

theorem enqueue_transmitsLaw {b : Nat} (o : Order) {s : State} (h : ∀ n, n ≠ (s.bar b).lane → (s.lane n).Transmits) :
    (s.enqueue b o).LaneTransmitsLaw :=
  transmit_transmitsLaw fun n hn => by rw [State.lane_setLane_ne s _ (Ne.symm hn)]; exact h n hn

end Sys2Proof.Machine
end


section
/-! The shared operations on bars and lanes, and the lane events, each keep the laws of the bars and the lane queues (R109,
R116). -/

namespace Sys2Proof.Machine

/-- A step that is taken where its condition holds. -/
theorem LanesKept.ite (c : Prop) [Decidable c] {s t : State} (h : LanesKept s t) : LanesKept s (if c then t else s) := by
  split
  · exact h
  · exact .refl s

/-! ### The purge (R127) -/

theorem Bar.purge_sameSeat (x : Bar) : x.SameSeat x.purge := by
  unfold Bar.purge
  split
  · next h =>
    exact .of_on rfl rfl rfl (fun off => by simp [Bar.outstanding, off, Handshake.chain?] at h) (by simp [Bar.lose])
  · exact .refl x

/-- Every bar keeps its seat, every queue is empty, and the tables keep their sizes. -/
theorem LanesKept.of_emptied {s t : State} (seats : SeatsKept s t) (empty : ∀ g, (t.lane g).queue = []) : LanesKept s t := by
  have none (g : Nat) : t.queued g = [] := by rw [State.queued, empty g]; rfl
  refine ⟨seats, fun law => ?_, fun _ g full => absurd (empty g) full⟩
  exact law.of_seats seats (fun g => by rw [none g]; exact List.nil_sublist _) (fun g n hn => by simp [none g] at hn)
    (.inr none)

/-- R127: the lanes are purged. -/
theorem LanesKept.of_purged {s t : State} (bars : t.bars = s.bars.map Bar.purge) (lanes : t.lanes = s.lanes.map Lane.purge) :
    LanesKept s t := by
  refine .of_emptied ⟨fun n => ?_, by simp [bars], by simp [lanes]⟩ fun g => ?_
  · rw [bar_of_map bars rfl]
    exact Bar.purge_sameSeat _
  · rw [lane_of_map lanes rfl]
    rfl

theorem purge_lanesKept (s : State) : LanesKept s s.purge := .of_purged (State.purge_bars s) (State.purge_lanes s)

theorem hardFault_lanesKept (k : FaultKind) (b c : Option Nat) (s : State) : LanesKept s (s.hardFault k b c) := by
  have entered : LanesKept s (s.enterFaulted k b c) :=
    .of_purged (State.enterFaulted_bars k b c s) (State.enterFaulted_lanes k b c s)
  unfold State.hardFault
  split
  · exact entered
  · exact entered
  · split
    · exact entered
    · exact .refl s
  · exact .of_same rfl rfl rfl
  · exact .refl s

theorem barFault_lanesKept (k : FaultKind) (b : Nat) (s : State) : LanesKept s (s.barFault k b) :=
  (raise_lanesKept _ s).trans (hardFault_lanesKept k _ _ _)

/-! ### Postings (R117, R129) -/

/-- A bar that is not OFF is a bar of the table. -/
theorem State.bar_of_on {s : State} {b : Nat} (h : (s.bar b).handshake ≠ .off) : b < s.bars.length := by
  by_contra beyond
  exact h (by rw [State.bar_beyond (Nat.le_of_not_lt beyond)]; rfl)

theorem setPosted_seat {b : Nat} (o : Order) (c : Chain) {s : State} (on : (s.bar b).handshake ≠ .off) :
    (s.bar b).SameSeat { s.bar b with known := (s.bar b).knownAfterPosting o, handshake := .posted c } :=
  .of_on rfl rfl rfl on (by simp)

theorem setPosted_lanesKept {b : Nat} (o : Order) (c : Chain) {s : State} (on : (s.bar b).handshake ≠ .off) :
    LanesKept s (s.setPosted b o c) := setBar_lanesKept (setPosted_seat o c on) fun _ => .inl ⟨c, rfl⟩

/-- A bar without an entry is POSTED and its entry joins its lane's queue. -/
theorem setPosted_enqueue_lanesKept {b : Nat} (o : Order) (c : Chain) {s : State} (hb : b < 48)
    (on : (s.bar b).handshake ≠ .off) (free : ∀ c, (s.bar b).handshake ≠ .posted c) (wet : s.tracker.source ≠ .simulated) :
    LanesKept s ((s.setPosted b o c).enqueue b o) := by
  have posted := setPosted_lanesKept o c on
  refine ⟨posted.seats.trans (enqueue_seats b o _), fun law => ?_, fun law => ?_⟩
  · refine enqueue_orderLaws o (posted.orders law) hb ⟨c, ?_⟩ (law.not_queued free) wet
    rw [State.setPosted, State.bar_setBar s _ (State.bar_of_on on)]
  · exact enqueue_transmitsLaw o fun n _ => law n

/-- The bars left in a queue by the removal of one. -/
theorem Lane.remove_bars (b : Nat) (x : Lane) :
    (x.remove b).queue.map LaneEntry.bar = (x.queue.map LaneEntry.bar).filter fun n => n != b := by
  simp [Lane.remove, List.filter_map, Function.comp_def]

/-- A replaced entry keeps its bar and its place. -/
theorem Lane.replace_bars (b : Nat) (o : Order) (x : Lane) :
    (x.replace b o).queue.map LaneEntry.bar = x.queue.map LaneEntry.bar := by
  unfold Lane.replace
  rw [List.map_map]
  refine List.map_congr_left fun e _ => ?_
  by_cases he : e.bar = b <;> simp [he]

/-- A bar's entry leaves the queue of its lane. -/
theorem remove_lanesKept {b g : Nat} {s : State} (h : (s.lane g).sentIs b = false) :
    LanesKept s (s.setLane g ((s.lane g).remove b)) :=
  setLane_lanesKept (by rw [Lane.remove_bars]; exact List.filter_sublist) fun law => (Lane.remove_aside b _ h law).1

/-- A bar has no entry once its entry has left its own lane's queue (R116). -/
theorem State.OrderLaws.not_queued_removed {s : State} (law : s.OrderLaws) (b g : Nat) :
    b ∉ (s.setLane (s.bar b).lane ((s.lane (s.bar b).lane).remove b)).queued g := by
  intro hb
  unfold State.queued at hb
  rcases setLane_cases (s.bar b).lane g ((s.lane (s.bar b).lane).remove b) s with e | ⟨rfl, e⟩
  · rw [e] at hb
    obtain ⟨-, rfl, -⟩ := law.of_queued hb
    by_cases hl : (s.bar b).lane < s.lanes.length
    · rw [State.lane_setLane s _ hl] at e
      rw [← e, Lane.remove_bars] at hb
      simp at hb
    · rw [State.lane_beyond s (Nat.le_of_not_lt hl)] at hb
      cases hb
  · rw [e, Lane.remove_bars] at hb
    simp at hb

/-- R117: an order withdrawn before its entry is sent. -/
theorem withdraw_lanesKept {b : Nat} {s : State} {c : Chain} (posted : (s.bar b).handshake = .posted c)
    (unsent : (s.lane (s.bar b).lane).sentIs b = false) :
    LanesKept s ((s.setBar b { s.bar b with handshake := .idle }).setLane (s.bar b).lane
      ((s.lane (s.bar b).lane).remove b)) := by
  have removed := remove_lanesKept (s := s) unsent
  have idle : (s.bar b).SameSeat { s.bar b with handshake := .idle } := .of_on rfl rfl rfl (by simp [posted]) (by simp)
  refine ⟨removed.seats.trans (setBar_seats (s := s.setLane _ _) idle), fun law => ?_, removed.transmits⟩
  exact (setBar_lanesKept (s := s.setLane _ _) idle fun _ => .inr (law.not_queued_removed b)).orders (removed.orders law)

/-- R117: a posting keeps the laws. -/
theorem postWet_lanesKept {b : Nat} (o : Order) {s : State} (hb : b < 48) (wet : s.tracker.source ≠ .simulated) :
    LanesKept s (s.postWet b o) := by
  unfold State.postWet
  dsimp only
  split
  · exact .refl s
  · next h => exact setPosted_enqueue_lanesKept o _ hb (by simp [h]) (by simp [h]) wet
  · next h => exact setPosted_enqueue_lanesKept o _ hb (by simp [h]) (by simp [h]) wet
  · next h =>
    split
    · exact setPosted_lanesKept o _ (by simp [h])
    · next unsent =>
      split
      · exact withdraw_lanesKept h (by simpa using unsent)
      · refine (setPosted_lanesKept o _ (by simp [h])).trans (setLane_lanesKept ?_ ?_)
        · rw [Lane.replace_bars]
          exact .refl _
        · exact fun law => (Lane.replace_aside b b o _ law).1
  · next h => exact setPosted_enqueue_lanesKept o _ hb (by simp [h]) (by simp [h]) wet

theorem post_lanesKept {b : Nat} (o : Order) (s : State) (hb : b < 48) : LanesKept s (s.post b o) := by
  unfold State.post
  split
  · next takes =>
    have on : (s.bar b).handshake ≠ .off := fun off => by simp [Bar.takesOrder, off] at takes
    split
    · next dry => exact setBar_lanesKept (.of_on rfl rfl rfl on (by simp)) fun law => .inr fun g => law.dry dry g b
    · next wet => exact postWet_lanesKept o hb wet
  · exact .refl s

theorem orderTo_lanesKept {b : Nat} (x : Nat) (d : Option Deadline) (s : State) (hb : b < 48) :
    LanesKept s (s.orderTo b x d) := by
  unfold State.orderTo
  split
  · exact .refl s
  · exact post_lanesKept _ s hb

/-! ### Placement (R133, R134) -/

theorem completePlacement_lanesKept (s : State) : LanesKept s s.completePlacement := by
  unfold State.completePlacement
  split <;> exact .of_same rfl rfl rfl

theorem placeOne_lanesKept (ts : List (Option Nat)) {b : Nat} (hb : b < 48) (s : State) : LanesKept s (s.placeOne ts b) := by
  unfold State.placeOne
  split
  · split
    · exact orderTo_lanesKept _ none s hb
    · exact .refl s
  · exact .refl s

theorem tryPlacement_lanesKept (s : State) : LanesKept s s.tryPlacement := by
  by_cases asks : ∃ zones, Asks zones s
  · obtain ⟨zones, asks⟩ := asks
    have fixed : LanesKept s (s.fixing zones) := .of_same rfl rfl rfl
    have placed : LanesKept (s.fixing zones) (s.placing zones) :=
      .foldl _ (fun b hb u => placeOne_lanesKept _ (List.mem_range.mp hb) u) _
    rw [tryPlacement_asks asks]
    exact .ite _ ((fixed.trans placed).trans (completePlacement_lanesKept _))
  · have stands : s.tryPlacement = s := by
      unfold State.tryPlacement
      split
      · next state placement => exact absurd ⟨_, state, placement⟩ asks
      · rfl
    rw [stands]
    exact .refl s

/-! ### Crossings (R113, R114) -/

@[simp] theorem Bar.passDeadline_address (d : Deadline) (bar : Bar) : (bar.passDeadline d).address = bar.address := by
  rcases bar.passDeadline_cases d with h | ⟨c, -, ⟨hc, h⟩ | ⟨hc, h⟩⟩ <;> simp [h]

theorem Bar.passDeadline_sameSeat (d : Deadline) (x : Bar) : x.SameSeat (x.passDeadline d) := by
  refine ⟨by simp, by simp, by simp, ?_⟩
  rcases x.passDeadline_cases d with h | ⟨c, -, ⟨hc, h⟩ | ⟨hc, h⟩⟩ <;> simp [*]

theorem Bar.passDeadline_isPosted {x : Bar} {c : Chain} (d : Deadline) (h : x.handshake = .posted c) :
    ∃ c', (x.passDeadline d).handshake = .posted c' := by
  rcases x.passDeadline_cases d with e | ⟨c', -, ⟨-, e⟩ | ⟨hc, -⟩⟩
  · exact ⟨c, by rw [e, h]⟩
  · exact ⟨_, by rw [e]⟩
  · cases h.symm.trans hc

/-- R114: a passed deadline leaves every bar its seat and its entry. -/
theorem deadlineCrossing_lanesKept (d : Deadline) (s : State) : LanesKept s (s.deadlineCrossing d) := by
  have lanes := deadlineCrossing_lanes d s
  have seats : SeatsKept s (s.deadlineCrossing d) :=
    ⟨fun n => by rw [deadlineCrossing_bar]; exact Bar.passDeadline_sameSeat d _, by simp, by rw [lanes]⟩
  refine ⟨seats, fun law => ?_, fun law g => by rw [State.lane, lanes]; exact law g⟩
  refine law.of_seats seats (fun g => by rw [queued_of_lanes lanes]) (fun g n hn => ?_)
    (.inl (by rw [(deadlineCrossing_runSide d s).tracker]))
  rw [queued_of_lanes lanes] at hn
  obtain ⟨-, -, -, c, hc⟩ := law.of_queued hn
  rw [deadlineCrossing_bar]
  exact Bar.passDeadline_isPosted d hc

theorem deadlinesFrom_lanesKept (a a' : Nat) (s : State) : LanesKept s (s.deadlinesFrom a a') :=
  (LanesKept.ite _ (deadlineCrossing_lanesKept _ s)).trans (.ite _ (deadlineCrossing_lanesKept _ _))

theorem orderAtCrossing_lanesKept (g : Nat) (x : Crossing) {b : Nat} (hb : b < 48) (s : State) :
    LanesKept s (s.orderAtCrossing g x b) := by
  unfold State.orderAtCrossing
  split
  · exact .refl s
  · exact .ite _ ((raiseIf_lanesKept _ _ s).trans (post_lanesKept _ _ hb))

theorem zoneCrossing_lanesKept (g : Nat) (x : Crossing) (s : State) : LanesKept s (s.zoneCrossing g x) := by
  unfold State.zoneCrossing
  split
  · split
    · exact .foldl _ (fun b hb u => orderAtCrossing_lanesKept g x (List.mem_range.mp hb) u) s
    · exact .ite _ (hardFault_lanesKept _ _ _ s)
  · exact .refl s

theorem zonesForward_lanesKept (a a' : Nat) (s : State) (g : Nat) : LanesKept s (s.zonesForward a a' g) :=
  (LanesKept.ite _ (zoneCrossing_lanesKept g _ s)).trans (.ite _ (zoneCrossing_lanesKept g _ _))

theorem zonesReverse_lanesKept (a a' : Nat) (s : State) (g : Nat) : LanesKept s (s.zonesReverse a a' g) :=
  (LanesKept.ite _ (zoneCrossing_lanesKept g _ s)).trans (.ite _ (zoneCrossing_lanesKept g _ _))

/-! ### Counts and boundaries -/

theorem Unmoved.lanesKept {s t : State} (h : Unmoved s t) (source : t.tracker = s.tracker) : LanesKept s t :=
  .of_same h.bars h.lanes (by rw [source])

/-- The queue alone has changed. -/
theorem queue_lanesKept (q : CourseQueue) (s : State) : LanesKept s { s with queue := q } := .of_same rfl rfl rfl

theorem overrunForward_lanesKept (s : State) : LanesKept s s.overrunForward :=
  (overrunForward_unmoved s).lanesKept (State.overrunForward_tracker s)

theorem headLeaves_lanesKept (r : Record) (rest : List Record) (s : State) : LanesKept s (s.headLeaves r rest) :=
  (headLeaves_unmoved r rest s).lanesKept (State.headLeaves_tracker r rest s)

theorem restore_lanesKept (s : State) : LanesKept s s.restore := (restore_unmoved s).lanesKept (State.restore_tracker s)

theorem endArticle_lanesKept (s : State) : LanesKept s s.endArticle := .ite _ (.of_same rfl rfl rfl)

/-- R94, R95, R96: a boundary moves the bars and lanes by the purge of its hard fault alone. -/
theorem advanceQueue_lanesKept (s : State) : LanesKept s s.advanceQueue := by
  unfold State.advanceQueue
  split
  · split
    · exact overrunForward_lanesKept s
    · exact hardFault_lanesKept _ _ _ s
  · split
    · exact (headLeaves_lanesKept _ _ s).trans (endArticle_lanesKept _)
    · exact (headLeaves_lanesKept _ _ s).trans (hardFault_lanesKept _ _ _ _)
  · exact headLeaves_lanesKept _ _ s

theorem queueForward_lanesKept (s : State) : LanesKept s s.queueForward := by
  unfold State.queueForward
  split
  · exact .refl s
  · exact overrunForward_lanesKept s
  · split
    · exact queue_lanesKept _ s
    · exact advanceQueue_lanesKept s

theorem overrunBackward_lanesKept (s : State) : LanesKept s s.overrunBackward := by
  unfold State.overrunBackward
  split
  · exact queue_lanesKept _ s
  · split
    · exact .refl s
    · split
      · exact (restore_lanesKept s).trans (.of_same rfl rfl rfl)
      · exact restore_lanesKept s

theorem retreat_lanesKept (s : State) : LanesKept s s.retreat := by
  have counted := ((queue_lanesKept { s.queue with backlog := min 255 (s.queue.backlog + 1) } s).trans
    (setCause_lanesKept .backoff _)).trans (raise_lanesKept .backoff _)
  unfold State.retreat
  dsimp only
  split
  · exact counted.trans (hardFault_lanesKept _ _ _ _)
  · exact counted

theorem queueBackward_lanesKept (s : State) : LanesKept s s.queueBackward := by
  unfold State.queueBackward
  split
  · exact .refl s
  · exact overrunBackward_lanesKept s
  · split
    · exact overrunBackward_lanesKept s
    · split
      · exact retreat_lanesKept s
      · exact restore_lanesKept s

theorem watchCeiling_lanesKept {f : State → State} {s : State} (h : LanesKept s (f s)) : LanesKept s (s.watchCeiling f) :=
  h.trans (raiseIf_lanesKept _ _ _)

theorem forwardBoundary_lanesKept (t : Nat) (s : State) : LanesKept s (s.forwardBoundary t) := by
  have measured : LanesKept s { s with tracker := s.tracker.measure t } :=
    .of_same rfl rfl (by rw [Tracker.measure_eq])
  exact measured.trans (watchCeiling_lanesKept (queueForward_lanesKept _))

theorem crossForward_lanesKept (c t : Nat) (s : State) : LanesKept s (s.crossForward c t) := by
  have crossed (a a' : Nat) : LanesKept s ((List.range 4).foldl (State.zonesForward a a') (s.deadlinesFrom a a')) :=
    (deadlinesFrom_lanesKept a a' s).trans (.foldl _ (fun g _ u => zonesForward_lanesKept a a' u g) _)
  exact (crossed _ _).trans (.ite _ (forwardBoundary_lanesKept t _))

theorem crossReverse_lanesKept (c : Nat) (s : State) : LanesKept s (s.crossReverse c) := by
  have boundary : LanesKept s s.backwardBoundary := watchCeiling_lanesKept (queueBackward_lanesKept s)
  exact (LanesKept.ite _ boundary).trans (.foldl _ (fun g _ u => zonesReverse_lanesKept _ _ u g) _)

theorem reportCount_lanesKept (s : State) : LanesKept s s.reportCount := .ite _ (hardFault_lanesKept _ _ _ s)

/-- R1: a count keeps the laws. -/
theorem takeCount_lanesKept (dir : Direction) (t : Nat) (s : State) : LanesKept s (s.takeCount dir t) := by
  have counted : LanesKept s { s with tracker := s.tracker.count s.constants.counts t dir } :=
    .of_same rfl rfl (by cases dir <;> rfl)
  have reported := counted.trans (reportCount_lanesKept _)
  unfold State.takeCount
  dsimp only
  split
  · cases dir with
    | forward => exact reported.trans (crossForward_lanesKept _ t _)
    | reverse => exact reported.trans (crossReverse_lanesKept _ _)
  · exact reported

/-- R3: an index keeps the laws. -/
theorem takeIndex_lanesKept (s : State) : LanesKept s s.takeIndex := by
  have slipped : LanesKept s s.slip := by
    have zeroed (k : Tracker) (hk : k.source = s.tracker.source) : LanesKept s (State.raise .slip { s with tracker := k }) :=
      .of_same rfl rfl hk
    unfold State.slip
    exact (zeroed { s.tracker with counter := 0, startTime := none, period := none } rfl).trans
      (.ite _ (hardFault_lanesKept _ _ _ _))
  unfold State.takeIndex
  split
  · split
    · exact .refl s
    · exact slipped
  · exact .of_same rfl rfl rfl

theorem simulate_lanesKept (t : Nat) (s : State) : LanesKept s (s.simulate t) := by
  have counted := (LanesKept.of_same rfl rfl rfl : LanesKept s { s with tracker := s.tracker.giveCount }).trans
    (takeCount_lanesKept .forward t _)
  unfold State.simulate
  dsimp only
  split
  · exact counted.trans (takeIndex_lanesKept _)
  · exact counted

/-! ### Lane events (R116, R118 to R122) -/

theorem barAt_some {s : State} {g address b : Nat} (h : s.barAt g address = some b) :
    b < 48 ∧ (s.bar b).enabled = true ∧ (s.bar b).lane = g ∧ (s.bar b).address = address := by
  have found := List.find?_some h
  have member := List.mem_of_find?_eq_some h
  simp only [Bool.and_eq_true, beq_iff_eq] at found
  exact ⟨List.mem_range.mp member, found.1.1, found.1.2, found.2⟩

/-- R116: a bar has no entry once its entry has left the head of its lane's queue. -/
theorem State.OrderLaws.not_queued_tail {s : State} (law : s.OrderLaws) {g : Nat} {e : LaneEntry} {rest : List LaneEntry}
    (queue : (s.lane g).queue = e :: rest) {x : Lane} (hx : x.queue = rest) (n : Nat) : e.bar ∉ (s.setLane g x).queued n := by
  have queued : s.queued g = e.bar :: rest.map LaneEntry.bar := by rw [State.queued, queue]; rfl
  intro hb
  by_cases hn : g = n
  · subst hn
    have inside : g < s.lanes.length := by
      by_contra beyond
      rw [State.lane_beyond s (Nat.le_of_not_lt beyond)] at queue
      cases queue
    have alone := (law.lanes g).1
    rw [State.queued, State.lane_setLane s x inside, hx] at hb
    rw [queue] at alone
    exact (List.nodup_cons.mp alone).1 hb
  · rw [State.queued, State.lane_setLane_ne s x hn] at hb
    obtain ⟨-, lane, -⟩ := law.of_queued (g := g) (n := e.bar) (by simp [queued])
    obtain ⟨-, lane', -⟩ := law.of_queued hb
    exact hn (lane.symm.trans lane')

/-- R118: the head's order is taken: its entry leaves the lane's queue, and its bar moves. -/
theorem taken_moving_lanesKept {s : State} {e : LaneEntry} {rest : List LaneEntry} {x : Lane} {y : Bar}
    (queue : (s.lane (s.bar e.bar).lane).queue = e :: rest) (hx : x.queue = rest) (seat : (s.bar e.bar).SameSeat y) :
    LanesKept s (((s.setLane (s.bar e.bar).lane x).setBar e.bar y).transmit (s.bar e.bar).lane) := by
  have left : (x.queue.map LaneEntry.bar).Sublist (s.queued (s.bar e.bar).lane) := by
    rw [State.queued, queue, hx]
    exact List.sublist_cons_self _ _
  refine ⟨((setLane_seats _ x s).trans (setBar_seats seat)).trans (transmit_seats _ _), fun law => ?_, fun law => ?_⟩
  · exact transmit_orderLaws ((setBar_lanesKept (s := s.setLane _ x) seat fun _ => .inr (law.not_queued_tail queue hx)).orders
      (setLane_orderLaws law left)) _
  · exact transmit_transmitsLaw fun n hn => by
      rw [State.lane_setBar, State.lane_setLane_ne s x (Ne.symm hn)]
      exact law n

/-- R118: the head's order was held back: its entry leaves the lane's queue, and the order held joins the tail. -/
theorem taken_posted_lanesKept {s : State} {e : LaneEntry} {rest : List LaneEntry} {x : Lane} {y : Bar} (o : Order)
    (queue : (s.lane (s.bar e.bar).lane).queue = e :: rest) (hx : x.queue = rest) (seat : (s.bar e.bar).SameSeat y)
    (posted : ∃ c, y.handshake = .posted c) :
    LanesKept s (((s.setLane (s.bar e.bar).lane x).setBar e.bar y).enqueue e.bar o) := by
  have left : (x.queue.map LaneEntry.bar).Sublist (s.queued (s.bar e.bar).lane) := by
    rw [State.queued, queue, hx]
    exact List.sublist_cons_self _ _
  have kept : SeatsKept s ((s.setLane (s.bar e.bar).lane x).setBar e.bar y) :=
    (setLane_seats _ x s).trans (setBar_seats seat)
  refine ⟨kept.trans (enqueue_seats _ o _), fun law => ?_, fun law => ?_⟩
  · have head : e.bar ∈ s.queued (s.bar e.bar).lane := by simp [State.queued, queue]
    obtain ⟨hb, -, -, c, hc⟩ := law.of_queued head
    have inside : e.bar < s.bars.length := State.bar_of_on (by simp [hc])
    refine enqueue_orderLaws o ?_ hb ?_ (law.not_queued_tail queue hx) (law.wet head)
    · exact (setBar_lanesKept (s := s.setLane _ x) seat fun _ => .inl posted).orders (setLane_orderLaws law left)
    · rwa [State.bar_setBar _ y (by exact inside)]
  · refine enqueue_transmitsLaw o fun n hn => ?_
    rw [(kept.bar e.bar).lane] at hn
    rw [State.lane_setBar, State.lane_setLane_ne s x (Ne.symm hn)]
    exact law n

/-- R118: TAKEN keeps the laws. -/
theorem replyTaken_lanesKept (b : Nat) (s : State) : LanesKept s (s.replyTaken b) := by
  unfold State.replyTaken
  dsimp only
  split
  · next c e rest posted queue =>
    split
    · next head =>
      obtain ⟨-, rfl⟩ := head
      have on : (s.bar e.bar).handshake ≠ .off := by simp [posted]
      split
      · exact taken_moving_lanesKept queue rfl (.of_on rfl rfl rfl on (by simp))
      · exact taken_posted_lanesKept c.order queue rfl (.of_on rfl rfl rfl on (by simp)) ⟨_, rfl⟩
    · exact .refl s
  · exact .refl s

/-- A bar that has no entry, since it is not POSTED, takes another handshake state. -/
theorem setBar_free_lanesKept {b : Nat} {x : Bar} {s : State} (seat : (s.bar b).SameSeat x)
    (free : ∀ c, (s.bar b).handshake ≠ .posted c) : LanesKept s (s.setBar b x) :=
  setBar_lanesKept seat fun law => .inr (law.not_queued free)

theorem Bar.lose_sameSeat {x : Bar} (on : x.handshake ≠ .off) (k : Option Nat) : x.SameSeat (x.lose k) :=
  .of_on rfl rfl rfl on (by simp [Bar.lose])

/-- R121: IN_POSITION keeps the laws. -/
theorem replyInPosition_lanesKept (b x : Nat) (s : State) : LanesKept s (s.replyInPosition b x) := by
  unfold State.replyInPosition
  split
  · next moving =>
    have on : (s.bar b).handshake ≠ .off := by simp [moving]
    split
    · refine (setBar_free_lanesKept ?_ (by simp [moving])).trans (completePlacement_lanesKept _)
      exact .of_on rfl rfl rfl on (by simp)
    · exact (setBar_free_lanesKept (Bar.lose_sameSeat on _) (by simp [moving])).trans (barFault_lanesKept _ _ _)
  · exact .refl s

/-- R119, R122: a bar goes LOST, and its entry leaves its lane's queue. -/
theorem loseFromLane_lanesKept {b : Nat} {s : State} (on : (s.bar b).handshake ≠ .off) :
    LanesKept s (s.loseFromLane b) := by
  have seat := Bar.lose_sameSeat on none
  have left : (((s.lane (s.bar b).lane).remove b).queue.map LaneEntry.bar).Sublist (s.queued (s.bar b).lane) := by
    rw [Lane.remove_bars]
    exact List.filter_sublist
  refine ⟨((setBar_seats seat).trans (setLane_seats _ _ _)).trans (transmit_seats _ _), fun law => ?_, fun law => ?_⟩
  · refine transmit_orderLaws (s := (s.setLane _ _).setBar b _) ?_ _
    exact (setBar_lanesKept (s := s.setLane _ _) seat fun _ => .inr (law.not_queued_removed b)).orders
      (setLane_orderLaws law left)
  · exact transmit_transmitsLaw fun n hn => by
      rw [State.lane_setLane_ne _ _ (Ne.symm hn)]
      exact law n

theorem Bar.on_of_outstanding {x : Bar} (h : x.outstanding = true) : x.handshake ≠ .off := fun off => by
  simp [Bar.outstanding, off, Handshake.chain?] at h

/-- R122: FAULT keeps the laws. -/
theorem replyFault_lanesKept (b code : Nat) (s : State) : LanesKept s (s.replyFault b code) := by
  unfold State.replyFault
  split
  · next outstanding =>
    have on := Bar.on_of_outstanding outstanding
    have coded : (s.bar b).SameSeat { s.bar b with driveCode := code } := ⟨rfl, rfl, rfl, .rfl⟩
    have noted : LanesKept s (s.setBar b { s.bar b with driveCode := code }) := by
      refine setBar_lanesKept coded fun law => ?_
      by_cases posted : ∃ c, (s.bar b).handshake = .posted c
      · exact .inl posted
      · exact .inr (law.not_queued fun c hc => posted ⟨c, hc⟩)
    have still : ((s.setBar b { s.bar b with driveCode := code }).bar b).handshake ≠ .off := by
      rwa [Ne, ((setBar_seats coded).bar b).off]
    exact (noted.trans (loseFromLane_lanesKept still)).trans (barFault_lanesKept _ _ _)
  · exact .refl s

theorem driveReply_lanesKept (g address : Nat) (r : DriveReply) (s : State) : LanesKept s (s.driveReply g address r) := by
  unfold State.driveReply
  split
  · exact .refl s
  · split
    · exact replyTaken_lanesKept _ s
    · exact replyInPosition_lanesKept _ _ s
    · exact replyFault_lanesKept _ _ s
    · exact .refl s

theorem startTakeTimer_sameSeat (t : Nat) (x : Bar) : x.SameSeat (x.startTakeTimer t) := by
  unfold Bar.startTakeTimer
  split
  · next h => exact .of_on rfl rfl rfl (by simp [h]) (by simp)
  · exact .refl x

/-- A lane that keeps its queue. -/
theorem setLane_queued {g : Nat} {x : Lane} {s : State} (h : x.queue = (s.lane g).queue) (n : Nat) :
    (s.setLane g x).queued n = s.queued n := by
  unfold State.queued
  rcases setLane_cases g n x s with e | ⟨rfl, e⟩ <;> rw [e]
  rw [h]

/-- R116: the end of a frame keeps the laws. -/
theorem frameSent_lanesKept (g : Nat) (s : State) : LanesKept s (s.frameSent g) := by
  have seats (x : Lane) := setLane_seats g x s
  have orders (law : s.OrderLaws) : (s.setLane g { s.lane g with frame := none }).OrderLaws :=
    setLane_orderLaws law (.refl _)
  unfold State.frameSent
  dsimp only
  split
  · split
    · next e rest awaiting queue =>
      have freed : LanesKept s (s.setLane g { s.lane g with frame := none }) :=
        setLane_lanesKept (.refl _) fun _ _ => .inl awaiting
      refine freed.trans (setBar_lanesKept (startTakeTimer_sameSeat _ _) fun law => .inl ?_)
      have head : e.bar ∈ (s.setLane g { s.lane g with frame := none }).queued g := by
        rw [setLane_queued (by rfl), State.queued, queue]
        exact List.mem_cons_self
      obtain ⟨-, -, -, c, hc⟩ := law.of_queued head
      exact ⟨_, by rw [Bar.startTakeTimer, show (s.bar e.bar).handshake = _ from hc]⟩
    · refine ⟨(seats _).trans (transmit_seats g _), fun law => transmit_orderLaws (orders law) g, fun law => ?_⟩
      exact transmit_transmitsLaw fun n hn => by
        rw [State.lane_setLane_ne s _ (Ne.symm hn)]
        exact law n
  · exact .refl s

/-- R119: the take limit keeps the laws. -/
theorem takeLimitReached_lanesKept (b : Nat) (s : State) : LanesKept s (s.takeLimitReached b) := by
  unfold State.takeLimitReached
  split
  · next posted =>
    split
    · exact .ite _ ((loseFromLane_lanesKept (by simp [posted])).trans (barFault_lanesKept _ _ _))
    · exact .refl s
  · exact .refl s

/-- R120: the move time limit keeps the laws. -/
theorem moveLimitReached_lanesKept (b : Nat) (s : State) : LanesKept s (s.moveLimitReached b) := by
  unfold State.moveLimitReached
  split
  · next moving =>
    split
    · exact .ite _ ((setBar_free_lanesKept (Bar.lose_sameSeat (by simp [moving]) none) (by simp [moving])).trans
        (barFault_lanesKept _ _ _))
    · exact .refl s
  · exact .refl s

/-- R125: HOME keeps the laws. -/
theorem homeEffect_lanesKept {b : Nat} (hb : b < 48 ∨ b = allBars) (s : State) : LanesKept s (homeEffect b s) := by
  have one {n : Nat} (hn : n < 48) (u : State) : LanesKept u (u.homeOne n) := .ite _ (post_lanesKept _ u hn)
  unfold homeEffect
  split
  · exact .foldl _ (fun n hn u => one (List.mem_range.mp hn) u) s
  · next single => exact one (hb.resolve_right single) s

end Sys2Proof.Machine
end


section
/-! What keeps the sizes of the tables (log entry 27) beside the laws of the bars and lanes, row by row. -/

namespace Sys2Proof.Machine

/-! ### The sizes of the tables -/

/-- The bars keep their seats, the laws of the bars and lanes hold as they held, and the tables keep their sizes. -/
structure TablesKept (s t : State) : Prop extends LanesKept s t where
  regions : t.regions.length = s.regions.length
  segments : t.segments.length = s.segments.length
  entries : t.sequence.entries.length = s.sequence.entries.length
  classes : t.classes.length = s.classes.length

theorem TablesKept.refl (s : State) : TablesKept s s := ⟨.refl s, rfl, rfl, rfl, rfl⟩

theorem TablesKept.trans {s t u : State} (h : TablesKept s t) (k : TablesKept t u) : TablesKept s u :=
  ⟨h.toLanesKept.trans k.toLanesKept, k.regions.trans h.regions, k.segments.trans h.segments,
    k.entries.trans h.entries, k.classes.trans h.classes⟩

/-- The bars, the lanes and the source stand, and the other tables keep their sizes. -/
theorem TablesKept.of_same {s t : State} (bars : t.bars = s.bars := by rfl) (lanes : t.lanes = s.lanes := by rfl)
    (source : t.tracker.source = s.tracker.source := by rfl) (regions : t.regions.length = s.regions.length := by rfl)
    (segments : t.segments.length = s.segments.length := by rfl)
    (entries : t.sequence.entries.length = s.sequence.entries.length := by rfl)
    (classes : t.classes.length = s.classes.length := by rfl) : TablesKept s t :=
  ⟨.of_same bars lanes source, regions, segments, entries, classes⟩

/-- The shaft side holds no other table. -/
theorem LanesKept.tablesKept {s t : State} (h : LanesKept s t) (side : ShaftSide s t) : TablesKept s t :=
  ⟨h, by rw [side.regions], by rw [side.segments], by rw [side.sequence], by rw [side.classes]⟩

theorem tablesKept_blind : PortBlind TablesKept := ⟨.refl, .trans, fun p x s => .of_same (by simp) (by simp) (by simp)
  (by simp) (by simp) (by simp) (by simp)⟩

/-! ### Commands and grants that leave the bars and lanes -/

theorem setSegment_tablesKept (g : Nat) (e : MapEntry) (s : State) : TablesKept s (s.setSegment g e) :=
  .of_same (segments := by simp [State.setSegment])

theorem unverify_tablesKept (e : Extent) (s : State) : TablesKept s (s.unverify e) :=
  .of_same (segments := by simp [State.unverify])

theorem launch_tablesKept (e : Engine) (s : State) : TablesKept s (s.launch e) := by
  rw [launch_eq]
  exact .of_same

theorem endOp_tablesKept (owner : Option Port) (r : OpResult) (s : State) : TablesKept s (s.endOp owner r) := by
  rw [endOp_eq]
  exact .of_same

theorem opCheckEffect_tablesKept (p : Port) (g w : Nat) (s : State) : TablesKept s (opCheckEffect p g w s) := by
  unfold opCheckEffect
  split
  · exact .refl s
  · exact launch_tablesKept _ s

theorem opSuspendEffect_tablesKept (s : State) : TablesKept s (opSuspendEffect s) := by
  unfold opSuspendEffect
  split <;> exact .of_same

theorem opResumeEffect_tablesKept (s : State) : TablesKept s (opResumeEffect s) := by
  unfold opResumeEffect
  split
  · exact launch_tablesKept _ s
  · exact .refl s

theorem opAbortEffect_tablesKept (s : State) : TablesKept s (opAbortEffect s) := by
  unfold opAbortEffect
  split
  · exact .refl s
  · split
    · exact .of_same
    · exact (TablesKept.of_same : TablesKept s s.withdrawChunk).trans (endOp_tablesKept _ _ _)

theorem mapEffect_tablesKept (g : Nat) (m : Mapping) (s : State) : TablesKept s (mapEffect g m s) := by
  unfold mapEffect
  split <;> exact setSegment_tablesKept _ _ s

theorem mapCancelEffect_tablesKept (g : Nat) (s : State) : TablesKept s (mapCancelEffect g s) := by
  unfold mapCancelEffect
  split
  · exact .refl s
  · exact setSegment_tablesKept _ _ s

theorem setConstantsEffect_tablesKept (k : MachineConstants) (s : State) : TablesKept s (setConstantsEffect k s) := by
  rw [setConstantsEffect_eq]
  exact .of_same (source := by rw [setConstantsEffect_tracker])

theorem simGateEffect_tablesKept (x : Nat) (s : State) : TablesKept s (simGateEffect x s) := by
  unfold simGateEffect
  split <;> exact .of_same

theorem waitForGrant_tablesKept (p : Port) (refusal : State → Option Reply) (x : Access) (s : State) :
    TablesKept s (waitForGrant p refusal x s).1 := by
  unfold waitForGrant
  split <;> exact .of_same

theorem endAccess_tablesKept (p : Port) (r : Reply) (s : State) : TablesKept s (s.endAccess p r) :=
  (tablesKept_blind.setPort p _ s).trans .of_same

theorem writeInGrant_tablesKept (p : Port) (a : Nat) (cells : List Cell) (s : State) :
    TablesKept s (s.writeInGrant p a cells).1 := by
  unfold State.writeInGrant
  split
  · exact .refl s
  · exact (TablesKept.of_same : TablesKept s { s with memory := _ }).trans (unverify_tablesKept _ _)

theorem settleCheck_tablesKept (g : Nat) (ok : Bool) (s : State) : TablesKept s (s.settleCheck g ok) := by
  unfold State.settleCheck
  split
  · exact setSegment_tablesKept _ _ s
  · exact .refl s

theorem settleChunk_tablesKept (op : Operation) (s : State) : TablesKept s (s.settleChunk op) := by
  unfold State.settleChunk
  split
  · exact .of_same
  · split
    · exact endOp_tablesKept _ _ s
    · split
      · split
        · exact .of_same
        · exact ((settleCheck_tablesKept _ _ s).trans (t := s.settleCheck _ _) .of_same).trans (endOp_tablesKept _ _ _)
        · exact endOp_tablesKept _ _ s
        · exact endOp_tablesKept _ _ s
      · exact .refl s

theorem runChunk_tablesKept (op : Operation) (s : State) : TablesKept s (s.runChunk op) := by
  have done : TablesKept s (s.chunkDone op) := .of_same
  rw [runChunk_settles, askChunk_eq]
  exact (done.trans (settleChunk_tablesKept op.advanced _)).trans .of_same

/-! ### The builder -/

theorem startSegment_tablesKept (g : Nat) (s : State) : TablesKept s (s.startSegment g) := by
  unfold State.startSegment
  split
  · split
    · exact (setSegment_tablesKept _ _ s).trans .of_same
    · exact .of_same
  · exact .refl s

theorem beginCourse_tablesKept (s : State) : TablesKept s s.beginCourse := by
  have started (c : Prop) [Decidable c] (g : Nat) : TablesKept s (if c then s.startSegment g else s) := by
    split
    · exact startSegment_tablesKept g s
    · exact .refl s
  unfold State.beginCourse
  dsimp only
  split
  · exact .refl s
  · exact (started _ _).trans .of_same

theorem beginBuild_tablesKept (s : State) : TablesKept s s.beginBuild := by
  unfold State.beginBuild
  split
  · exact .refl s
  · split
    · split
      · exact .of_same
      · exact (TablesKept.of_same : TablesKept s s.closeIteration).trans (beginCourse_tablesKept _)
    · exact beginCourse_tablesKept s

theorem endFetch_tablesKept (s : State) : TablesKept s s.endFetch := by
  unfold State.endFetch
  split <;> exact .of_same

theorem afterAppend_tablesKept (b : Build) (s : State) : TablesKept s (s.afterAppend b) := by
  refine LanesKept.tablesKept ?_ (afterAppend_shaftSide b s)
  have announced : LanesKept s (s.announced b) :=
    .of_same (announced_reads b s).2.1 (announced_reads b s).2.2
      (congrArg Tracker.source (appended_announced b s).tracker)
  exact watchCeiling_lanesKept (announced.trans (tryPlacement_lanesKept _))

end Sys2Proof.Machine
end


section
/-! O57: every step keeps the configuration law of the bars, the law of the lane queues, and the sizes of the tables. -/

namespace Sys2Proof.Machine

/-! ### The laws kept -/

/-- From `s` to `t` the laws of the bars and lanes and of the tables' sizes are kept. -/
structure LaneLawsKept (s t : State) : Prop where
  orders : s.OrderLaws → t.OrderLaws
  transmits : s.LaneTransmitsLaw → t.LaneTransmitsLaw
  tables : s.TableLaw → t.TableLaw

theorem LaneLawsKept.refl (s : State) : LaneLawsKept s s := ⟨id, id, id⟩

theorem LaneLawsKept.trans {s t u : State} (h : LaneLawsKept s t) (k : LaneLawsKept t u) : LaneLawsKept s u :=
  ⟨k.orders ∘ h.orders, k.transmits ∘ h.transmits, k.tables ∘ h.tables⟩

theorem TablesKept.lawsKept {s t : State} (h : TablesKept s t) : LaneLawsKept s t := by
  refine ⟨h.orders, h.transmits, fun law => ?_⟩
  unfold State.TableLaw
  rw [h.regions, h.segments, h.entries, h.seats.bars, h.classes, h.seats.lanes]
  exact ⟨law.1, fun n hn => (h.seats.bar n).lane ▸ law.2 n hn⟩

theorem laneLawsKept_blind : PortBlind LaneLawsKept :=
  ⟨.refl, .trans, fun p x s => (tablesKept_blind.setPort p x s).lawsKept⟩

/-! ### SET_BAR (R109, R110) -/

theorem configure_reads (e : Bool) (lane address cls limit : Nat) (x : Bar) :
    (x.configure e lane address cls limit).enabled = e ∧ (x.configure e lane address cls limit).lane = lane ∧
      (x.configure e lane address cls limit).address = address := by
  unfold Bar.configure
  dsimp only
  split
  · exact ⟨rfl, rfl, rfl⟩
  · split <;> exact ⟨rfl, rfl, rfl⟩

/-- R110: the bar is OFF exactly where it is disabled. -/
theorem configure_off (e : Bool) (lane address cls limit : Nat) {x : Bar} (h : x.handshake = .off ↔ x.enabled = false) :
    (x.configure e lane address cls limit).handshake = .off ↔ (x.configure e lane address cls limit).enabled = false := by
  unfold Bar.configure
  cases e with
  | false => simp
  | true =>
    simp only [Bool.not_true, Bool.false_eq_true, if_false]
    split
    · simp
    · next still =>
      have enabled : x.enabled = true := by
        by_contra off
        simp [off] at still
      simp [h, enabled]

/-- R109: a bar that takes a place on a lane with room for it, at an address of its own, keeps the configuration law. -/
theorem setBar_barLaw {b : Nat} {x : Bar} {s : State} (law : s.BarLaw)
    (room : x.enabled = true → (s.othersOn b x.lane).length < 16)
    (own : x.enabled = true → ∀ n ∈ s.othersOn b x.lane, (s.bar n).address ≠ x.address) : (s.setBar b x).BarLaw := by
  by_cases inside : b < s.bars.length
  swap
  · have same (n : Nat) : (s.setBar b x).bar n = s.bar n := by
      rw [State.bar, State.setBar_bars, List.set_eq_of_length_le (Nat.le_of_not_lt inside)]
      rfl
    unfold State.BarLaw State.enabledOn
    simp only [same]
    exact law
  have mine : (s.setBar b x).bar b = x := State.bar_setBar s x inside
  have other {n : Nat} (h : n ≠ b) : (s.setBar b x).bar n = s.bar n := State.bar_setBar_ne s x (Ne.symm h)
  have apart {n : Nat} (hn : n < 48) (h : n ≠ b) (hx : x.enabled = true) (he : (s.bar n).enabled = true)
      (lane : (s.bar n).lane = x.lane) : (s.bar n).address ≠ x.address :=
    own hx n (by simp [State.othersOn, hn, h, he, lane])
  refine ⟨fun i j hi hj hij => ?_, fun g => ?_⟩
  · by_cases hib : i = b
    · subst hib
      rw [mine, other (Ne.symm hij)]
      exact fun ei ej ⟨lane, address⟩ => apart hj (Ne.symm hij) ei ej lane.symm address.symm
    · by_cases hjb : j = b
      · subst hjb
        rw [mine, other hij]
        exact fun ei ej ⟨lane, address⟩ => apart hi hij ej ei lane address
      · rw [other hib, other hjb]
        exact law.1 i j hi hj hij
  · have nodup : ((s.setBar b x).enabledOn g).Nodup := List.nodup_range.filter _
    by_cases joins : x.enabled = true ∧ x.lane = g
    · obtain ⟨hx, rfl⟩ := joins
      have sub : (s.setBar b x).enabledOn x.lane ⊆ b :: s.othersOn b x.lane := fun n hn => by
        by_cases h : n = b
        · simp [h]
        · rw [State.enabledOn, List.mem_filter, other h] at hn
          simpa [State.othersOn, h] using hn
      have length := (List.subperm_of_subset nodup sub).length_le
      have := room hx
      rw [List.length_cons] at length
      omega
    · have sub : (s.setBar b x).enabledOn g ⊆ s.enabledOn g := fun n hn => by
        by_cases h : n = b
        · subst h
          rw [State.enabledOn, List.mem_filter, mine] at hn
          exact absurd (by simpa using hn.2) joins
        · rw [State.enabledOn, List.mem_filter, other h] at hn
          exact List.mem_filter.mpr hn
      exact (List.subperm_of_subset nodup sub).length_le.trans (law.2 g)

theorem setBarRefusal_none {b enabled lane address cls limit : Nat} {s : State}
    (h : setBarRefusal b enabled lane address cls limit s = none) :
    lane < 4 ∧ (s.bar b).outstanding = false ∧
      (enabled = 1 → (s.othersOn b lane).length < 16 ∧ ∀ n ∈ s.othersOn b lane, (s.bar n).address ≠ address) := by
  simp [setBarRefusal, firstRefusal_none, and_assoc] at h
  obtain ⟨-, -, lane, -, -, -, -, -, free, room, own⟩ := h
  exact ⟨by omega, free, fun he => ⟨room he, own he⟩⟩

theorem setBarEffect_lawsKept {b enabled lane address cls limit : Nat} {s : State}
    (h : setBarRefusal b enabled lane address cls limit s = none) :
    LaneLawsKept s (setBarEffect b enabled lane address cls limit s) := by
  obtain ⟨inside, free, place⟩ := setBarRefusal_none h
  obtain ⟨hEnabled, hLane, hAddress⟩ := configure_reads (enabled == 1) lane address cls limit (s.bar b)
  have off := configure_off (enabled == 1) lane address cls limit (x := s.bar b)
  unfold setBarEffect
  generalize (s.bar b).configure (enabled == 1) lane address cls limit = x at hEnabled hLane hAddress off ⊢
  subst hLane hAddress
  have named : x.enabled = true → enabled = 1 := by
    rw [hEnabled]
    exact beq_iff_eq.mp
  refine ⟨fun law => ⟨?_, law.lanes, fun g e he => ?_, fun n => ?_, law.entries.2.2⟩, id, fun law => ⟨?_, fun n hn => ?_⟩⟩
  · exact setBar_barLaw law.bars (fun hx => (place (named hx)).1) fun hx => (place (named hx)).2
  · have other : b ≠ e.bar := fun same => by
      obtain ⟨-, -, -, c, hc⟩ := law.of_queued (List.mem_map_of_mem he)
      rw [← same] at hc
      simp [Bar.outstanding, hc, Handshake.chain?] at free
    rw [State.bar_setBar_ne s x other]
    exact law.entries.1 g e he
  · rcases setBar_cases b n x s with e | ⟨rfl, e⟩ <;> rw [e]
    · exact law.entries.2.1 n
    · exact off (law.entries.2.1 n)
  · simpa using law.1
  · rcases setBar_cases b n x s with e | ⟨rfl, e⟩ <;> rw [e]
    · exact law.2 n hn
    · exact inside

/-! ### SET_SOURCE (R128) -/

theorem Bar.loseIdle_sameSeat (x : Bar) : x.SameSeat x.loseIdle := by
  unfold Bar.loseIdle
  split
  · next h =>
    have idle : x.handshake = .idle := by simp only [Bool.and_eq_true, beq_iff_eq] at h; exact h.2
    exact Bar.lose_sameSeat (by simp [idle]) none
  · exact .refl x

/-- R128: a change of source empties every lane. -/
theorem loseEnabled_lanesKept (s : State) : LanesKept s s.loseEnabled := by
  refine .of_emptied ⟨fun n => ?_, by simp [State.loseEnabled], by simp [State.loseEnabled]⟩ fun g => ?_
  · rw [State.loseEnabled_bar, ← Bar.loseIdle_purge]
    exact (Bar.purge_sameSeat _).trans (Bar.loseIdle_sameSeat _)
  · rw [State.loseEnabled_lane]
    rfl

theorem setSourceEffect_tablesKept (x : Nat) (s : State) : TablesKept s (setSourceEffect x s) := by
  unfold setSourceEffect
  split
  · exact .refl s
  · next src _ =>
    split
    · exact .refl s
    · have side := loseEnabled_runSide (s.selectSource src)
      have emptied := loseEnabled_lanesKept (s.selectSource src)
      have seats : SeatsKept s (s.selectSource src).loseEnabled :=
        (SeatsKept.of_same rfl rfl : SeatsKept s (s.selectSource src)).trans emptied.seats
      refine ⟨.of_emptied seats fun g => ?_, by rw [side.regions]; rfl, by rw [side.segments]; rfl,
        by rw [side.sequence]; rfl, by rw [side.classes]; rfl⟩
      rw [State.loseEnabled_lane]
      rfl

/-! ### Power and the reset input -/

theorem reset_laneLawsKept (s : State) : LaneLawsKept s { State.reset with pending := s.pending } := by
  refine ⟨fun _ => ⟨reset_barLaw, fun g => ?_, reset_laneEntriesLaw⟩, fun _ g full => ?_, fun _ => reset_tableLaw⟩
  · have lane : State.lane { State.reset with pending := s.pending } g = Lane.initial := reset_lane g
    simp [lane, Lane.initial]
  · have lane : State.lane { State.reset with pending := s.pending } g = Lane.initial := reset_lane g
    simp [lane, Lane.initial] at full

/-- R128: the reset input leaves each bar its configuration, and no order. -/
theorem onReset_laneLawsKept (s : State) : LaneLawsKept s s.onReset := by
  have empty (g : Nat) : (s.onReset.lane g).queue = [] := by rw [onReset_lane]; rfl
  refine ⟨fun law => ?_, fun _ g full => absurd (empty g) full, fun law => ?_⟩
  · have seats : SeatsKept s s.onReset := by
      refine ⟨fun n => ?_, by simp [State.onReset], by simp [State.onReset]⟩
      rw [onReset_bar]
      refine ⟨rfl, rfl, rfl, ?_⟩
      rw [law.entries.2.1 n]
      cases enabled : (s.bar n).enabled <;> simp [Bar.onReset, enabled]
    exact (LanesKept.of_emptied seats empty).orders law
  · refine ⟨by simpa [State.onReset] using law.1, fun n hn => ?_⟩
    rw [onReset_bar]
    exact law.2 n hn

theorem completeAccess_tablesKept (s : State) : TablesKept s s.completeAccess := by
  rcases completeAccess_cases s with e | ⟨p, a, cells, -, e⟩ <;> rw [e]
  · exact .refl s
  · exact writeInGrant_tablesKept p a cells s

/-! ### Every command and event -/

theorem timed_tablesKept {f : State → State} (h : ∀ u, TablesKept u (f u)) (t : Nat) (s : State) :
    TablesKept s ((s.elapse t).unlessHeld f) :=
  (TablesKept.of_same : TablesKept s (s.elapse t)).trans (tablesKept_blind.unlessHeld h _)

/-- A lane event, which changes the run side alone. -/
theorem LanesKept.tablesKept_of_runSide {s t : State} (h : LanesKept s t) (side : RunSide s t) : TablesKept s t :=
  h.tablesKept side.shaftSide

theorem driveReply_tablesKept (g address : Nat) (r : DriveReply) (s : State) : TablesKept s (s.driveReply g address r) :=
  (driveReply_lanesKept g address r s).tablesKept_of_runSide (driveReply_runSide g address r s)

/-- A judged command whose effect keeps the tables, the bars' seats and the laws of the lanes. -/
theorem command_tablesKept {refusal : State → Option Reply} {effect : State → State} {data : State → List Byte}
    (h : ∀ u, refusal u = none → TablesKept u (effect u)) (p : Port) (onlyM : Bool) (i : Instr) (s : State) :
    TablesKept s (s.command p onlyM i (judged refusal effect data)) := tablesKept_blind.command h p onlyM i s

theorem timedCommand_tablesKept {refusal : State → Option Reply} {effect : State → State} {data : State → List Byte}
    (h : ∀ u, TablesKept u (effect u)) (p : Port) (onlyM : Bool) (i : Instr) (t : Nat) (s : State) :
    TablesKept s ((s.elapse t).command p onlyM i (judged refusal effect data)) :=
  (TablesKept.of_same : TablesKept s (s.elapse t)).trans (command_tablesKept (fun u _ => h u) p onlyM i _)

/-- The rows that configure a bar or give every bar its reset or power-up values. -/
def seatsBars : Instr → Bool
  | .powerUp => true
  | .resetInput => true
  | .setBar _ _ _ _ _ _ _ => true
  | _ => false

theorem homeRefusal_none {b : Nat} {s : State} (h : homeRefusal b s = none) : b < 48 ∨ b = allBars := by
  simp [homeRefusal, firstRefusal_none] at h
  omega

theorem placeBarRefusal_none {b x : Nat} {s : State} (h : placeBarRefusal b x s = none) : b < 48 := by
  have tests := firstReply_none.mp h _ List.mem_cons_self
  simp [firstRefusal_none] at tests
  omega

/-- Every other row leaves the bars their seats. -/
theorem exec_tablesKept {c : Instr} {s t : State} (hc : seatsBars c = false) (h : exec c s = .next t) : TablesKept s t := by
  have next {u : State} (e : exec c s = .next u) (k : TablesKept s u) : TablesKept s t :=
    Host.Outcome.next.inj (e.symm.trans h) ▸ k
  cases c with
  | powerUp | resetInput | setBar => cases hc
  | encoderCount e time =>
    refine next rfl (timed_tablesKept (fun u => ?_) time s)
    split
    · cases e with
      | forward | reverse => exact (takeCount_lanesKept _ _ u).tablesKept (takeCount_shaftSide _ _ u)
      | together => exact .refl u
    · exact .refl u
  | encoderIndex =>
    refine next rfl (tablesKept_blind.unlessHeld (fun u => ?_) s)
    split
    · exact (takeIndex_lanesKept u).tablesKept (takeIndex_shaftSide u)
    · exact .refl u
  | simulatedCount time =>
    refine next rfl (timed_tablesKept (fun u => ?_) time s)
    split
    · split
      · exact (simulate_lanesKept _ u).tablesKept (simulate_shaftSide _ u)
      · exact .refl u
    · exact .refl u
  | stillTimerExpiry time =>
    refine next rfl (timed_tablesKept (fun u => ?_) time s)
    split
    · split <;> exact .of_same
    · exact .refl u
  | buildBegin =>
    refine next rfl (tablesKept_blind.unlessHeld (fun u => ?_) s)
    split
    · exact (beginBuild_tablesKept u).trans
        ((raiseIf_lanesKept _ _ _).tablesKept_of_runSide (raiseIf_runSide _ _ _))
    · exact .refl u
  | builderFetch =>
    rcases builderFetch_cases h with rfl | rfl
    · exact .refl t
    · exact endFetch_tablesKept s
  | append =>
    refine next rfl (tablesKept_blind.unlessHeld (fun u => ?_) s)
    split
    · exact afterAppend_tablesKept _ u
    · exact .refl u
  | orderFrameSent lane time =>
    exact next rfl (timed_tablesKept
      (fun u => (frameSent_lanesKept lane u).tablesKept_of_runSide (frameSent_runSide lane u)) time s)
  | taken lane address time => exact next rfl (timed_tablesKept (driveReply_tablesKept lane address _) time s)
  | inPosition lane address position =>
    refine next rfl ?_
    split
    · exact tablesKept_blind.unlessHeld (driveReply_tablesKept lane address _) s
    · exact .refl s
  | fault lane address code =>
    refine next rfl ?_
    split
    · exact .refl s
    · exact tablesKept_blind.unlessHeld (driveReply_tablesKept lane address _) s
  | replyFrameIgnored lane frame time =>
    refine next rfl ?_
    split
    · exact .refl s
    · exact timed_tablesKept (driveReply_tablesKept lane _ _) time s
  | takeLimitExpiry bar time =>
    exact next rfl (timed_tablesKept
      (fun u => (takeLimitReached_lanesKept bar u).tablesKept_of_runSide (takeLimitReached_runSide bar u)) time s)
  | moveLimitExpiry bar time =>
    exact next rfl (timed_tablesKept
      (fun u => (moveLimitReached_lanesKept bar u).tablesKept_of_runSide (moveLimitReached_runSide bar u)) time s)
  | chunk =>
    rcases chunk_cases h with rfl | ⟨op, -, -, -, rfl⟩
    · exact .refl t
    · exact runChunk_tablesKept op s
  | readCellsGrant port =>
    rcases readCellsGrant_cases h with rfl | ⟨r, rfl⟩
    · exact .refl t
    · exact endAccess_tablesKept port r s
  | writeCellsGrant port =>
    rcases writeCellsGrant_cases h with rfl | ⟨a, cells, r, -, rfl⟩
    · exact .refl t
    · exact (writeInGrant_tablesKept port a cells s).trans (endAccess_tablesKept port r _)
  | transactionBegin port =>
    refine next rfl ?_
    split
    · exact tablesKept_blind.setPort port _ s
    · split
      · exact tablesKept_blind.setPort port _ s
      · exact .refl s
  | transactionEnd port bits => exact next rfl (tablesKept_blind.setPort port _ s)
  | replyRead port =>
    refine next rfl ?_
    split
    · exact tablesKept_blind.setPort port _ s
    · exact .refl s
  | unknownCommand port code => exact next rfl (tablesKept_blind.take .refl port _ _ s)
  | status port =>
    exact next rfl (tablesKept_blind.take (body := judged (fun _ => none) id (statusData port)) .refl port _ _ s)
  | eventsClear port | eventsEnable port =>
    exact next rfl (command_tablesKept (fun u _ => tablesKept_blind.setPort port _ u) port _ _ s)
  | setConstants port k time => exact next rfl (timedCommand_tablesKept (setConstantsEffect_tablesKept k) port _ _ time s)
  | setSource port x time => exact next rfl (timedCommand_tablesKept (setSourceEffect_tablesKept x) port _ _ time s)
  | simSpeed port x time =>
    refine next rfl (timedCommand_tablesKept (fun u => ?_) port _ _ time s)
    exact .of_same
  | simGate port x time => exact next rfl (timedCommand_tablesKept (simGateEffect_tablesKept x) port _ _ time s)
  | readCells port | writeCells port =>
    exact next rfl (tablesKept_blind.take (waitForGrant_tablesKept port _ _) port _ _ s)
  | map port g => exact next rfl (command_tablesKept (fun u _ => mapEffect_tablesKept g _ u) port _ _ s)
  | mapCancel port g => exact next rfl (command_tablesKept (fun u _ => mapCancelEffect_tablesKept g u) port _ _ s)
  | mapClear port g => exact next rfl (command_tablesKept (fun u _ => setSegment_tablesKept g _ u) port _ _ s)
  | home port bar =>
    exact next rfl (command_tablesKept (fun u free =>
      (homeEffect_lanesKept (homeRefusal_none free) u).tablesKept_of_runSide (homeEffect_runSide bar u)) port _ _ s)
  | placeBar port bar x =>
    exact next rfl (command_tablesKept (fun u free =>
      (orderTo_lanesKept x none u (placeBarRefusal_none free)).tablesKept_of_runSide (orderTo_runSide bar x none u))
      port _ _ s)
  | arm port e r c =>
    refine next rfl (command_tablesKept (fun u _ => ?_) port _ _ s)
    exact (TablesKept.of_same : TablesKept u (u.arming _)).trans
      ((tryPlacement_lanesKept _).tablesKept_of_runSide (tryPlacement_runSide _))
  | resume port =>
    refine next rfl (command_tablesKept (fun u _ => ?_) port _ _ s)
    exact (TablesKept.of_same : TablesKept u u.resuming).trans
      ((tryPlacement_lanesKept _).tablesKept_of_runSide (tryPlacement_runSide _))
  | restart port =>
    refine next rfl (command_tablesKept (fun u _ => ?_) port _ _ s)
    exact ((purge_lanesKept u).tablesKept_of_runSide (purge_runSide u)).trans .of_same
  | continueRun port =>
    refine next rfl (command_tablesKept (fun u _ => ?_) port _ _ s)
    rw [continueEffect_eq]
    exact .of_same
  | opFill port | opCopy port =>
    exact next rfl (command_tablesKept (fun u _ => (unverify_tablesKept _ u).trans (launch_tablesKept _ _)) port _ _ s)
  | opCheck port g w => exact next rfl (command_tablesKept (fun u _ => opCheckEffect_tablesKept port g w u) port _ _ s)
  | opSuspend port => exact next rfl (command_tablesKept (fun u _ => opSuspendEffect_tablesKept u) port _ _ s)
  | opResume port => exact next rfl (command_tablesKept (fun u _ => opResumeEffect_tablesKept u) port _ _ s)
  | opAbort port => exact next rfl (command_tablesKept (fun u _ => opAbortEffect_tablesKept u) port _ _ s)
  | resetRelease => exact next rfl .of_same
  | eventsRead port | shaftRead port | getConstants port | regionGet port | mapGet port | seqGet port | getBar port
  | queueRead port | opStatus port => exact next rfl (command_tablesKept (fun u _ => .refl u) port _ _ s)
  | shaftLatch port =>
    refine next rfl (command_tablesKept (fun u _ => ?_) port _ _ s)
    cases port <;> exact .of_same
  | regionSet port | regionClear port | lock port | unlock port | lockDown port =>
    refine next rfl (command_tablesKept (fun u _ => ?_) port _ _ s)
    exact .of_same (regions := List.length_set)
  | seqWrite port | seqRepeat port =>
    refine next rfl (command_tablesKept (fun u _ => ?_) port _ _ s)
    exact .of_same (entries := List.length_set)
  | setClass port =>
    refine next rfl (command_tablesKept (fun u _ => ?_) port _ _ s)
    exact .of_same (classes := List.length_set)
  | seqForm port | clearStop port | disarm port =>
    refine next rfl (command_tablesKept (fun u _ => ?_) port _ _ s)
    exact .of_same

theorem exec_laneLawsKept {c : Instr} {s t : State} (h : exec c s = .next t) : LaneLawsKept s t := by
  by_cases hc : seatsBars c = false
  · exact (exec_tablesKept hc h).lawsKept
  cases c with
  | powerUp =>
    cases h
    exact reset_laneLawsKept s
  | resetInput =>
    cases h
    exact (completeAccess_tablesKept s).lawsKept.trans (onReset_laneLawsKept _)
  | setBar port b enabled lane address cls limit =>
    cases h
    exact laneLawsKept_blind.command (fun _ free => setBarEffect_lawsKept free) port _ _ s
  | _ => exact absurd rfl hc

/-- Settles O57: a tick moves no bar and no lane, and every command and event keeps the laws. -/
theorem stepsKeepTheBarAndLaneLaws : Obligations.StepsKeepTheBarAndLaneLaws := by
  intro s t h
  have kept : LaneLawsKept s t := by
    rcases step_cases h with rfl | ⟨c, rest, -, h⟩
    · exact TablesKept.lawsKept .of_same
    · have popped : TablesKept s { s with pending := rest } := .of_same
      exact popped.lawsKept.trans (exec_laneLawsKept h)
  refine ⟨fun bars lanes entries => ?_, kept.transmits, kept.tables⟩
  obtain ⟨bars, lanes, entries⟩ := kept.orders ⟨bars, lanes, entries⟩
  exact ⟨bars, lanes, entries⟩

end Sys2Proof.Machine
end


section
/-! TAKE_LIMIT_EXPIRY and MOVE_LIMIT_EXPIRY, and what the hard fault of a bar that has gone LOST leaves. -/

namespace Sys2Proof.Machine

/-! ### The run side and events, as statements say them -/

/-- What the run side of the part may change. -/
theorem RunSide.only {s t : State} (h : RunSide s t) : OnlyRunSide s t :=
  ⟨h.eq, fun p => ⟨(h.ports p).eq, (h.ports p).events⟩, fun a => by rw [h.memory]⟩

/-- An event at a time, taken while the reset input is released. -/
theorem timed_free {time : Nat} {s : State} (held : s.resetHeld = false) (later : s.now ≤ time) (f : State → State) :
    (s.elapse time).unlessHeld f = f { s with now := time } := by
  rw [State.elapse_eq later]
  exact unlessHeld_free (s := { s with now := time }) held f

@[simp] theorem RunSide.angle {s t : State} (h : RunSide s t) : t.angle = s.angle := by
  simp only [State.angle, h.tracker, h.constants]

theorem RunSide.headCourse {s t : State} (h : RunSide s t) : t.headCourse = s.headCourse := by
  simp only [State.headCourse, h.queue]

/-! ### The hard fault of a bar (R124, R136, R137) -/

/-- A hard fault purges the bars and lanes, or leaves them; in HALTED and in FAULTED it leaves them. -/
theorem hardFault_barsLanes (k : FaultKind) (b c : Option Nat) (s : State) :
    ((s.hardFault k b c).bars = s.bars ∧ (s.hardFault k b c).lanes = s.lanes) ∨
    ((s.run.state ≠ .halted ∧ s.run.state ≠ .faulted) ∧
      (s.hardFault k b c).bars = s.bars.map Bar.purge ∧ (s.hardFault k b c).lanes = s.lanes.map Lane.purge) := by
  unfold State.hardFault
  cases state : s.run.state with
  | placing | running => exact .inr ⟨by simp, by simp⟩
  | ended =>
    cases b with
    | none => exact .inl ⟨rfl, rfl⟩
    | some => exact .inr ⟨by simp, by simp⟩
  | halted | faulted => exact .inl ⟨rfl, rfl⟩

/-- A hard fault leaves a bar with no order outstanding as it is. -/
theorem hardFault_bar_free {s : State} {n : Nat} (free : (s.bar n).outstanding = false) (k : FaultKind)
    (b c : Option Nat) : (s.hardFault k b c).bar n = s.bar n := by
  rcases hardFault_barsLanes k b c s with ⟨bars, -⟩ | ⟨-, bars, -⟩
  · exact bar_of_bars bars n
  · rw [bar_of_map bars rfl, Bar.purge, free]
    rfl

/-- A hard fault leaves a lane's queue, or empties it. -/
theorem hardFault_lane_queue (k : FaultKind) (b c : Option Nat) (s : State) (g : Nat) :
    ((s.hardFault k b c).lane g).queue = (s.lane g).queue ∨ ((s.hardFault k b c).lane g).queue = [] := by
  rcases hardFault_barsLanes k b c s with ⟨-, lanes⟩ | ⟨-, -, lanes⟩
  · exact .inl (by rw [State.lane, lanes]; rfl)
  · exact .inr (by rw [lane_of_map lanes rfl]; rfl)

/-- R136, R137, R124, R141: a bar's hard fault is taken. -/
theorem hardFault_takes_bar (k : FaultKind) (b : Nat) (c : Option Nat) (s : State) :
    TakesHardFault { kind := k, bar := some b, course := c, angle := s.angle, more := false } s
      (s.hardFault k (some b) c) := by
  have entered (h : s.hardFault k (some b) c = s.enterFaulted k (some b) c) :
      (s.hardFault k (some b) c).run = { s.run with
        state := .faulted, placement := none,
        fault := some { kind := k, bar := some b, course := c, angle := s.angle, more := false } } ∧
      BothShow .fault (s.hardFault k (some b) c) ∧
      (s.stopRequested = false → BothShow .stopRequest (s.hardFault k (some b) c)) ∧
      (∀ g, ((s.hardFault k (some b) c).lane g).queue = [] ∧ ((s.hardFault k (some b) c).lane g).awaiting = false) ∧
      ∀ n, ((s.hardFault k (some b) c).bar n).outstanding = false := by
    rw [h]
    exact ⟨State.enterFaulted_run _ _ _ s, bothShow_enterFaulted _ _ _ s, fun quiet => stopRequest_enterFaulted quiet _ _ _,
      State.enterFaulted_lane _ _ _ s, State.enterFaulted_outstanding _ _ _ s⟩
  unfold TakesHardFault
  cases state : s.run.state with
  | placing | running | ended => exact entered (by simp [State.hardFault, state])
  | faulted => simp [State.hardFault, state, State.faultMore]
  | halted => simp [State.hardFault, state]

/-- A hard fault is taken from run control as it stands. -/
theorem TakesHardFault.congr {f : FaultRecord} {s u t : State} (h : TakesHardFault f u t) (run : u.run = s.run) :
    TakesHardFault f s t := by
  unfold TakesHardFault State.stopRequested at h ⊢
  rwa [run] at h

/-- What the report of a bar that has gone LOST leaves (R124): the bar, BAR_LOST, and the hard fault taken. -/
theorem barFault_reports {s u : State} {b : Nat} (side : RunSide s u) (run : u.run = s.run)
    (free : (u.bar b).outstanding = false) (k : FaultKind) :
    (u.barFault k b).bar b = u.bar b ∧ BothShow .barLost (u.barFault k b) ∧
      TakesHardFault { kind := k, bar := some b, course := s.headCourse, angle := s.angle, more := false } s
        (u.barFault k b) := by
  unfold State.barFault
  refine ⟨hardFault_bar_free (s := u.raise .barLost) free k _ _,
    (bothShow_raise .barLost u).mono (hardFault_runSide _ _ _ _).ports, ?_⟩
  have taken := hardFault_takes_bar k b u.headCourse (u.raise .barLost)
  rw [(side.trans (raise_runSide .barLost u)).angle, side.headCourse] at taken
  rw [side.headCourse]
  exact taken.congr run

/-! ### A bar lost from its lane (R119, R122) -/

@[simp] theorem State.loseFromLane_run (b : Nat) (s : State) : (s.loseFromLane b).run = s.run := by
  simp [State.loseFromLane]

theorem loseFromLane_bar {b : Nat} {s : State} (hb : b < s.bars.length) :
    (s.loseFromLane b).bar b = { s.bar b with handshake := .lost, known := none } := by
  unfold State.loseFromLane
  rw [State.transmit_bar, State.bar_setLane, State.bar_setBar s _ hb]
  rfl

/-- R119, R122: the bar's entry leaves the queue of its lane. -/
theorem loseFromLane_queue (b : Nat) (s : State) : ((s.loseFromLane b).lane (s.bar b).lane).queue =
    (s.lane (s.bar b).lane).queue.filter fun e => e.bar != b := by
  unfold State.loseFromLane
  dsimp only
  rw [State.transmit_lane_queue]
  by_cases inside : (s.bar b).lane < s.lanes.length
  · rw [State.lane_setLane (s.setBar b _) _ inside]
    rfl
  · rw [State.lane_beyond _ (by simpa using Nat.le_of_not_lt inside), State.lane_beyond s (Nat.le_of_not_lt inside)]
    rfl

theorem loseFromLane_lane_ne {b g : Nat} (s : State) (h : g ≠ (s.bar b).lane) : (s.loseFromLane b).lane g = s.lane g := by
  unfold State.loseFromLane
  dsimp only
  rw [State.transmit_lane_ne _ (Ne.symm h), State.lane_setLane_ne _ _ (Ne.symm h)]
  rfl

/-- The report of a bar lost from its lane: none of its entries is left there. -/
theorem barFault_queue (k : FaultKind) (b : Nat) (s : State) :
    ∀ e ∈ (((s.loseFromLane b).barFault k b).lane (s.bar b).lane).queue, e.bar ≠ b := by
  intro e he
  have queue := hardFault_lane_queue k (some b) (s.loseFromLane b).headCourse ((s.loseFromLane b).raise .barLost)
    (s.bar b).lane
  change _ = ((s.loseFromLane b).lane (s.bar b).lane).queue ∨ _ at queue
  rcases queue with queue | queue
  · rw [State.barFault, queue, loseFromLane_queue] at he
    simpa using (List.mem_filter.mp he).2
  · rw [State.barFault, queue] at he
    cases he

/-! ### The limits (R119, R120) -/

theorem takeLimitReached_posted {b t0 : Nat} {c : Chain} {s : State} (posted : (s.bar b).handshake = .posted c)
    (timer : c.takeTimer = some t0) : s.takeLimitReached b =
      if t0 + 2000 ≤ s.now then (s.loseFromLane b).barFault .driveSilent b else s := by
  simp only [State.takeLimitReached, posted, timer]
  rfl

theorem takeLimitReached_idle {b : Nat} {s : State}
    (h : ∀ c t0, (s.bar b).handshake = .posted c → c.takeTimer ≠ some t0) : s.takeLimitReached b = s := by
  unfold State.takeLimitReached
  split
  · next c posted =>
    split
    · next t0 timer => exact absurd timer (h c t0 posted)
    · rfl
  · rfl

theorem moveLimitReached_moving {b : Nat} {c : Chain} {m : MoveTimer} {s : State}
    (moving : (s.bar b).handshake = .moving c) (timer : c.moveTimer = some m) : s.moveLimitReached b =
      if m.start + m.limit ≤ s.now then (s.setBar b ((s.bar b).lose none)).barFault .driveTimeout b else s := by
  simp only [State.moveLimitReached, moving, timer]

theorem moveLimitReached_idle {b : Nat} {s : State}
    (h : ∀ c m, (s.bar b).handshake = .moving c → c.moveTimer ≠ some m) : s.moveLimitReached b = s := by
  unfold State.moveLimitReached
  split
  · next c moving =>
    split
    · next m timer => exact absurd timer (h c m moving)
    · rfl
  · rfl

theorem exec_takeLimitExpiry {b time : Nat} {s : State} (held : s.resetHeld = false) (later : s.now ≤ time) :
    exec (.takeLimitExpiry b time) s = .next (State.takeLimitReached b { s with now := time }) := by
  rw [← timed_free held later (State.takeLimitReached b)]
  rfl

theorem exec_moveLimitExpiry {b time : Nat} {s : State} (held : s.resetHeld = false) (later : s.now ≤ time) :
    exec (.moveLimitExpiry b time) s = .next (State.moveLimitReached b { s with now := time }) := by
  rw [← timed_free held later (State.moveLimitReached b)]
  rfl

/-- Settles O39: at its limit the bar is lost and reported; before it, and with no timer running, nothing happens. -/
theorem silentAndLateDrivesAreLost : Obligations.SilentAndLateDrivesAreLost := by
  intro b time s held later hb
  refine ⟨⟨_, exec_takeLimitExpiry held later, (takeLimitReached_runSide b _).only,
      fun c t0 posted timer => ?_, fun idle => takeLimitReached_idle (s := { s with now := time }) idle⟩,
    ⟨_, exec_moveLimitExpiry held later, (moveLimitReached_runSide b _).only,
      fun c m moving timer => ?_, fun idle => moveLimitReached_idle (s := { s with now := time }) idle⟩⟩
  · rw [takeLimitReached_posted (s := { s with now := time }) posted timer]
    refine ⟨fun early => if_neg (Nat.not_le_of_lt early), fun late => ?_⟩
    rw [if_pos late]
    have lost := loseFromLane_bar (s := { s with now := time }) hb
    obtain ⟨bar, shows, taken⟩ := barFault_reports (loseFromLane_runSide b { s with now := time })
      (State.loseFromLane_run b _) (by rw [lost]; rfl) .driveSilent
    exact ⟨bar.trans lost, shows, barFault_queue .driveSilent b { s with now := time }, taken⟩
  · rw [moveLimitReached_moving (s := { s with now := time }) moving timer]
    refine ⟨fun early => if_neg (Nat.not_le_of_lt early), fun late => ?_⟩
    rw [if_pos late]
    have lost := State.bar_setBar { s with now := time } ((s.bar b).lose none) hb
    obtain ⟨bar, shows, taken⟩ := barFault_reports (setBar_runSide b ((s.bar b).lose none) { s with now := time })
      rfl (by rw [lost]; rfl) .driveTimeout
    exact ⟨bar.trans lost, shows, taken⟩

end Sys2Proof.Machine
end


section
/-! IN_POSITION, FAULT and REPLY_FRAME_IGNORED: which bar a reply is from, and what it leaves. -/

namespace Sys2Proof.Machine

/-! ### The frames a lane ignores and the bar a reply is from (R123, R164) -/

/-- R164: a frame cut off, or of a wrong check byte, or that names no reply, or whose value is out of range. -/
def Undecodable (f : ReplyFrame) : Prop :=
  f.cutOff = true ∨ f.check ≠ f.head ^^^ f.value ^^^ 0x5A#8 ∨ ¬(1 ≤ f.head.toNat % 16 ∧ f.head.toNat % 16 ≤ 3) ∨
    (f.head.toNat % 16 = 2 ∧ 127 < f.value.toNat) ∨ (f.head.toNat % 16 = 3 ∧ f.value.toNat = 0)

theorem decodeReply_undecodable {f : ReplyFrame} (h : Undecodable f) : decodeReply f = none := by
  unfold decodeReply
  split
  · rfl
  · next whole =>
    obtain ⟨uncut, check⟩ : f.cutOff = false ∧ f.check = f.head ^^^ f.value ^^^ 0x5A#8 := by simpa using whole
    have coded : ¬(1 ≤ f.head.toNat % 16 ∧ f.head.toNat % 16 ≤ 3) ∨ (f.head.toNat % 16 = 2 ∧ 127 < f.value.toNat) ∨
        (f.head.toNat % 16 = 3 ∧ f.value.toNat = 0) := by
      simpa [Undecodable, uncut, check] using h
    split
    · next taken => omega
    · next arrived => exact if_neg (by omega)
    · next fault => exact if_pos (by omega)
    · rfl

theorem barAt_none {s : State} {g address : Nat}
    (h : ∀ n, n < 48 → ¬((s.bar n).enabled ∧ (s.bar n).lane = g ∧ (s.bar n).address = address)) :
    s.barAt g address = none := by
  refine List.find?_eq_none.mpr fun n hn => ?_
  simpa [and_assoc] using h n (List.mem_range.mp hn)

theorem barAt_unique {s : State} {g address b : Nat} (hb : b < 48)
    (h : ∀ n, n < 48 → (((s.bar n).enabled ∧ (s.bar n).lane = g ∧ (s.bar n).address = address) ↔ n = b)) :
    s.barAt g address = some b := by
  cases found : s.barAt g address with
  | some n =>
    obtain ⟨hn, seat⟩ := barAt_some found
    rw [(h n hn).mp seat]
  | none =>
    have none := List.find?_eq_none.mp found b (List.mem_range.mpr hb)
    exact absurd ((h b hb).mpr rfl) (by simpa [and_assoc] using none)

/-- R123: a reply from no enabled bar is ignored. -/
theorem driveReply_unmatched {g address : Nat} {s : State} (h : s.barAt g address = none) (r : DriveReply) :
    s.driveReply g address r = s := by
  simp [State.driveReply, h]

theorem exec_inPosition {g address x : Nat} {s : State} (held : s.resetHeld = false) : exec (.inPosition g address x) s =
    .next (if x ≤ 127 then s.driveReply g address (.inPosition x) else s) := by
  rw [← unlessHeld_free held (State.driveReply g address (.inPosition x))]
  rfl

theorem exec_fault {g address code : Nat} {s : State} (held : s.resetHeld = false) : exec (.fault g address code) s =
    .next (if code = 0 then s else s.driveReply g address (.fault code)) := by
  rw [← unlessHeld_free held (State.driveReply g address (.fault code))]
  rfl

/-- A reply that is ignored changes nothing. -/
theorem replies_ignored {g address : Nat} {s : State} (held : s.resetHeld = false)
    (h : ∀ r, s.driveReply g address r = s) :
    (∀ x, exec (.inPosition g address x) s = .next s) ∧ ∀ x, exec (.fault g address x) s = .next s :=
  ⟨fun x => by rw [exec_inPosition held, h, ite_self], fun x => by rw [exec_fault held, h, ite_self]⟩

/-! ### IN_POSITION (R121, R134) -/

/-- Outside PLACING the end of a move ends no placement. -/
theorem completePlacement_other {s : State} (h : s.run.state ≠ .placing) : s.completePlacement = s := by
  simp [State.completePlacement, h]

/-- R134: with its targets fixed, a placement is complete exactly where every enabled bar is IDLE at its target. -/
theorem placed_iff {s : State} {zones : List Zone} {targets : List (Option Nat)}
    (h : s.run.placement = some { zones := zones, targets := some targets }) :
    s.placed = true ↔ s.allPlaced targets := by
  simp only [State.placed, h, State.allPlaced, List.all_eq_true, List.mem_range]
  refine forall_congr' fun n => forall_congr' fun _ => ?_
  cases (s.bar n).enabled <;> simp [and_assoc]

theorem completePlacement_placed {s : State} {zones : List Zone} {targets : List (Option Nat)}
    (placing : s.run.state = .placing) (h : s.run.placement = some { zones := zones, targets := some targets }) :
    (s.completePlacement.allPlaced targets →
      s.completePlacement.run = { s.run with state := .running, placement := none } ∧
        BothShow .placed s.completePlacement) ∧
    (¬s.completePlacement.allPlaced targets → s.completePlacement.run = s.run) := by
  obtain ⟨bars, -, run, shows⟩ := completePlacement_reads placing
  have same : s.completePlacement.allPlaced targets ↔ s.placed = true := by
    rw [placed_iff h]
    simp only [State.allPlaced, bar_of_bars bars]
  rw [same, run]
  exact ⟨fun done => ⟨if_pos done, shows done⟩, fun waits => if_neg waits⟩

theorem completePlacement_barsLanes (s : State) :
    s.completePlacement.bars = s.bars ∧ s.completePlacement.lanes = s.lanes := by
  by_cases placing : s.run.state = .placing
  · obtain ⟨bars, lanes, -⟩ := completePlacement_reads placing
    exact ⟨bars, lanes⟩
  · rw [completePlacement_other placing]
    exact ⟨rfl, rfl⟩

theorem replyInPosition_idle {b x : Nat} {s : State} (h : ∀ c, (s.bar b).handshake ≠ .moving c) :
    s.replyInPosition b x = s := by
  unfold State.replyInPosition
  split
  · next c moving => exact absurd moving (h c)
  · rfl

/-- R121: the move ends at its target. -/
theorem replyInPosition_target {b : Nat} {c : Chain} {s : State} (moving : (s.bar b).handshake = .moving c) :
    s.replyInPosition b c.order.target =
      (s.setBar b { s.bar b with handshake := .idle, known := some c.order.target }).completePlacement := by
  simp [State.replyInPosition, moving]

/-- R121: a position other than the target is MISMATCH. -/
theorem replyInPosition_mismatch {b x : Nat} {c : Chain} {s : State} (moving : (s.bar b).handshake = .moving c)
    (elsewhere : x ≠ c.order.target) :
    s.replyInPosition b x = (s.setBar b ((s.bar b).lose (some x))).barFault .mismatch b := by
  simp [State.replyInPosition, moving, elsewhere]

/-! ### FAULT (R122) -/

theorem replyFault_free {b code : Nat} {s : State} (free : (s.bar b).outstanding = false) :
    s.replyFault b code = s := by
  simp [State.replyFault, free]

theorem replyFault_outstanding {b code : Nat} {s : State} (outstanding : (s.bar b).outstanding = true) :
    s.replyFault b code =
      ((s.setBar b { s.bar b with driveCode := code }).loseFromLane b).barFault .driveFault b := by
  simp [State.replyFault, outstanding]

/-- R124: in HALTED and FAULTED the report of a lost bar leaves the lanes as they are. -/
theorem barFault_lane_stopped {s : State} (h : s.run.state = .halted ∨ s.run.state = .faulted) (k : FaultKind)
    (b g : Nat) : (s.barFault k b).lane g = s.lane g := by
  rcases hardFault_barsLanes k (some b) s.headCourse (s.raise .barLost) with ⟨-, lanes⟩ | ⟨⟨halted, faulted⟩, -⟩
  · rw [State.barFault, State.lane, lanes]
    rfl
  · exact absurd h (not_or.mpr ⟨halted, faulted⟩)

/-- R122, R124: a FAULT loses the bar with the drive's code, takes its entry from its lane, and is reported. -/
theorem replyFault_reports {b : Nat} {s : State} (hb : b < s.bars.length) (outstanding : (s.bar b).outstanding = true)
    (code : Nat) :
    ((s.replyFault b code).bar b = { s.bar b with handshake := .lost, known := none, driveCode := code } ∧
      BothShow .barLost (s.replyFault b code)) ∧
    (∀ e ∈ ((s.replyFault b code).lane (s.bar b).lane).queue, e.bar ≠ b) ∧
    (s.run.state = .halted ∨ s.run.state = .faulted →
      ((s.replyFault b code).lane (s.bar b).lane).queue =
          (s.lane (s.bar b).lane).queue.filter (fun e => e.bar != b) ∧
        ∀ n, n ≠ (s.bar b).lane → (s.replyFault b code).lane n = s.lane n) ∧
    TakesHardFault { kind := .driveFault, bar := some b, course := s.headCourse, angle := s.angle, more := false } s
      (s.replyFault b code) := by
  rw [replyFault_outstanding outstanding]
  generalize coded : s.setBar b { s.bar b with driveCode := code } = u
  have bar : u.bar b = { s.bar b with driveCode := code } := by rw [← coded, State.bar_setBar s _ hb]
  have lane : (u.bar b).lane = (s.bar b).lane := by rw [bar]
  have lanes (g : Nat) : u.lane g = s.lane g := by rw [← coded]; rfl
  have run : (u.loseFromLane b).run = s.run := by rw [State.loseFromLane_run, ← coded]; rfl
  have side : RunSide s (u.loseFromLane b) := by
    rw [← coded]
    exact (setBar_runSide b _ s).trans (loseFromLane_runSide b _)
  have lost : (u.loseFromLane b).bar b = { s.bar b with handshake := .lost, known := none, driveCode := code } := by
    rw [loseFromLane_bar (by rw [← coded]; simpa using hb), bar]
  obtain ⟨stays, shows, taken⟩ := barFault_reports side run (by rw [lost]; rfl) .driveFault
  refine ⟨⟨stays.trans lost, shows⟩, lane ▸ barFault_queue .driveFault b u, fun stopped => ?_, taken⟩
  rw [← run] at stopped
  simp only [barFault_lane_stopped stopped]
  exact ⟨by rw [← lane, loseFromLane_queue, lanes], fun n hn => by rw [loseFromLane_lane_ne u (lane ▸ hn), lanes]⟩

/-! ### The replies together -/

/-- R121, R134: IN_POSITION from a bar, by its state. -/
theorem replyInPosition_ends {b : Nat} {s : State} (hb : b < s.bars.length) (x : Nat) :
    ((∀ c, (s.bar b).handshake ≠ .moving c) → s.replyInPosition b x = s) ∧
    (∀ c, (s.bar b).handshake = .moving c → x = c.order.target →
      (s.replyInPosition b x).bar b = { s.bar b with handshake := .idle, known := some x } ∧
      (∀ n, n ≠ b → (s.replyInPosition b x).bar n = s.bar n) ∧ (s.replyInPosition b x).lanes = s.lanes ∧
      (s.run.state ≠ .placing → (s.replyInPosition b x).run = s.run) ∧
      (s.run.state = .placing → ∀ z targets, s.run.placement = some { zones := z, targets := some targets } →
        ((s.replyInPosition b x).allPlaced targets →
          (s.replyInPosition b x).run = { s.run with state := .running, placement := none } ∧
            BothShow .placed (s.replyInPosition b x)) ∧
        (¬(s.replyInPosition b x).allPlaced targets → (s.replyInPosition b x).run = s.run))) ∧
    (∀ c, (s.bar b).handshake = .moving c → x ≠ c.order.target →
      (s.replyInPosition b x).bar b = { s.bar b with handshake := .lost, known := some x } ∧
      BothShow .barLost (s.replyInPosition b x) ∧
      TakesHardFault { kind := .mismatch, bar := some b, course := s.headCourse, angle := s.angle, more := false } s
        (s.replyInPosition b x)) := by
  refine ⟨replyInPosition_idle, fun c moving target => ?_, fun c moving elsewhere => ?_⟩
  · subst target
    rw [replyInPosition_target moving]
    generalize arrived : s.setBar b { s.bar b with handshake := .idle, known := some c.order.target } = u
    have run : u.run = s.run := by rw [← arrived]; rfl
    obtain ⟨bars, lanes⟩ := completePlacement_barsLanes u
    refine ⟨?_, fun n hn => ?_, lanes.trans (by rw [← arrived]; rfl), fun other => ?_, fun placing z targets fixed => ?_⟩
    · rw [bar_of_bars bars, ← arrived, State.bar_setBar s _ hb]
    · rw [bar_of_bars bars, ← arrived, State.bar_setBar_ne s _ hn.symm]
    · rw [completePlacement_other (run.symm ▸ other), run]
    · rw [← run]
      exact completePlacement_placed (run.symm ▸ placing) (run.symm ▸ fixed)
  · rw [replyInPosition_mismatch moving elsewhere]
    have lost := State.bar_setBar s ((s.bar b).lose (some x)) hb
    obtain ⟨stays, shows, taken⟩ := barFault_reports (setBar_runSide b ((s.bar b).lose (some x)) s) rfl
      (by rw [lost]; rfl) .mismatch
    exact ⟨stays.trans lost, shows, taken⟩

theorem driveReply_from {g address b : Nat} {s : State} (quiet : (s.lane g).frame = none)
    (found : s.barAt g address = some b) :
    (∀ x, s.driveReply g address (.inPosition x) = s.replyInPosition b x) ∧
    (∀ code, s.driveReply g address (.fault code) = s.replyFault b code) ∧
    s.driveReply g address .taken = s.replyTaken b := by
  simp [State.driveReply, quiet, found]

/-- Settles O38: by the bar the reply is from, and that bar's state. -/
theorem repliesEndTheMove : Obligations.RepliesEndTheMove := by
  intro g address s held
  refine ⟨fun time f undecodable => ?_, fun transmits => ?_, fun nobody => ?_, fun b hb inside quiet unique => ?_⟩
  · have ignored := decodeReply_undecodable undecodable
    show Host.Outcome.next _ = _
    rw [ignored]
  · exact replies_ignored held fun r => State.driveReply_transmitting address r transmits
  · exact replies_ignored held (driveReply_unmatched (barAt_none nobody))
  · have found := barAt_unique hb unique
    obtain ⟨-, -, lane, -⟩ := barAt_some found
    obtain ⟨inPosition, fault, -⟩ := driveReply_from quiet found
    refine ⟨fun x hx => ⟨s.driveReply g address (.inPosition x), ?_, (driveReply_runSide g address _ s).only, ?_⟩,
      fun x hx _ => ⟨s.driveReply g address (.fault x), ?_, (driveReply_runSide g address _ s).only, ?_, ?_⟩⟩
    · rw [exec_inPosition held, if_pos hx]
    · rw [inPosition]
      exact replyInPosition_ends inside x
    · rw [exec_fault held, if_neg (by omega)]
    · rw [fault]
      exact replyFault_free
    · intro outstanding
      obtain ⟨⟨bar, shows⟩, queue, stopped, taken⟩ := replyFault_reports inside outstanding x
      rw [fault]
      subst lane
      exact ⟨bar, shows, queue, stopped, taken⟩

end Sys2Proof.Machine
end


section
/-! ORDER_FRAME_SENT and TAKEN: what the end of a frame and a taken order leave in the bars and in the lane. -/

namespace Sys2Proof.Machine

/-! ### The bars and one lane -/

/-- Nothing has changed but the bars and lane `g`. -/
structure OnlyLane (g : Nat) (s t : State) : Prop where
  eq : t = { s with bars := t.bars, lanes := t.lanes }
  lanes : ∀ n, n ≠ g → t.lane n = s.lane n

theorem OnlyLane.refl (g : Nat) (s : State) : OnlyLane g s s := ⟨rfl, fun _ _ => rfl⟩

theorem OnlyLane.trans {g : Nat} {s t u : State} (h : OnlyLane g s t) (k : OnlyLane g t u) : OnlyLane g s u :=
  ⟨k.eq.trans (by rw [h.eq]), fun n hn => (k.lanes n hn).trans (h.lanes n hn)⟩

theorem setBar_onlyLane (g b : Nat) (x : Bar) (s : State) : OnlyLane g s (s.setBar b x) := ⟨rfl, fun _ _ => rfl⟩

theorem setLane_onlyLane (g : Nat) (x : Lane) (s : State) : OnlyLane g s (s.setLane g x) :=
  ⟨rfl, fun _ hn => State.lane_setLane_ne s x hn.symm⟩

theorem transmit_onlyLane (g : Nat) (s : State) : OnlyLane g s (s.transmit g) := by
  refine ⟨?_, fun n hn => State.transmit_lane_ne s hn.symm⟩
  unfold State.transmit
  dsimp only
  split
  · rfl
  · split <;> rfl

theorem enqueue_onlyLane {b g : Nat} (o : Order) {s : State} (h : (s.bar b).lane = g) :
    OnlyLane g s (s.enqueue b o) := by
  subst h
  exact (setLane_onlyLane _ _ s).trans (transmit_onlyLane _ _)

theorem frameSent_onlyLane (g : Nat) (s : State) : OnlyLane g s (s.frameSent g) := by
  unfold State.frameSent
  dsimp only
  split
  · split
    · exact (setLane_onlyLane g _ s).trans (setBar_onlyLane g _ _ _)
    · exact (setLane_onlyLane g _ s).trans (transmit_onlyLane g _)
  · exact .refl g s

/-! ### A free lane transmits (R116) -/

/-- R116: a lane with its line free transmits the head of its queue, where there is one. -/
theorem transmit_laneWith {g : Nat} {s : State} (inside : g < s.lanes.length) {queue : List LaneEntry}
    (free : s.lane g = { queue := queue, awaiting := false, frame := none }) :
    (s.transmit g).lane g = s.laneWith queue := by
  cases queue with
  | nil => simp [State.transmit, free, State.laneWith]
  | cons e rest => simp [State.transmit, free, State.laneWith, State.lane_setLane s _ inside]

/-- What a lane transmits depends on the addresses of the bars alone. -/
theorem laneWith_congr {s t : State} (h : ∀ n, (t.bar n).address = (s.bar n).address) (queue : List LaneEntry) :
    t.laneWith queue = s.laneWith queue := by
  cases queue with
  | nil => rfl
  | cons e rest => simp only [State.laneWith, h]

/-- R116: lane `g` is freed with this queue, and transmits. -/
theorem setLane_transmit_lane {g : Nat} {s : State} (inside : g < s.lanes.length) (queue : List LaneEntry) :
    ((s.setLane g { queue := queue, awaiting := false, frame := none }).transmit g).lane g = s.laneWith queue := by
  rw [transmit_laneWith (by simpa using inside) (State.lane_setLane s _ inside)]
  exact laneWith_congr (fun _ => rfl) queue

theorem setBar_address {b : Nat} {x : Bar} {s : State} (h : x.address = (s.bar b).address) (n : Nat) :
    ((s.setBar b x).bar n).address = (s.bar n).address := by
  rcases setBar_cases b n x s with e | ⟨rfl, e⟩ <;> rw [e]
  exact h

theorem setBar_lane {b : Nat} {x : Bar} {s : State} (h : x.lane = (s.bar b).lane) (n : Nat) :
    ((s.setBar b x).bar n).lane = (s.bar n).lane := by
  rcases setBar_cases b n x s with e | ⟨rfl, e⟩ <;> rw [e]
  exact h

/-- R116, R117: an entry joins the queue of a free lane, which transmits. -/
theorem enqueue_laneWith {b g : Nat} (o : Order) {s : State} (inside : g < s.lanes.length) (seat : (s.bar b).lane = g)
    {queue : List LaneEntry} (free : s.lane g = { queue := queue, awaiting := false, frame := none }) :
    (s.enqueue b o).lane g = s.laneWith (queue ++ [{ bar := b, kind := o.kind, target := o.target }]) := by
  subst seat
  simp only [State.enqueue, free]
  exact setLane_transmit_lane inside _

/-! ### ORDER_FRAME_SENT (R116, R127) -/

theorem exec_orderFrameSent {g time : Nat} {s : State} (held : s.resetHeld = false) (later : s.now ≤ time) :
    exec (.orderFrameSent g time) s = .next (State.frameSent g { s with now := time }) := by
  rw [← timed_free held later (State.frameSent g)]
  rfl

theorem frameSent_quiet {g : Nat} {s : State} (quiet : (s.lane g).frame = none) : s.frameSent g = s := by
  simp [State.frameSent, quiet]

/-- R127: after the frame of a purged order the lane transmits its head. -/
theorem frameSent_purged {g : Nat} {s : State} (inside : g < s.lanes.length) (line : (s.lane g).frame.isSome = true)
    (purged : (s.lane g).awaiting = false) :
    (s.frameSent g).bars = s.bars ∧ (s.frameSent g).lane g = s.laneWith (s.lane g).queue := by
  have freed : s.frameSent g =
      (s.setLane g { queue := (s.lane g).queue, awaiting := false, frame := none }).transmit g := by
    simp [State.frameSent, line, purged]
  rw [freed]
  exact ⟨State.transmit_bars _ _, setLane_transmit_lane inside _⟩

/-- R116, R119: after the frame of the sent head the take timer of its bar starts. -/
theorem frameSent_head {g : Nat} {e : LaneEntry} {rest : List LaneEntry} {c : Chain} {s : State}
    (line : (s.lane g).frame.isSome = true) (awaiting : (s.lane g).awaiting = true)
    (queue : (s.lane g).queue = e :: rest) (posted : (s.bar e.bar).handshake = .posted c) :
    s.frameSent g = (s.setLane g { s.lane g with frame := none }).setBar e.bar
      { s.bar e.bar with handshake := .posted { c with takeTimer := some s.now } } := by
  simp [State.frameSent, line, awaiting, queue, Bar.startTakeTimer, posted]

/-! ### TAKEN (R118, R120) -/

theorem exec_taken {g address time : Nat} {s : State} (held : s.resetHeld = false) (later : s.now ≤ time) :
    exec (.taken g address time) s = .next (State.driveReply g address .taken { s with now := time }) := by
  rw [← timed_free held later (State.driveReply g address .taken)]
  rfl

theorem replyTaken_onlyLane (b : Nat) (s : State) : OnlyLane (s.bar b).lane s (s.replyTaken b) := by
  have taken (x : Lane) (y : Bar) : OnlyLane (s.bar b).lane s ((s.setLane (s.bar b).lane x).setBar b y) :=
    (setLane_onlyLane _ x s).trans (setBar_onlyLane _ b y _)
  unfold State.replyTaken
  dsimp only
  split
  · split
    · split
      · exact (taken _ _).trans (transmit_onlyLane _ _)
      · exact (taken _ _).trans (enqueue_onlyLane _ (setBar_lane (by rfl) b))
    · exact .refl _ s
  · exact .refl _ s

theorem driveReply_taken_onlyLane (g address : Nat) (s : State) : OnlyLane g s (s.driveReply g address .taken) := by
  unfold State.driveReply
  split
  · exact .refl g s
  · cases found : s.barAt g address with
    | none => exact .refl g s
    | some b =>
      obtain ⟨-, -, rfl, -⟩ := barAt_some found
      exact replyTaken_onlyLane b s

/-- R118: a TAKEN that no POSTED bar awaits, or whose lane awaits none, changes nothing. -/
theorem replyTaken_unawaited {b : Nat} {s : State}
    (h : (∀ c, (s.bar b).handshake ≠ .posted c) ∨ (s.lane (s.bar b).lane).awaiting = false) : s.replyTaken b = s := by
  unfold State.replyTaken
  dsimp only
  split
  · next c e rest posted queue =>
    rcases h with unposted | free
    · exact absurd posted (unposted c)
    · simp [free]
  · rfl

/-- R118: the sent head is another bar's. -/
theorem replyTaken_other {b : Nat} {e : LaneEntry} {rest : List LaneEntry} {s : State}
    (queue : (s.lane (s.bar b).lane).queue = e :: rest) (other : e.bar ≠ b) : s.replyTaken b = s := by
  unfold State.replyTaken
  dsimp only
  split
  · next posted queue' =>
    rw [queue] at queue'
    cases queue'
    simp [other]
  · rfl

/-- What TAKEN leaves of a chain, before its move timer starts (R118). -/
def Chain.taken (c : Chain) (target : Nat) : Chain :=
  { c with takeTimer := none, lastTaken := some target, held := false }

/-- R120: the limit of the move that a TAKEN starts. -/
def State.takenLimit (s : State) (b : Nat) (c : Chain) : Nat :=
  moveLimit (s.driveClass (s.bar b).cls) s.constants.slack c.order c.origin c.lastTaken

/-- R120: the move time limit, of a HOME and of a MOVE. -/
theorem takenLimit_reads (s : State) (b : Nat) (c : Chain) :
    (c.order.kind = .home → s.takenLimit b c = 10000000) ∧
    (∀ o, c.order.kind = .move → c.origin = some o →
      s.takenLimit b c = moveTime (s.driveClass (s.bar b).cls)
        (match c.lastTaken with
          | none => distance c.order.target o
          | some x => max (distance c.order.target o) (distance c.order.target x)) + s.constants.slack) := by
  refine ⟨fun home => by simp [State.takenLimit, moveLimit, home], fun o move origin => ?_⟩
  simp only [State.takenLimit, moveLimit, move, origin]
  cases c.lastTaken <;> rfl

section
variable {b : Nat} {c : Chain} {e : LaneEntry} {rest : List LaneEntry} {s : State}

/-- R118: the order is taken, and the move timer starts. -/
theorem replyTaken_moves (posted : (s.bar b).handshake = .posted c)
    (awaiting : (s.lane (s.bar b).lane).awaiting = true) (quiet : (s.lane (s.bar b).lane).frame = none)
    (queue : (s.lane (s.bar b).lane).queue = e :: rest) (head : e.bar = b)
    (same : c.held = false ∨ (c.order.kind = e.kind ∧ c.order.target = e.target)) :
    s.replyTaken b = ((s.setLane (s.bar b).lane { queue := rest, awaiting := false, frame := none }).setBar b
      { s.bar b with handshake := .moving { c.taken e.target with
          moveTimer := some { start := s.now, limit := s.takenLimit b c } } }).transmit (s.bar b).lane := by
  simp only [State.replyTaken, posted, queue, awaiting, quiet, head, and_self, if_true, if_pos same]
  rfl

/-- R118: the order held behind the one taken is posted at the tail. -/
theorem replyTaken_posts (posted : (s.bar b).handshake = .posted c)
    (awaiting : (s.lane (s.bar b).lane).awaiting = true) (quiet : (s.lane (s.bar b).lane).frame = none)
    (queue : (s.lane (s.bar b).lane).queue = e :: rest) (head : e.bar = b) (held : c.held = true)
    (differs : ¬(c.order.kind = e.kind ∧ c.order.target = e.target)) :
    s.replyTaken b = ((s.setLane (s.bar b).lane { queue := rest, awaiting := false, frame := none }).setBar b
      { s.bar b with handshake := .posted (c.taken e.target) }).enqueue b c.order := by
  simp only [State.replyTaken, posted, queue, awaiting, quiet, head, and_self, if_true, held, differs]
  rfl

/-- R118, R120: what TAKEN leaves of the bar whose sent head is taken, and of its lane. -/
theorem replyTaken_takes (hb : b < s.bars.length) (inside : (s.bar b).lane < s.lanes.length)
    (posted : (s.bar b).handshake = .posted c) (awaiting : (s.lane (s.bar b).lane).awaiting = true)
    (quiet : (s.lane (s.bar b).lane).frame = none) (queue : (s.lane (s.bar b).lane).queue = e :: rest)
    (head : e.bar = b) :
    (∀ n, n ≠ b → (s.replyTaken b).bar n = s.bar n) ∧
    (c.held = true → ¬(c.order.kind = e.kind ∧ c.order.target = e.target) →
      (s.replyTaken b).bar b = { s.bar b with handshake := .posted (c.taken e.target) } ∧
      (s.replyTaken b).lane (s.bar b).lane =
        s.laneWith (rest ++ [{ bar := b, kind := c.order.kind, target := c.order.target }])) ∧
    (c.held = false ∨ (c.order.kind = e.kind ∧ c.order.target = e.target) →
      (s.replyTaken b).lane (s.bar b).lane = s.laneWith rest ∧
      (s.replyTaken b).bar b = { s.bar b with handshake := .moving { c.taken e.target with
        moveTimer := some { start := s.now, limit := s.takenLimit b c } } }) := by
  have emptied (x : Bar) :
      ((s.setLane (s.bar b).lane { queue := rest, awaiting := false, frame := none }).setBar b x).lane (s.bar b).lane =
        { queue := rest, awaiting := false, frame := none } := State.lane_setLane s _ inside
  have length (x : Bar) (y : Lane) : (s.bar b).lane < ((s.setLane (s.bar b).lane y).setBar b x).lanes.length := by
    simpa using inside
  have transmitted (h : Handshake) (y : Lane) (q : List LaneEntry) :
      ((s.setLane (s.bar b).lane y).setBar b { s.bar b with handshake := h }).laneWith q = s.laneWith q :=
    laneWith_congr (fun n => setBar_address (s := s.setLane (s.bar b).lane y) (by rfl) n) q
  refine ⟨fun n hn => ?_, fun held differs => ?_, fun same => ?_⟩
  · by_cases same : c.held = false ∨ (c.order.kind = e.kind ∧ c.order.target = e.target)
    · rw [replyTaken_moves posted awaiting quiet queue head same, State.transmit_bar, State.bar_setBar_ne _ _ hn.symm]
      rfl
    · rw [not_or] at same
      rw [replyTaken_posts posted awaiting quiet queue head (by simpa using same.1) same.2, State.enqueue_bar,
        State.bar_setBar_ne _ _ hn.symm]
      rfl
  · rw [replyTaken_posts posted awaiting quiet queue head held differs]
    refine ⟨by rw [State.enqueue_bar, State.bar_setBar _ _ (by simpa using hb)], ?_⟩
    rw [enqueue_laneWith _ (length _ _) (setBar_lane (by rfl) b) (emptied _), transmitted]
  · rw [replyTaken_moves posted awaiting quiet queue head same]
    refine ⟨?_, by rw [State.transmit_bar, State.bar_setBar _ _ (by simpa using hb)]⟩
    rw [transmit_laneWith (length _ _) (emptied _), transmitted]

end

/-- Settles O37: by what is on the line, and by the bar and lane that a TAKEN meets. -/
theorem ordersAreSentAndTaken : Obligations.OrdersAreSentAndTaken := by
  intro g time s held later inside
  refine ⟨⟨_, exec_orderFrameSent held later, (frameSent_onlyLane g _).eq, (frameSent_onlyLane g _).lanes,
    fun quiet => frameSent_quiet (s := { s with now := time }) quiet, fun f line purged => ?_,
    fun f e rest c line awaiting queue hb posted => ?_⟩, fun address => ⟨_, exec_taken held later,
    (driveReply_taken_onlyLane g address _).eq, (driveReply_taken_onlyLane g address _).lanes,
    fun nobody => driveReply_unmatched (s := { s with now := time }) (barAt_none nobody) _,
    State.driveReply_transmitting (s := { s with now := time }) address _, fun b hb48 hb unique => ?_⟩⟩
  · exact frameSent_purged (s := { s with now := time }) inside (Option.isSome_of_eq_some line) purged
  · rw [frameSent_head (s := { s with now := time }) (Option.isSome_of_eq_some line) awaiting queue posted]
    exact ⟨State.lane_setLane s _ inside, fun n hn => State.bar_setBar_ne s _ hn.symm, State.bar_setBar s _ hb⟩
  · have found : State.barAt { s with now := time } g address = some b := barAt_unique hb48 unique
    obtain ⟨-, -, seat, -⟩ := barAt_some found
    by_cases quiet : (s.lane g).frame = none
    · rw [(driveReply_from (s := { s with now := time }) quiet found).2.2]
      subst seat
      refine ⟨replyTaken_unawaited (s := { s with now := time }), fun c e rest posted awaiting queue =>
        ⟨replyTaken_other (s := { s with now := time }) queue, fun head _ => ?_⟩⟩
      obtain ⟨others, posts, moves⟩ := replyTaken_takes (s := { s with now := time }) hb inside posted awaiting quiet queue
        head
      obtain ⟨home, move⟩ := takenLimit_reads s b c
      refine ⟨others, posts, fun same => ?_⟩
      obtain ⟨lane, bar⟩ := moves same
      exact ⟨lane, s.takenLimit b c, bar, home, move⟩
    · rw [State.driveReply_transmitting (s := { s with now := time }) address _ (Option.isSome_iff_ne_none.mpr quiet)]
      exact ⟨fun _ => rfl, fun c e rest _ _ _ => ⟨fun _ => rfl, fun _ h => absurd h quiet⟩⟩

end Sys2Proof.Machine
end


section
/-! SET_CLASS and SET_BAR: their tests, and the bar configuration they leave. -/

namespace Sys2Proof.Machine

/-! ### The configuration that SET_BAR leaves (R110) -/

section
variable (lane address cls limit : Nat) (bar : Bar)

/-- R110: a disabled bar is OFF. -/
theorem configure_disabled : bar.configure false lane address cls limit =
    { bar with enabled := false, lane := lane, address := address, cls := cls, limit := limit, handshake := .off } := rfl

/-- R110: a bar enabled anew, or moved, is LOST. -/
theorem configure_lost (lost : bar.enabled = false ∨ bar.lane ≠ lane ∨ bar.address ≠ address) :
    bar.configure true lane address cls limit =
      { bar with
        enabled := true, lane := lane, address := address, cls := cls, limit := limit, handshake := .lost, known := none } := by
  have lost : (!bar.enabled || bar.lane != lane || bar.address != address) = true := by simpa [or_assoc] using lost
  simp [Bar.configure, lost]

/-- R110: an enabled bar that stays at its lane and address keeps its state and known position. -/
theorem configure_kept (kept : ¬(bar.enabled = false ∨ bar.lane ≠ lane ∨ bar.address ≠ address)) :
    bar.configure true lane address cls limit =
      { bar with enabled := true, lane := lane, address := address, cls := cls, limit := limit } := by
  have kept : (!bar.enabled || bar.lane != lane || bar.address != address) = false := by
    simpa [and_assoc] using kept
  simp [Bar.configure, kept]

end

/-! ### The tests in order (R108, R109) -/

theorem setClass_judges {s : State} (h : s.accepts .m) (c base perSpace : Nat) :
    Judges [(s.run.state != .halted, .state), (3 < c || 20000 < base || perSpace == 0 || 20000 < perSpace, .badValue)]
      (fun status => Refuses .m status s (s.command .m true (.setClass .m c base perSpace)
        (judged (setClassRefusal c base perSpace) (setClassEffect c base perSpace) fun _ => [])))
      (Accepts .m { s with classes := s.classes.set c { base := base, perSpace := perSpace } }
        (s.command .m true (.setClass .m c base perSpace)
          (judged (setClassRefusal c base perSpace) (setClassEffect c base perSpace) fun _ => []))) :=
  command_judges h (fun _ => rfl) rfl rfl rfl rfl

theorem setBar_judges {s : State} (h : s.accepts .m) (b enabled lane address cls limit : Nat) :
    Judges
      [(s.run.state != .halted, .state),
       (47 < b || 3 < lane || 15 < address || 3 < cls || limit == 0 || 127 < limit || 1 < enabled, .badValue),
       ((s.bar b).outstanding, .busy), (enabled == 1 && 16 ≤ (s.othersOn b lane).length, .badValue),
       (enabled == 1 && (s.othersOn b lane).any (fun n => (s.bar n).address == address), .duplicate)]
      (fun status => Refuses .m status s (s.command .m true (.setBar .m b enabled lane address cls limit)
        (judged (setBarRefusal b enabled lane address cls limit) (setBarEffect b enabled lane address cls limit)
          fun _ => [])))
      (Accepts .m (setBarEffect b enabled lane address cls limit s)
        (s.command .m true (.setBar .m b enabled lane address cls limit)
          (judged (setBarRefusal b enabled lane address cls limit) (setBarEffect b enabled lane address cls limit)
            fun _ => []))) :=
  command_judges h (fun _ => rfl) rfl rfl rfl rfl

/-- Settles O48: each command's tests in order, and the configuration by the enable bit and what it moves. -/
theorem classesAndBarsAreConfigured : Obligations.ClassesAndBarsAreConfigured := by
  intro s h
  refine ⟨fun c base perSpace => ⟨_, rfl, ?_⟩, fun b enabled lane address cls limit => ⟨_, rfl, ?_⟩⟩
  · exact judges_ite (by simp) (fun _ => judges_ite (by simp [or_assoc]) fun _ => id) (setClass_judges h c base perSpace)
  · refine judges_ite (by simp) (fun _ => judges_ite (by simp [or_assoc]) fun _ => judges_ite (by simp) fun _ =>
      judges_ite (by rw [Bool.and_eq_true, beq_iff_eq, decide_eq_true_iff]; rfl) fun _ =>
      judges_ite (by simp [State.othersOn, and_assoc]) fun _ accepted => ?_)
      (setBar_judges h b enabled lane address cls limit)
    unfold setBarEffect at accepted
    refine ⟨?_, ?_, ?_⟩
    · rintro rfl
      exact configure_disabled lane address cls limit (s.bar b) ▸ accepted
    · rintro rfl lost
      exact configure_lost lane address cls limit _ lost ▸ accepted
    · rintro rfl kept
      exact configure_kept lane address cls limit _ kept ▸ accepted

end Sys2Proof.Machine
end


section
/-! HOME and PLACE_BAR: what a posting leaves of the lanes, the HOME of every enabled bar, and what the two commands
answer. -/

namespace Sys2Proof.Machine

/-! ### What a posting leaves alone (R117, R129) -/

/-- R117: a posting changes no lane but its bar's. -/
theorem post_onlyLane (b : Nat) (o : Order) (s : State) : OnlyLane (s.bar b).lane s (s.post b o) := by
  have joined (x : Bar) (same : x.lane = (s.bar b).lane) : OnlyLane (s.bar b).lane s ((s.setBar b x).enqueue b o) :=
    (setBar_onlyLane _ b x s).trans (enqueue_onlyLane o (setBar_lane same b))
  have placed (x : Bar) (y : Lane) : OnlyLane (s.bar b).lane s ((s.setBar b x).setLane (s.bar b).lane y) :=
    (setBar_onlyLane _ b x s).trans (setLane_onlyLane _ y _)
  unfold State.post State.dryAnswer State.postWet State.setPosted
  dsimp only
  split
  · split
    · exact setBar_onlyLane _ b _ s
    · split
      · exact .refl _ s
      · exact joined _ rfl
      · exact joined _ rfl
      · split
        · exact setBar_onlyLane _ b _ s
        · split
          · exact placed _ _
          · exact placed _ _
      · exact joined _ rfl
  · exact .refl _ s

/-- Nothing has changed but the bars and the lanes. -/
def OnlyDrives (s t : State) : Prop := t = { s with bars := t.bars, lanes := t.lanes }

theorem OnlyDrives.trans {s t u : State} (h : OnlyDrives s t) (k : OnlyDrives t u) : OnlyDrives s u := by
  unfold OnlyDrives at h k ⊢
  exact k.trans (by rw [h])

theorem OnlyDrives.tracker {s t : State} (h : OnlyDrives s t) : t.tracker = s.tracker := by
  unfold OnlyDrives at h
  rw [h]

/-! ### A posting by the bar's state (R117) -/

section
variable {b : Nat} {o : Order} {s : State}

/-- R117: to a bar that is not POSTED an order is posted by an entry at the tail. -/
theorem post_joins (wet : s.tracker.source = .encoder) (takes : (s.bar b).takesOrder o = true)
    (unposted : ∀ c, (s.bar b).handshake ≠ .posted c) : ∃ c, s.post b o = (s.setPosted b o c).enqueue b o := by
  unfold State.post State.postWet
  simp only [takes, wet, if_true, reduceCtorEq, if_false]
  cases state : (s.bar b).handshake with
  | off => simp [Bar.takesOrder, state] at takes
  | idle | lost | moving => exact ⟨_, rfl⟩
  | posted c => exact absurd state (unposted c)

/-- R117: an order begins a chain at an IDLE bar. -/
theorem post_idle (wet : s.tracker.source = .encoder) (idle : (s.bar b).handshake = .idle) :
    s.post b o = (s.setPosted b o (.begin o (s.bar b).known)).enqueue b o := by
  simp [State.post, State.postWet, wet, idle, Bar.takesOrder]

/-- An entry joins the queue of the lane of a bar that is posted. -/
theorem setPosted_enqueue_queue (c : Chain) (inside : (s.bar b).lane < s.lanes.length) :
    (((s.setPosted b o c).enqueue b o).lane (s.bar b).lane).queue =
      (s.lane (s.bar b).lane).queue ++ [{ bar := b, kind := o.kind, target := o.target }] := by
  have seat : ((s.setPosted b o c).bar b).lane = (s.bar b).lane := setBar_lane (by rfl) b
  have queue := State.enqueue_queue o (s.setPosted b o c) (b := b) (by rw [seat]; exact inside)
  rw [seat] at queue
  exact queue

end

/-! ### The order of a HOME (R125) -/

/-- The order that HOME posts. -/
def homeOrder : Order := { kind := .home, target := 0, deadline := none }

theorem takesOrder_home {x : Bar} (on : x.handshake ≠ .off) : x.takesOrder homeOrder = true := by
  unfold Bar.takesOrder
  cases state : x.handshake with
  | off => exact absurd state on
  | lost | idle | posted | moving => rfl

/-- R125: a HOME behind a sent entry leaves the lane, and one behind an entry not sent replaces it in place. -/
theorem post_home_posted {b : Nat} {c : Chain} {s : State} (wet : s.tracker.source = .encoder)
    (posted : (s.bar b).handshake = .posted c) (inside : (s.bar b).lane < s.lanes.length) :
    ((s.lane (s.bar b).lane).sentIs b = true →
      (s.post b homeOrder).lane (s.bar b).lane = s.lane (s.bar b).lane) ∧
    ((s.lane (s.bar b).lane).sentIs b = false →
      (s.post b homeOrder).lane (s.bar b).lane = (s.lane (s.bar b).lane).replace b homeOrder) := by
  have takes := takesOrder_home (x := s.bar b) (by simp [posted])
  unfold State.post State.postWet
  simp only [takes, wet, posted, if_true, reduceCtorEq, if_false]
  constructor
  · intro sent
    rw [if_pos sent]
    rfl
  · intro unsent
    rw [if_neg (by simp [unsent]), if_neg (by simp [homeOrder])]
    exact State.lane_setLane _ _ inside

/-! ### The HOME of one bar and of all (R125) -/

theorem homeOne_enabled {n : Nat} {s : State} (enabled : (s.bar n).enabled = true) :
    s.homeOne n = s.post n homeOrder := if_pos enabled

theorem homeEffect_single {b : Nat} {s : State} (single : b ≠ 255) (enabled : (s.bar b).enabled = true) :
    homeEffect b s = s.post b homeOrder :=
  (if_neg single).trans (homeOne_enabled enabled)

theorem homeEffect_all (s : State) : homeEffect 255 s = (List.range 48).foldl State.homeOne s := if_pos rfl

/-- The HOMEs keep a relation that a posting keeps. -/
theorem homeEffect_rel {R : State → State → Prop} (refl : ∀ s, R s s) (trans : ∀ {s t u}, R s t → R t u → R s u)
    (post : ∀ n s, (s.bar n).enabled = true → R s (s.post n homeOrder)) (b : Nat) (s : State) :
    R s (homeEffect b s) := by
  have one (n : Nat) (u : State) : R u (u.homeOne n) := by
    by_cases enabled : (u.bar n).enabled = true
    · rw [homeOne_enabled enabled]
      exact post n u enabled
    · rw [State.homeOne, if_neg enabled]
      exact refl u
  unfold homeEffect
  split
  · exact foldl_rel refl trans _ (fun n _ u => one n u) s
  · exact one b s

theorem homeEffect_onlyDrives (b : Nat) (s : State) : OnlyDrives s (homeEffect b s) :=
  homeEffect_rel (R := OnlyDrives) (fun _ => rfl) .trans (fun n u _ => (post_onlyLane n homeOrder u).eq) b s

/-- R129: with the source SIMULATED a HOME touches no lane. -/
theorem homeEffect_lanes_dry {b : Nat} {s : State} (dry : s.tracker.source = .simulated) :
    (homeEffect b s).lanes = s.lanes := by
  refine (homeEffect_rel (R := fun u v => u.tracker.source = .simulated → v.tracker.source = .simulated ∧ v.lanes = u.lanes)
    (fun _ dry => ⟨dry, rfl⟩) (fun first second dry => ?_) (fun n u _ dry => ?_) b s dry).2
  · obtain ⟨dry, lanes⟩ := first dry
    exact ⟨(second dry).1, (second dry).2.trans lanes⟩
  · have same : OnlyDrives u (u.post n homeOrder) := (post_onlyLane n homeOrder u).eq
    exact ⟨by rw [same.tracker, dry], State.post_lanes_dry _ dry⟩

/-- R125: the HOME of every enabled bar leaves the disabled ones, and what is no bar. -/
theorem homeEffect_all_leaves {n : Nat} {s : State} (h : ¬((s.bar n).enabled = true ∧ n < 48)) :
    (homeEffect 255 s).bar n = s.bar n := by
  rw [homeEffect_all]
  refine foldl_rel (R := fun u v => ¬((u.bar n).enabled = true ∧ n < 48) → v.bar n = u.bar n) (fun _ _ => rfl)
    (fun first second h => ?_) _ (fun m hm u h => ?_) s h
  · have same := first h
    exact (second (same.symm ▸ h)).trans same
  · unfold State.homeOne
    split
    · next enabled => exact State.post_bar_ne _ u fun same => h ⟨same ▸ enabled, same ▸ List.mem_range.mp hm⟩
    · rfl

theorem homeOne_aside {n b : Nat} (s : State) (h : n ≠ b) : Aside n s (s.homeOne b) := by
  unfold State.homeOne
  split
  · exact post_aside _ s h
  · exact .refl n s

/-- The HOME of every enabled bar reaches each with the bars before it ordered, and the bars after it leave it. -/
theorem homeEffect_all_reaches {n : Nat} {s : State} (hn : n < 48) (enabled : (s.bar n).enabled = true) :
    ∃ m, Aside n s m ∧ Aside n (m.post n homeOrder) (homeEffect 255 s) := by
  obtain ⟨m, before, after⟩ := foldl_reaches (f := State.homeOne) (R := Aside n) (.refl n) (.trans) List.nodup_range
    (List.mem_range.mpr hn) (fun _ _ hb s => homeOne_aside s (Ne.symm hb)) s
  rw [homeOne_enabled (by rw [before.bar]; exact enabled), ← homeEffect_all] at after
  exact ⟨m, before, after⟩

/-- R125, R129: the order that HOME posts to a bar it names. -/
theorem homeEffect_orders {b n : Nat} {s : State} (hn : n < 48) (hb : n < s.bars.length) (named : n = b ∨ b = 255)
    (enabled : (s.bar n).enabled = true) (on : (s.bar n).handshake ≠ .off) :
    (s.tracker.source = .simulated → (homeEffect b s).bar n = { s.bar n with known := some 0, handshake := .idle }) ∧
    (s.tracker.source = .encoder → (s.bar n).lane < s.lanes.length →
      (b = 255 → ∀ c, (s.bar n).handshake = .posted c → (s.lane (s.bar n).lane).Transmits) →
      Ordered n homeOrder s (homeEffect b s)) := by
  by_cases all : b = 255
  · subst all
    obtain ⟨m, before, after⟩ := homeEffect_all_reaches hn enabled
    have hb : n < m.bars.length := by rwa [before.bars]
    have on : (m.bar n).handshake ≠ .off := by rwa [before.bar]
    have source : m.tracker.source = s.tracker.source := by rw [before.side.tracker]
    refine ⟨fun dry => ?_, fun wet inside transmits => ?_⟩
    · rw [after.bar, State.post_bar_dry _ hb (source.trans dry) (takesOrder_home on), before.bar]
      rfl
    · have inside : (m.bar n).lane < m.lanes.length := by rwa [before.bar, before.lanes]
      exact (State.post_ordered homeOrder m hb inside (source.trans wet) on fun _ => rfl).aside before after (transmits rfl)
  · obtain rfl := named.resolve_right all
    rw [homeEffect_single all enabled]
    exact ⟨fun dry => State.post_bar_dry _ hb dry (takesOrder_home on),
      fun wet inside _ => State.post_ordered homeOrder s hb inside wet on fun _ => rfl⟩

/-- R125: what the HOME of one bar leaves of its lane. -/
theorem homeEffect_lane {b : Nat} {s : State} (single : b ≠ 255) (enabled : (s.bar b).enabled = true)
    (wet : s.tracker.source = .encoder) (inside : (s.bar b).lane < s.lanes.length) (on : (s.bar b).handshake ≠ .off) :
    (∀ i, i ≠ (s.bar b).lane → (homeEffect b s).lane i = s.lane i) ∧
    (∀ c, (s.bar b).handshake = .posted c →
      ((s.lane (s.bar b).lane).sentIs b = true → (homeEffect b s).lane (s.bar b).lane = s.lane (s.bar b).lane) ∧
      ((s.lane (s.bar b).lane).sentIs b = false →
        (homeEffect b s).lane (s.bar b).lane = (s.lane (s.bar b).lane).replace b homeOrder)) ∧
    ((∀ c, (s.bar b).handshake ≠ .posted c) → ((homeEffect b s).lane (s.bar b).lane).queue =
      (s.lane (s.bar b).lane).queue ++ [{ bar := b, kind := .home, target := 0 }]) := by
  rw [homeEffect_single single enabled]
  refine ⟨(post_onlyLane b homeOrder s).lanes, fun c posted => post_home_posted wet posted inside, fun unposted => ?_⟩
  obtain ⟨c, joins⟩ := post_joins wet (takesOrder_home on) unposted
  rw [joins]
  exact setPosted_enqueue_queue c inside

/-! ### The answers (R125, R126) -/

/-- Port M's accepted command that changes bars and lanes alone. -/
theorem answers_drives {v : State} {f : List Byte} {s : State} (h : OnlyDrives (s.receive .m f) v) :
    v = State.setPort .m ((s.receive .m f).port .m) { s with bars := v.bars, lanes := v.lanes } := by
  unfold OnlyDrives at h
  exact h

theorem home_judges {s : State} (h : s.accepts .m) (b : Nat) :
    Judges
      [(s.run.state != .halted && s.run.state != .faulted, .state), (47 < b && b != 255, .badValue),
       (b != 255 && !(s.bar b).enabled, .state)]
      (fun status => Refuses .m status s
        (s.command .m true (.home .m b) (judged (homeRefusal b) (homeEffect b) fun _ => [])))
      (Accepts .m
        { s with
          bars := (homeEffect b (s.receive .m (commandFrame (.home .m b)))).bars
          lanes := (homeEffect b (s.receive .m (commandFrame (.home .m b)))).lanes }
        (s.command .m true (.home .m b) (judged (homeRefusal b) (homeEffect b) fun _ => []))) :=
  command_judges h (fun _ => rfl) rfl (answers_drives (homeEffect_onlyDrives b _)) rfl rfl

/-- What an accepted command has left of the bars and lanes. -/
theorem Accepts.drives {s t : State} {bars : List Bar} {lanes : List Lane}
    (h : Accepts .m { s with bars := bars, lanes := lanes } t) : t.bars = bars ∧ t.lanes = lanes := by
  have eq := h.1
  exact ⟨by rw [eq]; rfl, by rw [eq]; rfl⟩

/-- A test and what follows it, read from a value that is one of two. -/
theorem ite_of_eq {α : Type} {c A P : Prop} [Decidable c] {x y rest : α} (h : x = if c then y else rest)
    (yes : x = y → A) (no : ¬c → x = rest → P) : if c then A else P := by
  by_cases hc : c
  · rw [if_pos hc] at h ⊢
    exact yes h
  · rw [if_neg hc] at h ⊢
    exact no hc h

/-- R126's tests in order. -/
theorem placeBarRefusal_eq (b x : Nat) (s : State) : placeBarRefusal b x s =
    if s.run.state ≠ .halted then some (refuse .state)
    else if 47 < b ∨ (s.bar b).limit < x then some (refuse .badValue)
    else if (s.bar b).enabled = false then some (refuse .state)
    else if (s.bar b).handshake = .lost then some { status := .notHomed, data := field1 b }
    else if (s.bar b).outstanding = true then some (refuse .busy)
    else none := by
  unfold placeBarRefusal
  by_cases state : s.run.state = .halted
  · by_cases value : 47 < b ∨ (s.bar b).limit < x
    · simp [firstReply, firstRefusal, state, value]
    · cases enabled : (s.bar b).enabled with
      | false => simp [firstReply, firstRefusal, state, value]
      | true =>
        by_cases lost : (s.bar b).handshake = .lost
        · simp [firstReply, firstRefusal, naming, state, value, lost]
        · cases outstanding : (s.bar b).outstanding <;>
            simp [firstReply, firstRefusal, naming, state, value, lost]
  · simp [firstReply, firstRefusal, state]

/-- R126: an accepted PLACE_BAR of a bar that stands elsewhere posts a MOVE. -/
theorem placeBarEffect_posts {b x : Nat} {s : State} (idle : (s.bar b).handshake = .idle)
    (elsewhere : (s.bar b).known ≠ some x) :
    placeBarEffect b x s = s.post b { kind := .move, target := x, deadline := none } :=
  if_neg (by simpa [Bar.standing, idle] using elsewhere)

theorem placeBarEffect_stands {b x : Nat} {s : State} (idle : (s.bar b).handshake = .idle)
    (stands : (s.bar b).known = some x) : placeBarEffect b x s = s :=
  if_pos (by simpa [Bar.standing, idle] using stands)

/-- R126, R129: with the source SIMULATED the bar is IDLE at the target at once. -/
theorem placeBarEffect_dry {b x : Nat} {s : State} (idle : (s.bar b).handshake = .idle)
    (elsewhere : (s.bar b).known ≠ some x) (dry : s.tracker.source = .simulated) :
    placeBarEffect b x s = s.setBar b { s.bar b with known := some x, handshake := .idle } := by
  rw [placeBarEffect_posts idle elsewhere, State.post, if_pos (Bar.takesOrder_of_active (.inl idle)), if_pos dry]
  rfl

/-- R117, R126: the MOVE begins a chain at the bar, and an entry joins its lane's queue. -/
theorem placeBarEffect_wet {b x : Nat} {s : State} (idle : (s.bar b).handshake = .idle)
    (elsewhere : (s.bar b).known ≠ some x) (wet : s.tracker.source = .encoder) :
    OnlyDrives s (placeBarEffect b x s) ∧ (∀ n, n ≠ b → (placeBarEffect b x s).bar n = s.bar n) ∧
    (b < s.bars.length → (placeBarEffect b x s).bar b = { s.bar b with
      handshake := .posted (.begin { kind := .move, target := x, deadline := none } (s.bar b).known) }) ∧
    ((s.bar b).lane < s.lanes.length → ((placeBarEffect b x s).lane (s.bar b).lane).queue =
      (s.lane (s.bar b).lane).queue ++ [{ bar := b, kind := .move, target := x }]) := by
  rw [placeBarEffect_posts idle elsewhere]
  refine ⟨(post_onlyLane b _ s).eq, fun n hn => State.post_bar_ne _ s hn, fun hb => ?_, fun inside => ?_⟩
  · rw [post_idle wet idle, State.enqueue_bar, State.setPosted, State.bar_setBar s _ hb]
    rfl
  · rw [post_idle wet idle]
    exact setPosted_enqueue_queue _ inside

/-- Settles O50: each command's tests in order; a HOME by the source and the bar's state, a MOVE by the source. -/
theorem barsAreHomedAndPlaced : Obligations.BarsAreHomedAndPlaced := by
  intro b s h
  refine ⟨⟨_, rfl, ?_⟩, fun x => ⟨_, rfl, ?_⟩⟩
  · refine judges_ite (by simp) (fun _ => judges_ite (by simp) fun range => judges_ite (by simp) fun enabled accepted => ?_)
      (home_judges h b)
    generalize s.command .m true (.home .m b) (judged (homeRefusal b) (homeEffect b) fun _ => []) = t at accepted ⊢
    generalize received : s.receive .m (commandFrame (.home .m b)) = r at accepted
    obtain ⟨bars, lanes⟩ := accepted.drives
    have bar (n : Nat) : t.bar n = (homeEffect b r).bar n := bar_of_bars bars n
    have lane (g : Nat) : t.lane g = (homeEffect b r).lane g := by simp only [State.lane, lanes]
    have bar₀ (n : Nat) : s.bar n = r.bar n := by rw [← received]; rfl
    have lane₀ (g : Nat) : s.lane g = r.lane g := by rw [← received]; rfl
    have lanes₀ : s.lanes = r.lanes := by rw [← received]; rfl
    have bars₀ : s.bars = r.bars := by rw [← received]; rfl
    have source : s.tracker.source = r.tracker.source := by rw [← received]; rfl
    refine ⟨by rw [bars, lanes]; exact accepted, fun n hn hb named on => ?_,
      fun g single wet seat inside on => ?_, fun dry => ?_, fun n unnamed => ?_⟩
    · have enabled : (s.bar n).enabled = true := by
        rcases named with rfl | ⟨-, enabled⟩
        · simpa [show n ≠ 255 by omega] using enabled
        · exact enabled
      rw [bar₀] at enabled on
      obtain ⟨dry, wet⟩ := homeEffect_orders (b := b) hn (bars₀ ▸ hb) (named.imp_right And.left) enabled on
      rw [bar, bar₀, lane₀, lanes₀, source]
      exact ⟨dry, fun encoder inside sent =>
        ((wet encoder inside sent).congr_before (bar₀ n) lane₀).congr_after (bar n) lane⟩
    · subst seat
      have enabled : (s.bar b).enabled = true := by simpa [single] using enabled
      simp only [bar₀, lane₀, lanes₀, source, lane] at enabled wet inside on ⊢
      exact homeEffect_lane single enabled wet inside on
    · rw [lanes, lanes₀]
      exact homeEffect_lanes_dry (source ▸ dry)
    · rw [bar, bar₀]
      by_cases all : b = 255
      · subst all
        exact homeEffect_all_leaves fun ⟨enabled, hn⟩ => unnamed (.inr ⟨rfl, by rw [bar₀]; exact enabled, hn⟩)
      · rw [homeEffect_single all (by simpa [all, bar₀] using enabled)]
        exact State.post_bar_ne _ r fun same => unnamed (.inl same)
  · have refuses {status : Status} {bytes : List Byte} (refusal : placeBarRefusal b x
        (s.receive .m (commandFrame (.placeBar .m b x))) = some { status := status, data := bytes }) :=
      command_answers_refusal (onlyM := true) (effect := placeBarEffect b x) (data := fun _ => ([] : List Byte)) h
        (fun _ => rfl) refusal
    refine ite_of_eq (placeBarRefusal_eq b x (s.receive .m _)) refuses fun _ r => ite_of_eq r refuses fun _ r =>
      ite_of_eq r refuses fun _ r => ite_of_eq r refuses fun _ r => ite_of_eq r refuses fun _ accepted idle =>
      ⟨fun stands => ?_, fun elsewhere dry => ?_, fun elsewhere wet => ?_⟩
    · exact command_answers_ok h (fun _ => rfl) accepted (placeBarEffect_stands idle stands) rfl rfl
    · exact command_answers_ok h (fun _ => rfl) accepted (placeBarEffect_dry idle elsewhere dry) rfl rfl
    · obtain ⟨only, others, bar, queue⟩ := placeBarEffect_wet
        (s := s.receive .m (commandFrame (.placeBar .m b x))) idle elsewhere wet
      have accepts : Accepts .m _ _ := command_answers_ok (onlyM := true) (data := fun _ => []) h (fun _ => rfl) accepted
        (answers_drives only) rfl rfl
      obtain ⟨bars, lanes⟩ := accepts.drives
      refine ⟨by rw [bars, lanes]; exact accepts, fun n hn => (bar_of_bars bars n).trans (others n hn),
        fun hb => (bar_of_bars bars b).trans (bar hb), fun inside => ?_⟩
      rw [State.lane, lanes]
      exact queue inside

end Sys2Proof.Machine
end

section
/-! What each shared operation does to the stop-request output and to the STOP_REQUEST flags (R143): it leaves both alone, or
it sets the flags of both ports exactly where it asserts the output. -/

namespace Sys2Proof.Machine

/-! ### The output and the flags -/

/-- The STOP_REQUEST flag of a port. -/
def State.stopFlag (s : State) (p : Port) : Bool := Event.stopRequest.isIn (s.port p).events

/-- The output is read from run control alone. -/
theorem stopRequested_of_run {s t : State} (run : t.run = s.run) : t.stopRequested = s.stopRequested := by
  rw [State.stopRequested, run, State.stopRequested]

/-- While the part is not FAULTED the output is read from the stop causes alone. -/
theorem stopRequested_of_causes {s t : State} (before : s.run.state ≠ .faulted) (after : t.run.state ≠ .faulted)
    (causes : t.run.causes = s.run.causes) : t.stopRequested = s.stopRequested := by
  rw [State.stopRequested, State.stopRequested, causes, beq_false_of_ne before, beq_false_of_ne after]

/-- Another event leaves the STOP_REQUEST flag. -/
theorem Event.stopRequest_isIn_raise {e : Event} (h : e ≠ .stopRequest) (x : PortState) :
    Event.stopRequest.isIn (x.raise e).events = Event.stopRequest.isIn x.events := by
  have other : Event.stopRequest.isIn e.flag = false := by
    cases e with
    | stopRequest => exact absurd rfl h
    | _ => rfl
  unfold Event.isIn at other ⊢
  simp [other]

/-! ### Steps that leave the output and the flags -/

/-- From `s` to `t` the output and the flags stand as they were. -/
structure StopStill (s t : State) : Prop where
  output : t.stopRequested = s.stopRequested
  flag : ∀ p, t.stopFlag p = s.stopFlag p

theorem StopStill.refl (s : State) : StopStill s s := ⟨rfl, fun _ => rfl⟩

theorem StopStill.trans {s t u : State} (h : StopStill s t) (k : StopStill t u) : StopStill s u :=
  ⟨k.output.trans h.output, fun p => (k.flag p).trans (h.flag p)⟩

/-- Run control and the ports stand. -/
theorem StopStill.of_same {s t : State} (run : t.run = s.run := by rfl) (ports : ∀ p, t.port p = s.port p := by intro; rfl) :
    StopStill s t := ⟨stopRequested_of_run run, fun p => by rw [State.stopFlag, ports, State.stopFlag]⟩

theorem StopStill.ite (c : Prop) [Decidable c] {s t : State} (h : StopStill s t) : StopStill s (if c then t else s) := by
  split
  · exact h
  · exact .refl s

theorem setPort_stopStill (p : Port) (x : PortState) (s : State)
    (h : Event.stopRequest.isIn x.events = s.stopFlag p := by rfl) : StopStill s (s.setPort p x) := by
  refine ⟨stopRequested_of_run (State.setPort_run p x s), fun q => ?_⟩
  rcases port_cases p q with rfl | rfl
  · rw [State.stopFlag, State.setPort_port, h]
  · rw [State.stopFlag, State.setPort_port_other, State.stopFlag]

theorem receive_stopStill (p : Port) (f : List Byte) (s : State) : StopStill s (s.receive p f) := setPort_stopStill p _ s

theorem setSlot_stopStill (p : Port) (x : Slot) (s : State) : StopStill s (s.setSlot p x) := setPort_stopStill p _ s

theorem raise_stopStill {e : Event} (h : e ≠ .stopRequest) (s : State) : StopStill s (s.raise e) := by
  refine ⟨stopRequested_of_run rfl, fun p => ?_⟩
  rw [State.stopFlag, State.raise_port, Event.stopRequest_isIn_raise h, State.stopFlag]

theorem raiseIf_stopStill {e : Event} (h : e ≠ .stopRequest) (c : Bool) (s : State) : StopStill s (s.raiseIf c e) :=
  .ite _ (raise_stopStill h s)

/-- R104: CEILING_DROP leaves the output and its flags. -/
theorem watchCeiling_stopStill (f : State → State) (s : State) : StopStill (f s) (s.watchCeiling f) :=
  raiseIf_stopStill (by decide) _ _

theorem purge_stopStill (s : State) : StopStill s s.purge := by
  have purged : StopStill s { s with lanes := s.lanes.map Lane.purge, bars := s.bars.map Bar.purge } := .of_same
  exact purged.trans (raiseIf_stopStill (by decide) _ _)

/-! ### Steps that watch the output -/

/-- From `s` to `t` the output is not released, and the flags of both ports are set exactly where it is asserted. -/
structure StopWatched (s t : State) : Prop where
  held : s.stopRequested = true → t.stopRequested = true
  flag : ∀ p, t.stopFlag p = (s.stopFlag p || (!s.stopRequested && t.stopRequested))

theorem StopStill.watched {s t : State} (h : StopStill s t) : StopWatched s t :=
  ⟨fun hs => h.output.trans hs, fun p => by rw [h.flag, h.output]; simp⟩

theorem StopWatched.refl (s : State) : StopWatched s s := (StopStill.refl s).watched

/-- Once asserted the output stays so, and a second step sets no flag. -/
theorem StopWatched.trans {s t u : State} (h : StopWatched s t) (k : StopWatched t u) : StopWatched s u := by
  refine ⟨k.held ∘ h.held, fun p => ?_⟩
  rw [k.flag, h.flag]
  cases between : t.stopRequested with
  | true => simp [k.held between]
  | false =>
    have before : s.stopRequested = false := by simpa [between] using mt h.held
    simp [before]

theorem StopWatched.ite (c : Prop) [Decidable c] {s t : State} (h : StopWatched s t) :
    StopWatched s (if c then t else s) := by
  split
  · exact h
  · exact .refl s

/-- R143: what a watched change of run control does, when it does not release the output. -/
theorem watchStop_stopWatched {f : State → State} {s : State} (ports : ∀ p, (f s).port p = s.port p)
    (held : s.stopRequested = true → (f s).stopRequested = true) : StopWatched s (s.watchStop f) := by
  have output : (s.watchStop f).stopRequested = (f s).stopRequested := stopRequested_of_run (State.watchStop_run f s)
  have same (p : Port) : (f s).stopFlag p = s.stopFlag p := by rw [State.stopFlag, ports, State.stopFlag]
  refine ⟨fun hs => output.trans (held hs), fun p => ?_⟩
  rw [output]
  unfold State.watchStop
  cases (!s.stopRequested && (f s).stopRequested) with
  | false => rw [Bool.or_false]; exact same p
  | true => rw [Bool.or_true]; exact bothShow_raise .stopRequest _ p

/-- R142: a stop cause asserts the output. -/
theorem setCause_stopWatched (c : StopCause) (s : State) : StopWatched s (s.setCause c) :=
  watchStop_stopWatched (fun _ => rfl) fun _ => by
    cases c <;> simp [State.stopRequested, StopCauses.add, StopCauses.any]

/-- R136: the entry to FAULTED asserts the output. -/
theorem enterFaulted_stopWatched (k : FaultKind) (b c : Option Nat) (s : State) : StopWatched s (s.enterFaulted k b c) :=
  ((watchStop_stopWatched (fun _ => rfl) fun _ => rfl).trans (purge_stopStill _).watched).trans
    (raise_stopStill (by decide) _).watched

theorem hardFault_stopWatched (k : FaultKind) (b c : Option Nat) (s : State) : StopWatched s (s.hardFault k b c) := by
  unfold State.hardFault
  split
  · exact enterFaulted_stopWatched k b c s
  · exact enterFaulted_stopWatched k b c s
  · exact .ite _ (enterFaulted_stopWatched k b c s)
  · exact StopStill.watched ⟨rfl, fun _ => rfl⟩
  · exact .refl s

theorem barFault_stopWatched (k : FaultKind) (b : Nat) (s : State) : StopWatched s (s.barFault k b) :=
  (raise_stopStill (by decide) s).watched.trans (hardFault_stopWatched k _ _ _)

/-! ### Orders and placement (R117, R133, R134) -/

theorem post_stopStill (b : Nat) (o : Order) (s : State) : StopStill s (s.post b o) :=
  .of_same (State.post_run b o s) (State.post_port b o s)

theorem orderTo_stopStill (b x : Nat) (d : Option Deadline) (s : State) : StopStill s (s.orderTo b x d) := by
  unfold State.orderTo
  split
  · exact .refl s
  · exact post_stopStill b _ s

theorem homeEffect_stopStill (b : Nat) (s : State) : StopStill s (homeEffect b s) := by
  have one (s : State) (b : Nat) : StopStill s (s.homeOne b) := .ite _ (post_stopStill b _ s)
  unfold homeEffect
  split
  · exact foldl_rel .refl .trans _ (fun b _ s => one s b) s
  · exact one s b

/-- PLACING and RUNNING alike leave the output to the stop causes. -/
theorem completePlacement_stopStill (s : State) : StopStill s s.completePlacement := by
  unfold State.completePlacement
  split
  · next complete =>
    have placing : s.run.state = .placing := by
      obtain ⟨placing, -⟩ := (Bool.and_eq_true _ _).mp complete
      simpa using placing
    have runs : StopStill s { s with run := { s.run with state := .running, placement := none } } :=
      ⟨stopRequested_of_causes (by simp [placing]) (by simp) rfl, fun _ => rfl⟩
    exact runs.trans (raise_stopStill (by decide) _)
  · exact .refl s

theorem placeOne_stopStill (ts : List (Option Nat)) (b : Nat) (s : State) : StopStill s (s.placeOne ts b) := by
  unfold State.placeOne
  split
  · exact .ite _ (orderTo_stopStill b _ none s)
  · exact .refl s

theorem tryPlacement_stopStill (s : State) : StopStill s s.tryPlacement := by
  by_cases asks : ∃ zones, Asks zones s
  · obtain ⟨zones, asks⟩ := asks
    rw [tryPlacement_asks asks]
    have fixed (r : Option Placement) : StopStill s { s with run := { s.run with placement := r } } :=
      ⟨rfl, fun _ => rfl⟩
    exact .ite _ (((fixed _).trans (foldl_rel .refl .trans _ (fun b _ u => placeOne_stopStill _ b u) _)).trans
      (completePlacement_stopStill _))
  · have stands : s.tryPlacement = s := by
      unfold State.tryPlacement
      split
      · next state placement => exact absurd ⟨_, state, placement⟩ asks
      · rfl
    rw [stands]
    exact .refl s

/-! ### Deadlines and zones (R113, R114) -/

theorem deadlineCrossing_stopWatched (d : Deadline) (s : State) : StopWatched s (s.deadlineCrossing d) := by
  have passed (bars : List Bar) : StopStill s { s with bars := bars } := .of_same
  exact .ite _ (((passed _).watched.trans (setCause_stopWatched .late _)).trans (raise_stopStill (by decide) _).watched)

theorem deadlinesFrom_stopWatched (a a' : Nat) (s : State) : StopWatched s (s.deadlinesFrom a a') :=
  (StopWatched.ite _ (deadlineCrossing_stopWatched _ s)).trans (.ite _ (deadlineCrossing_stopWatched _ _))

theorem orderAtCrossing_stopStill (g : Nat) (x : Crossing) (s : State) (b : Nat) :
    StopStill s (s.orderAtCrossing g x b) := by
  unfold State.orderAtCrossing
  split
  · exact .refl s
  · exact .ite _ ((raiseIf_stopStill (by decide) _ s).trans (post_stopStill b _ _))

theorem zoneCrossing_stopWatched (g : Nat) (x : Crossing) (s : State) : StopWatched s (s.zoneCrossing g x) := by
  unfold State.zoneCrossing
  split
  · split
    · exact (foldl_rel (R := StopStill) .refl .trans _ (fun b _ u => orderAtCrossing_stopStill g x u b) s).watched
    · exact .ite _ (hardFault_stopWatched _ _ _ s)
  · exact .refl s

theorem zonesForward_stopWatched (a a' : Nat) (s : State) (g : Nat) : StopWatched s (s.zonesForward a a' g) :=
  (StopWatched.ite _ (zoneCrossing_stopWatched g _ s)).trans (.ite _ (zoneCrossing_stopWatched g _ _))

theorem zonesReverse_stopWatched (a a' : Nat) (s : State) (g : Nat) : StopWatched s (s.zonesReverse a a' g) :=
  (StopWatched.ite _ (zoneCrossing_stopWatched g _ s)).trans (.ite _ (zoneCrossing_stopWatched g _ _))

/-! ### Boundaries (R93 to R102) -/

theorem queue_stopStill (q : CourseQueue) (s : State) : StopStill s { s with queue := q } := .of_same

theorem overrunForward_stopWatched (s : State) : StopWatched s s.overrunForward :=
  ((queue_stopStill _ s).watched.trans (setCause_stopWatched .overrun _)).trans (raise_stopStill (by decide) _).watched

theorem headLeaves_stopWatched (r : Record) (rest : List Record) (s : State) : StopWatched s (s.headLeaves r rest) := by
  unfold State.headLeaves
  split
  · exact (queue_stopStill _ s).watched.trans (setCause_stopWatched .mark _)
  · exact (queue_stopStill _ s).watched

/-- RUNNING and ENDED alike leave the output to the stop causes. -/
theorem endArticle_stopStill (s : State) : StopStill s s.endArticle := by
  unfold State.endArticle
  split
  · next running =>
    have ends (q : CourseQueue) : StopStill s { s with run := { s.run with state := .ended }, queue := q } :=
      ⟨stopRequested_of_causes (by simp [running]) (by simp) rfl, fun _ => rfl⟩
    exact (ends _).trans (raise_stopStill (by decide) _)
  · exact .refl s

theorem advanceQueue_stopWatched (s : State) : StopWatched s s.advanceQueue := by
  unfold State.advanceQueue
  split
  · split
    · exact overrunForward_stopWatched s
    · exact hardFault_stopWatched _ _ _ s
  · split
    · exact (headLeaves_stopWatched _ _ s).trans (endArticle_stopStill _).watched
    · exact (headLeaves_stopWatched _ _ s).trans (hardFault_stopWatched _ _ _ _)
  · exact headLeaves_stopWatched _ _ s

theorem queueForward_stopWatched (s : State) : StopWatched s s.queueForward := by
  unfold State.queueForward
  split
  · exact .refl s
  · exact overrunForward_stopWatched s
  · split
    · exact (queue_stopStill _ s).watched
    · exact advanceQueue_stopWatched s

theorem discardTail_stopStill (s : State) : StopStill s s.discardTail := by
  unfold State.discardTail
  split
  · exact .refl s
  · exact .of_same

theorem abandonBuild_stopStill (s : State) : StopStill s s.abandonBuild := .of_same

theorem restore_stopStill (s : State) : StopStill s s.restore := by
  unfold State.restore
  split
  · exact .refl s
  · dsimp only
    split
    · exact ((queue_stopStill _ s).trans (discardTail_stopStill _)).trans (abandonBuild_stopStill _)
    · split
      · exact (queue_stopStill _ s).trans (abandonBuild_stopStill _)
      · exact queue_stopStill _ s

theorem retreat_stopWatched (s : State) : StopWatched s s.retreat := by
  have counted := ((queue_stopStill { s.queue with backlog := min 255 (s.queue.backlog + 1) } s).watched.trans
    (setCause_stopWatched .backoff _)).trans (raise_stopStill (e := .backoff) (by decide) _).watched
  unfold State.retreat
  dsimp only
  split
  · exact counted.trans (hardFault_stopWatched _ _ _ _)
  · exact counted

/-- ENDED and RUNNING alike leave the output to the stop causes. -/
theorem overrunBackward_stopStill (s : State) : StopStill s s.overrunBackward := by
  unfold State.overrunBackward
  split
  · exact queue_stopStill _ s
  · split
    · exact .refl s
    · split
      · next ended =>
        exact ⟨stopRequested_of_causes (by simp [ended]) (by simp) rfl, (restore_stopStill s).flag⟩
      · exact restore_stopStill s

theorem queueBackward_stopWatched (s : State) : StopWatched s s.queueBackward := by
  unfold State.queueBackward
  split
  · exact .refl s
  · exact (overrunBackward_stopStill s).watched
  · split
    · exact (overrunBackward_stopStill s).watched
    · split
      · exact retreat_stopWatched s
      · exact (restore_stopStill s).watched

theorem tracker_stopStill (k : Tracker) (s : State) : StopStill s { s with tracker := k } := .of_same

theorem forwardBoundary_stopWatched (t : Nat) (s : State) : StopWatched s (s.forwardBoundary t) :=
  ((tracker_stopStill _ s).watched.trans (queueForward_stopWatched _)).trans (watchCeiling_stopStill _ _).watched

theorem backwardBoundary_stopWatched (s : State) : StopWatched s s.backwardBoundary :=
  (queueBackward_stopWatched s).trans (watchCeiling_stopStill _ s).watched

/-! ### Counts and the index (R1, R3, R12) -/

theorem crossForward_stopWatched (c t : Nat) (s : State) : StopWatched s (s.crossForward c t) := by
  have crossed (a a' : Nat) : StopWatched s ((List.range 4).foldl (State.zonesForward a a') (s.deadlinesFrom a a')) :=
    (deadlinesFrom_stopWatched a a' s).trans
      (foldl_rel .refl .trans _ (fun g _ u => zonesForward_stopWatched a a' u g) _)
  exact (crossed _ _).trans (.ite _ (forwardBoundary_stopWatched t _))

theorem crossReverse_stopWatched (c : Nat) (s : State) : StopWatched s (s.crossReverse c) :=
  (StopWatched.ite _ (backwardBoundary_stopWatched s)).trans
    (foldl_rel .refl .trans _ (fun g _ u => zonesReverse_stopWatched _ _ u g) _)

theorem takeCount_stopWatched (dir : Direction) (t : Nat) (s : State) : StopWatched s (s.takeCount dir t) := by
  have reported (k : Tracker) : StopWatched s (State.reportCount { s with tracker := k }) :=
    (tracker_stopStill k s).watched.trans (.ite _ (hardFault_stopWatched _ _ _ _))
  unfold State.takeCount
  dsimp only
  split
  · cases dir with
    | forward => exact (reported _).trans (crossForward_stopWatched _ t _)
    | reverse => exact (reported _).trans (crossReverse_stopWatched _ _)
  · exact reported _

theorem takeIndex_stopWatched (s : State) : StopWatched s s.takeIndex := by
  have slipped (k : Tracker) : StopWatched s (State.raise .slip { s with tracker := k }) :=
    ((tracker_stopStill k s).trans (raise_stopStill (by decide) _)).watched
  unfold State.takeIndex
  split
  · split
    · exact .refl s
    · exact (slipped _).trans (.ite _ (hardFault_stopWatched _ _ _ _))
  · exact (tracker_stopStill _ s).watched

theorem simulate_stopWatched (t : Nat) (s : State) : StopWatched s (s.simulate t) := by
  have counted := (tracker_stopStill s.tracker.giveCount s).watched.trans (takeCount_stopWatched .forward t _)
  unfold State.simulate
  dsimp only
  split
  · exact counted.trans (takeIndex_stopWatched _)
  · exact counted

/-! ### Lane events (R116, R118 to R122) -/

theorem setBar_stopStill (b : Nat) (x : Bar) (s : State) : StopStill s (s.setBar b x) := .of_same

theorem setLane_stopStill (g : Nat) (x : Lane) (s : State) : StopStill s (s.setLane g x) := .of_same

theorem transmit_stopStill (g : Nat) (s : State) : StopStill s (s.transmit g) := by
  unfold State.transmit
  dsimp only
  split
  · exact .refl s
  · split
    · exact .refl s
    · exact setLane_stopStill g _ s

theorem enqueue_stopStill (b : Nat) (o : Order) (s : State) : StopStill s (s.enqueue b o) :=
  (setLane_stopStill _ _ s).trans (transmit_stopStill _ _)

theorem replyTaken_stopStill (b : Nat) (s : State) : StopStill s (s.replyTaken b) := by
  unfold State.replyTaken
  dsimp only
  split
  · split
    · split
      · exact ((setLane_stopStill _ _ s).trans (setBar_stopStill b _ _)).trans (transmit_stopStill _ _)
      · exact ((setLane_stopStill _ _ s).trans (setBar_stopStill b _ _)).trans (enqueue_stopStill _ _ _)
    · exact .refl s
  · exact .refl s

theorem replyInPosition_stopWatched (b x : Nat) (s : State) : StopWatched s (s.replyInPosition b x) := by
  unfold State.replyInPosition
  split
  · split
    · exact ((setBar_stopStill b _ s).trans (completePlacement_stopStill _)).watched
    · exact (setBar_stopStill b _ s).watched.trans (barFault_stopWatched _ b _)
  · exact .refl s

theorem loseFromLane_stopStill (b : Nat) (s : State) : StopStill s (s.loseFromLane b) :=
  ((setBar_stopStill b _ s).trans (setLane_stopStill _ _ _)).trans (transmit_stopStill _ _)

theorem replyFault_stopWatched (b code : Nat) (s : State) : StopWatched s (s.replyFault b code) :=
  .ite _ (((setBar_stopStill b _ s).trans (loseFromLane_stopStill b _)).watched.trans (barFault_stopWatched _ b _))

theorem driveReply_stopWatched (g address : Nat) (r : DriveReply) (s : State) :
    StopWatched s (s.driveReply g address r) := by
  unfold State.driveReply
  split
  · exact .refl s
  · split
    · exact (replyTaken_stopStill _ s).watched
    · exact replyInPosition_stopWatched _ _ s
    · exact replyFault_stopWatched _ _ s
    · exact .refl s

theorem frameSent_stopStill (g : Nat) (s : State) : StopStill s (s.frameSent g) := by
  unfold State.frameSent
  dsimp only
  split
  · split
    · exact (setLane_stopStill g _ s).trans (setBar_stopStill _ _ _)
    · exact (setLane_stopStill g _ s).trans (transmit_stopStill g _)
  · exact .refl s

theorem takeLimitReached_stopWatched (b : Nat) (s : State) : StopWatched s (s.takeLimitReached b) := by
  unfold State.takeLimitReached
  split
  · split
    · exact .ite _ ((loseFromLane_stopStill b s).watched.trans (barFault_stopWatched _ b _))
    · exact .refl s
  · exact .refl s

theorem moveLimitReached_stopWatched (b : Nat) (s : State) : StopWatched s (s.moveLimitReached b) := by
  unfold State.moveLimitReached
  split
  · split
    · exact .ite _ ((setBar_stopStill b _ s).watched.trans (barFault_stopWatched _ b _))
    · exact .refl s
  · exact .refl s

/-! ### The builder (R49, R64, R69, R71, R83) -/

theorem startSegment_stopStill (g : Nat) (s : State) : StopStill s (s.startSegment g) := by
  unfold State.startSegment
  split
  · split
    · have switched (e : MapEntry) (x : Engine) : StopStill s { s.setSegment g e with engine := x } := .of_same
      exact (switched _ _).trans (raise_stopStill (by decide) _)
    · exact raise_stopStill (by decide) s
  · exact .refl s

theorem beginCourse_stopStill (s : State) : StopStill s s.beginCourse := by
  have started : StopStill s (if s.builder.position.course = 0 then s.startSegment s.buildSegment else s) :=
    .ite _ (startSegment_stopStill _ s)
  unfold State.beginCourse
  dsimp only
  split
  · exact .refl s
  · exact started.trans .of_same

theorem beginBuild_stopStill (s : State) : StopStill s s.beginBuild := by
  have closed : StopStill s s.closeIteration := .of_same
  unfold State.beginBuild
  split
  · exact .refl s
  · split
    · split
      · exact closed
      · exact closed.trans (beginCourse_stopStill _)
    · exact beginCourse_stopStill s

theorem endFetch_stopStill (s : State) : StopStill s s.endFetch := by
  unfold State.endFetch
  split <;> exact .of_same

theorem appendBuild_stopStill (b : Build) (s : State) : StopStill s (s.appendBuild b) := by
  have appended : StopStill s (s.appended b) := .of_same
  have announced : StopStill s (s.announced b) :=
    (appended.trans (raiseIf_stopStill (by decide) _ _)).trans (raiseIf_stopStill (by decide) _ _)
  exact announced.trans (tryPlacement_stopStill _)

/-! ### The engine and the grants (R22, R147 to R153) -/

theorem endOp_stopStill (owner : Option Port) (r : OpResult) (s : State) : StopStill s (s.endOp owner r) := by
  have finished : StopStill s { s with engine := s.engine.finish r } := .of_same
  cases owner with
  | none => exact finished
  | some p => exact finished.trans (setPort_stopStill p _ _ (Event.stopRequest_isIn_raise (by decide) _))

theorem settleCheck_stopStill (g : Nat) (ok : Bool) (s : State) : StopStill s (s.settleCheck g ok) := by
  unfold State.settleCheck
  split
  · exact .of_same
  · exact .refl s

theorem settleChunk_stopStill (op : Operation) (s : State) : StopStill s (s.settleChunk op) := by
  have engine (e : Engine) (u : State) : StopStill u { u with engine := e } := .of_same
  unfold State.settleChunk
  split
  · exact engine _ s
  · split
    · exact endOp_stopStill _ _ s
    · split
      · split
        · exact engine _ s
        · exact ((settleCheck_stopStill _ _ s).trans (engine _ _)).trans (endOp_stopStill _ _ _)
        · exact endOp_stopStill _ _ s
        · exact endOp_stopStill _ _ s
      · exact .refl s

theorem runChunk_stopStill (op : Operation) (s : State) : StopStill s (s.runChunk op) := by
  have done : StopStill s (s.chunkDone op) := .of_same
  rw [runChunk_settles, askChunk_eq]
  exact (done.trans (settleChunk_stopStill _ _)).trans .of_same

theorem launch_stopStill (e : Engine) (s : State) : StopStill s (s.launch e) := by
  rw [launch_eq]
  exact .of_same

theorem overwrite_stopStill (target : Extent) (kind : OpKind) (p : Port) (total : Nat) (extents : List Extent)
    (s : State) : StopStill s (s.overwrite target kind p total extents) :=
  (StopStill.of_same : StopStill s (s.unverify target)).trans (launch_stopStill _ _)

theorem opCheckEffect_stopStill (p : Port) (g w : Nat) (s : State) : StopStill s (opCheckEffect p g w s) := by
  unfold opCheckEffect
  split
  · exact .refl s
  · exact launch_stopStill _ s

theorem opSuspendEffect_stopStill (s : State) : StopStill s (opSuspendEffect s) := .ite _ .of_same

theorem opResumeEffect_stopStill (s : State) : StopStill s (opResumeEffect s) := .ite _ (launch_stopStill _ s)

theorem opAbortEffect_stopStill (s : State) : StopStill s (opAbortEffect s) := by
  have withdrawn : StopStill s s.withdrawChunk := .of_same
  unfold opAbortEffect
  split
  · exact .refl s
  · split
    · exact .of_same
    · exact withdrawn.trans (endOp_stopStill _ _ _)

theorem endAccess_stopStill (p : Port) (r : Reply) (s : State) : StopStill s (s.endAccess p r) :=
  (setSlot_stopStill p (.ready r) s).trans .of_same

theorem writeInGrant_stopStill (p : Port) (a : Nat) (cells : List Cell) (s : State) :
    StopStill s (s.writeInGrant p a cells).1 := by
  unfold State.writeInGrant
  split <;> exact .of_same

/-! ### The commands' effects -/

theorem waitForGrant_stopStill (p : Port) (refusal : State → Option Reply) (x : Access) (s : State) :
    StopStill s (waitForGrant p refusal x s).1 := by
  unfold waitForGrant
  split <;> exact .of_same

theorem mapEffect_stopStill (g : Nat) (m : Mapping) (s : State) : StopStill s (mapEffect g m s) := by
  unfold mapEffect
  split <;> exact .of_same

theorem mapCancelEffect_stopStill (g : Nat) (s : State) : StopStill s (mapCancelEffect g s) := by
  unfold mapCancelEffect
  split <;> exact .of_same

theorem setConstantsEffect_stopStill (k : MachineConstants) (s : State) : StopStill s (setConstantsEffect k s) := by
  rw [setConstantsEffect_eq]
  exact .of_same

theorem loseEnabled_stopStill (s : State) : StopStill s s.loseEnabled := by
  have lost (bars : List Bar) : StopStill s { s.purge with bars := bars } := (purge_stopStill s).trans .of_same
  exact (lost _).trans (raiseIf_stopStill (by decide) _ _)

theorem setSourceEffect_stopStill (x : Nat) (s : State) : StopStill s (setSourceEffect x s) := by
  unfold setSourceEffect
  split
  · exact .refl s
  · split
    · exact .refl s
    · exact (tracker_stopStill _ s).trans (loseEnabled_stopStill _)

theorem simGateEffect_stopStill (x : Nat) (s : State) : StopStill s (simGateEffect x s) := by
  unfold simGateEffect
  split
  · exact .refl s
  · exact tracker_stopStill _ s

theorem continueEffect_stopStill (s : State) : StopStill s (continueEffect s) := by
  rw [continueEffect_eq]
  exact queue_stopStill _ s

end Sys2Proof.Machine
end


section
/-! O59: every step sets the STOP_REQUEST flags exactly where it takes the stop-request output from released to asserted
(R143). -/

namespace Sys2Proof.Machine

/-! ### The flags over a whole command -/

/-- From `s` to `t` STOP_REQUEST shows in both ports if the output has been asserted, and its flag has been set only if so. A
command may release the output or clear the flags, so that two of these do not make one. -/
structure StopReported (s t : State) : Prop where
  asserted : s.stopRequested = false → t.stopRequested = true → BothShow .stopRequest t
  only : ∀ p, s.stopFlag p = false → t.stopFlag p = true → s.stopRequested = false ∧ t.stopRequested = true

theorem StopWatched.reported {s t : State} (h : StopWatched s t) : StopReported s t := by
  refine ⟨fun released asserted p => ?_, fun p clear set => ?_⟩
  · exact (h.flag p).trans (by simp [released, asserted])
  · simpa [clear, set] using h.flag p

theorem StopStill.reported {s t : State} (h : StopStill s t) : StopReported s t := h.watched.reported

/-- A command that does not assert the output, and sets no flag. -/
theorem StopReported.of_released {s t : State} (output : t.stopRequested = true → s.stopRequested = true)
    (flag : ∀ p, t.stopFlag p = true → s.stopFlag p = true) : StopReported s t := by
  refine ⟨fun released asserted => ?_, fun p clear set => ?_⟩
  · exact absurd (output asserted) (by simp [released])
  · exact absurd (flag p set) (by simp [clear])

theorem StopStill.then {s t u : State} (h : StopStill s t) (k : StopReported t u) : StopReported s u :=
  ⟨fun released => k.asserted (h.output.trans released),
    fun p clear set => h.output ▸ k.only p ((h.flag p).trans clear) set⟩

theorem StopReported.still {s t u : State} (h : StopReported s t) (k : StopStill t u) : StopReported s u :=
  ⟨fun released asserted p => (k.flag p).trans (h.asserted released (k.output.symm.trans asserted) p),
    fun p clear set => k.output ▸ h.only p clear ((k.flag p).symm.trans set)⟩

/-! ### How a command is taken -/

/-- R157: the end of a transaction leaves the flags. -/
theorem deselect_stopFlag (p : Port) (bits : Nat) (s : State) :
    Event.stopRequest.isIn ((s.port p).deselect bits).events = s.stopFlag p := by
  unfold PortState.deselect
  split
  · rfl
  · dsimp only
    split <;> rfl

theorem take_stopReported {body : Body} (h : ∀ u, StopReported u (body u).1) (p : Port) (f : List Byte)
    (first : Option Status) (s : State) : StopReported s (s.take p f first body) := by
  have received := receive_stopStill p f s
  rcases take_cases p f first body s with ⟨-, e⟩ | ⟨-, -, e⟩ | ⟨-, -, _, -, e⟩ | ⟨-, -, -, e⟩ <;> rw [e]
  · exact (StopStill.refl s).reported
  · exact StopStill.reported (received.trans (setPort_stopStill p _ _))
  · exact (received.trans (setSlot_stopStill p _ _)).reported
  · exact received.then ((h _).still (setSlot_stopStill p _ _))

theorem command_stopReported {refusal : State → Option Reply} {effect : State → State} {data : State → List Byte}
    (h : ∀ u, StopReported u (effect u)) (p : Port) (onlyM : Bool) (i : Instr) (s : State) :
    StopReported s (s.command p onlyM i (judged refusal effect data)) := by
  refine take_stopReported (fun u => ?_) p _ _ s
  rcases judged_cases refusal effect data u with ⟨r, -, e⟩ | ⟨-, e⟩ <;> rw [e]
  · exact (StopStill.refl u).reported
  · exact h u

theorem command_stopStill {refusal : State → Option Reply} {effect : State → State} {data : State → List Byte}
    (h : ∀ u, StopStill u (effect u)) (p : Port) (onlyM : Bool) (i : Instr) (s : State) :
    StopReported s (s.command p onlyM i (judged refusal effect data)) :=
  command_stopReported (fun u => (h u).reported) p onlyM i s

theorem elapse_stopStill (t : Nat) (s : State) : StopStill s (s.elapse t) := .of_same

theorem timedCommand_stopStill {refusal : State → Option Reply} {effect : State → State} {data : State → List Byte}
    (h : ∀ u, StopStill u (effect u)) (p : Port) (onlyM : Bool) (i : Instr) (t : Nat) (s : State) :
    StopReported s ((s.elapse t).command p onlyM i (judged refusal effect data)) :=
  (elapse_stopStill t s).then (command_stopStill h p onlyM i _)

theorem unlessHeld_stopWatched {f : State → State} (h : ∀ u, StopWatched u (f u)) (s : State) :
    StopReported s (s.unlessHeld f) := by
  unfold State.unlessHeld
  split
  · exact (StopStill.refl s).reported
  · exact (h s).reported

theorem timed_stopWatched {f : State → State} (h : ∀ u, StopWatched u (f u)) (t : Nat) (s : State) :
    StopReported s ((s.elapse t).unlessHeld f) := (elapse_stopStill t s).then (unlessHeld_stopWatched h _)

/-! ### The commands that release the output or clear the flags -/

/-- R162: EVENTS_CLEAR sets no flag. -/
theorem eventsClearEffect_stopReported (p : Port) (mask : EventSet) (s : State) :
    StopReported s (eventsClearEffect p mask s) := by
  refine .of_released (stopRequested_of_run (State.setPort_run p _ s) ▸ id) fun q set => ?_
  unfold State.stopFlag eventsClearEffect at *
  rcases port_cases p q with rfl | rfl
  · simp_all [Event.isIn]
  · simpa using set

/-- R131, R138: a placement is begun without a hard fault, and leaves the stop causes. -/
theorem placing_stopReported {s t : State} (state : t.run.state = .placing) (causes : t.run.causes = s.run.causes)
    (ports : ∀ p, t.port p = s.port p) : StopReported s t.tryPlacement := by
  have begun : StopReported s t := by
    refine .of_released (fun asserted => ?_) fun p set => by rwa [State.stopFlag, ports] at set
    simp_all [State.stopRequested]
  exact begun.still (tryPlacement_stopStill t)

/-- Run control at its reset values holds the output released. -/
theorem StopReported.of_cleared {s t : State} (run : t.run = RunControl.initial)
    (flag : ∀ p, t.stopFlag p = true → s.stopFlag p = true) : StopReported s t :=
  .of_released (fun asserted => by rw [State.stopRequested, run] at asserted; cases asserted) flag

/-- R145, R163: run control at its reset values, and no flag set. -/
theorem StopReported.of_reset {s t : State} (run : t.run = RunControl.initial)
    (events : ∀ p, (t.port p).events = 0#16) : StopReported s t :=
  .of_cleared run fun p set => by simp [State.stopFlag, events, Event.isIn] at set

/-- R139: the return to HALTED. -/
theorem clearRun_stopReported (s : State) : StopReported s s.clearRun := .of_cleared rfl fun _ => id

/-- R142: CLEAR_STOP leaves FAULTED as it stands. -/
theorem clearStopEffect_stopReported (s : State) : StopReported s (clearStopEffect s) :=
  .of_released (fun asserted => by simp_all [State.stopRequested, clearStopEffect, StopCauses.any, StopCauses.empty])
    fun _ => id

/-! ### Every command and event -/

theorem exec_stopReported {c : Instr} {s t : State} (h : exec c s = .next t) : StopReported s t := by
  have next {u : State} (e : exec c s = .next u) (k : StopReported s u) : StopReported s t :=
    Host.Outcome.next.inj (e.symm.trans h) ▸ k
  have stands : StopReported s s := (StopStill.refl s).reported
  cases c with
  | powerUp => exact next rfl (.of_reset rfl fun p => by cases p <;> rfl)
  | resetInput => exact next rfl (.of_reset rfl fun p => by cases p <;> rfl)
  | encoderCount e time =>
    refine next rfl (timed_stopWatched (fun u => .ite _ ?_) time s)
    cases e with
    | forward | reverse => exact takeCount_stopWatched _ _ u
    | together => exact .refl u
  | encoderIndex => exact next rfl (unlessHeld_stopWatched (fun u => .ite _ (takeIndex_stopWatched u)) s)
  | simulatedCount time =>
    refine next rfl (timed_stopWatched (fun u => ?_) time s)
    split
    · exact .ite _ (simulate_stopWatched _ u)
    · exact .refl u
  | stillTimerExpiry time =>
    refine next rfl (timed_stopWatched (fun u => ?_) time s)
    split
    · exact .ite _ (tracker_stopStill _ u).watched
    · exact .refl u
  | buildBegin =>
    exact next rfl (unlessHeld_stopWatched
      (fun u => .ite _ ((beginBuild_stopStill u).trans (watchCeiling_stopStill _ u)).watched) s)
  | builderFetch =>
    rcases builderFetch_cases h with rfl | rfl
    · exact stands
    · exact (endFetch_stopStill s).reported
  | append =>
    refine next rfl (unlessHeld_stopWatched (fun u => ?_) s)
    split
    · exact ((appendBuild_stopStill _ u).trans (watchCeiling_stopStill _ u)).watched
    · exact .refl u
  | orderFrameSent lane time => exact next rfl (timed_stopWatched (fun u => (frameSent_stopStill lane u).watched) time s)
  | taken lane address time => exact next rfl (timed_stopWatched (driveReply_stopWatched lane address _) time s)
  | inPosition lane address position =>
    refine next rfl ?_
    split
    · exact unlessHeld_stopWatched (driveReply_stopWatched lane address _) s
    · exact stands
  | fault lane address code =>
    refine next rfl ?_
    split
    · exact stands
    · exact unlessHeld_stopWatched (driveReply_stopWatched lane address _) s
  | replyFrameIgnored lane frame time =>
    refine next rfl ?_
    split
    · exact stands
    · exact timed_stopWatched (driveReply_stopWatched lane _ _) time s
  | takeLimitExpiry bar time => exact next rfl (timed_stopWatched (takeLimitReached_stopWatched bar) time s)
  | moveLimitExpiry bar time => exact next rfl (timed_stopWatched (moveLimitReached_stopWatched bar) time s)
  | chunk =>
    rcases chunk_cases h with rfl | ⟨op, -, -, -, rfl⟩
    · exact stands
    · exact (runChunk_stopStill op s).reported
  | readCellsGrant port =>
    rcases readCellsGrant_cases h with rfl | ⟨r, rfl⟩
    · exact stands
    · exact (endAccess_stopStill port r s).reported
  | writeCellsGrant port =>
    rcases writeCellsGrant_cases h with rfl | ⟨a, cells, r, -, rfl⟩
    · exact stands
    · exact ((writeInGrant_stopStill port a cells s).trans (endAccess_stopStill port r _)).reported
  | transactionBegin port =>
    refine next rfl ?_
    split
    · exact StopStill.reported (setPort_stopStill port _ s)
    · exact StopStill.reported (.ite _ (setPort_stopStill port _ s))
  | transactionEnd port bits => exact next rfl (setPort_stopStill port _ s (deselect_stopFlag port bits s)).reported
  | replyRead port => exact next rfl (StopStill.reported (.ite _ (setPort_stopStill port _ s)))
  | unknownCommand port code => exact next rfl (take_stopReported (fun u => (StopStill.refl u).reported) port _ _ s)
  | status port =>
    exact next rfl (take_stopReported (body := judged (fun _ => none) id (statusData port))
      (fun u => (StopStill.refl u).reported) port _ _ s)
  | eventsClear port mask => exact next rfl (command_stopReported (eventsClearEffect_stopReported port mask) port _ _ s)
  | eventsEnable port mask => exact next rfl (command_stopStill (fun u => setPort_stopStill port _ u) port _ _ s)
  | shaftLatch port => exact next rfl (command_stopStill (fun u => tracker_stopStill _ u) port _ _ s)
  | setConstants port k time => exact next rfl (timedCommand_stopStill (setConstantsEffect_stopStill k) port _ _ time s)
  | setSource port x time => exact next rfl (timedCommand_stopStill (setSourceEffect_stopStill x) port _ _ time s)
  | simSpeed port x time => exact next rfl (timedCommand_stopStill (fun u => tracker_stopStill _ u) port _ _ time s)
  | simGate port x time => exact next rfl (timedCommand_stopStill (simGateEffect_stopStill x) port _ _ time s)
  | readCells port | writeCells port =>
    exact next rfl (take_stopReported (fun u => (waitForGrant_stopStill port _ _ u).reported) port _ _ s)
  | map port g => exact next rfl (command_stopStill (mapEffect_stopStill g _) port _ _ s)
  | mapCancel port g => exact next rfl (command_stopStill (mapCancelEffect_stopStill g) port _ _ s)
  | home port bar => exact next rfl (command_stopStill (homeEffect_stopStill bar) port _ _ s)
  | placeBar port bar x => exact next rfl (command_stopStill (orderTo_stopStill bar x none) port _ _ s)
  | arm port e r c =>
    exact next rfl (command_stopReported
      (fun u => placing_stopReported (t := u.arming _) rfl rfl fun _ => rfl) port _ _ s)
  | resume port =>
    exact next rfl (command_stopReported
      (fun u => placing_stopReported (t := u.resuming) rfl rfl fun _ => rfl) port _ _ s)
  | disarm port => exact next rfl (command_stopReported clearRun_stopReported port _ _ s)
  | restart port =>
    exact next rfl (command_stopReported (fun u => (purge_stopStill u).then (clearRun_stopReported _)) port _ _ s)
  | clearStop port => exact next rfl (command_stopReported clearStopEffect_stopReported port _ _ s)
  | continueRun port => exact next rfl (command_stopStill continueEffect_stopStill port _ _ s)
  | opFill port | opCopy port => exact next rfl (command_stopStill (fun u => overwrite_stopStill _ _ _ _ _ u) port _ _ s)
  | opCheck port g w => exact next rfl (command_stopStill (opCheckEffect_stopStill port g w) port _ _ s)
  | opSuspend port => exact next rfl (command_stopStill opSuspendEffect_stopStill port _ _ s)
  | opResume port => exact next rfl (command_stopStill opResumeEffect_stopStill port _ _ s)
  | opAbort port => exact next rfl (command_stopStill opAbortEffect_stopStill port _ _ s)
  | resetRelease => exact next rfl (StopStill.reported .of_same)
  | eventsRead port | shaftRead port | getConstants port | regionGet port | mapGet port | seqGet port | getBar port
  | queueRead port | opStatus port => exact next rfl (command_stopStill .refl port _ _ s)
  | regionSet port | regionClear port | lock port | unlock port | lockDown port | mapClear port | seqWrite port
  | seqForm port | seqRepeat port | setClass port | setBar port =>
    refine next rfl (command_stopStill (fun u => ?_) port _ _ s)
    exact .of_same

/-- Settles O59: a tick moves neither the output nor the flags, and every command and event reports what it does to the
output. -/
theorem stopRequestIsRaisedOnAssertion : Obligations.StopRequestIsRaisedOnAssertion := by
  intro s t h
  have reported : StopReported s t := by
    rcases step_cases h with rfl | ⟨c, rest, -, h⟩
    · exact StopStill.reported .of_same
    · have popped : StopStill s { s with pending := rest } := .of_same
      exact popped.then (exec_stopReported h)
  exact ⟨reported.asserted, reported.only⟩

end Sys2Proof.Machine
end

section
/-! OP_SUSPEND, OP_RESUME and OP_ABORT: the owner's tests, and what each leaves of the engine and its chunk request. -/

namespace Sys2Proof.Machine

/-! ### The owner's tests (R152, R153) -/

/-- R146: who owns the operation in the record. -/
theorem Engine.owner_iff (e : Engine) (p : Port) :
    e.owner = some p ↔ ∃ op, e.op = some op ∧ op.owner = some p := by
  unfold Engine.owner
  cases e.op <;> simp

/-- NOT_OWNER in the words of R152 and R153. -/
theorem notOwner_iff (e : Engine) (p : Port) :
    (e.owner != some p) = true ↔ ¬∃ op, e.op = some op ∧ op.owner = some p := by
  rw [bne_iff_ne, ne_eq, Engine.owner_iff]

/-! ### OP_SUSPEND and OP_RESUME (R152) -/

/-- R152: a suspended operation's waiting chunk request is withdrawn; the chunk in its grant stands. -/
theorem opSuspendEffect_active {s : State} (h : s.engine.state = .active) : opSuspendEffect s =
    { s with engine := { s.engine with state := .suspended }, arbiter := { s.arbiter with chunkWaiting := false } } :=
  if_pos h

theorem opSuspendEffect_suspended {s : State} (h : s.engine.state = .suspended) : opSuspendEffect s = s :=
  if_neg (by simp [h])

theorem opSuspendEffect_setPort (p : Port) (x : PortState) (s : State) :
    opSuspendEffect (s.setPort p x) = (opSuspendEffect s).setPort p x := by
  unfold opSuspendEffect
  rw [State.setPort_engine]
  split
  · cases p <;> rfl
  · rfl

/-- R152: a resumed operation asks for its next chunk as a new one asks for its first. -/
theorem opResumeEffect_suspended {s : State} (h : s.engine.state = .suspended) :
    opResumeEffect s = s.launch { s.engine with state := .active } := if_pos h

theorem opResumeEffect_active {s : State} (h : s.engine.state = .active) : opResumeEffect s = s := if_neg (by simp [h])

theorem opResumeEffect_setPort (p : Port) (x : PortState) (s : State) :
    opResumeEffect (s.setPort p x) = (opResumeEffect s).setPort p x := by
  unfold opResumeEffect
  rw [State.setPort_engine]
  split
  · exact launch_setPort _ p x s
  · rfl

/-! ### OP_ABORT (R153) -/

theorem opAbortEffect_requested {s : State} (h : s.engine.abortRequested = true) : opAbortEffect s = s := if_pos h

/-- R153: the abort waits for the chunk in its grant. -/
theorem opAbortEffect_waits {s : State} (abort : s.engine.abortRequested = false)
    (grant : s.arbiter.grant = some .engine) :
    opAbortEffect s = { s with engine := { s.engine with abortRequested := true } } := by
  simp [opAbortEffect, abort, grant]

/-- The part after port `p`'s operation has ended in an abort (R153): OP_DONE is raised in `p` alone, and no chunk
waits. -/
def State.aborted (p : Port) (s : State) : State :=
  { s.setPort p ((s.port p).raise .opDone) with
    engine := s.engine.finish .aborted, arbiter := { s.arbiter with chunkWaiting := false } }

/-- R153: with no chunk in its grant the operation ends at once. -/
theorem opAbortEffect_ends {p : Port} {s : State} (abort : s.engine.abortRequested = false)
    (grant : s.arbiter.grant ≠ some .engine) (owner : s.engine.owner = some p) : opAbortEffect s = s.aborted p := by
  have ends : opAbortEffect s = s.withdrawChunk.endOp s.engine.owner .aborted := by simp [opAbortEffect, abort, grant]
  rw [ends, owner]
  cases p <;> rfl

/-- What an accepted command that ends an operation in an abort leaves. -/
theorem aborted_accepted {p : Port} {s t : State} (h : Accepts p (s.aborted p) t) :
    Accepts p { s.setPort p ((s.port p).raise .opDone) with
      engine := t.engine, arbiter := { s.arbiter with chunkWaiting := false } } t ∧
      t.engine.state = .idle ∧ t.engine.result = .aborted ∧ t.engine.op = s.engine.op ∧ t.busyExtents = [] ∧
      t.engine.computed = s.engine.computed ∧ t.engine.abortRequested = false := by
  obtain ⟨only, -⟩ := id h
  have engine : t.engine = s.engine.finish .aborted := by
    rw [only, State.setPort_engine]
    rfl
  have idle : t.engine.state = .idle := by rw [engine, Engine.finish]
  refine ⟨?_, idle, ?_, ?_, if_pos idle, ?_, ?_⟩
  · rw [engine]
    exact h
  all_goals rw [engine, Engine.finish]

/-! ### A command that raises an event in its own port -/

/-- A state that differs from `u` in its port alone, which has taken a frame, answers from `u`. -/
theorem answers_setSlot {p : Port} {status : Status} {data : List Byte} {u v : State}
    (only : v = u.setPort p (v.port p)) (discard : (v.port p).discard = false)
    (events : (v.port p).events = (u.port p).events) (mask : (v.port p).mask = (u.port p).mask) :
    Answers p status data u (v.setSlot p (.ready { status := status, data := data })) := by
  refine ⟨?_, by simp, by simpa using discard, by simpa using events, by simpa using mask, fun a => ?_⟩
  · rw [only]
    simp [State.setSlot]
  · rw [only]
    simp

/-- The tests of a command without data, and the state that the command leaves when none of them refuses. -/
theorem command_judges_taken {p : Port} {i : Instr} {refusal : State → Option Reply} {effect : State → State}
    {tests : List (Bool × Status)} {s : State} (h : s.accepts p)
    (hr : refusal (s.receive p (commandFrame i)) = firstRefusal tests) :
    Judges tests (fun status => Refuses p status s (s.command p false i (judged refusal effect fun _ => [])))
      (s.command p false i (judged refusal effect fun _ => []) =
        (effect (s.receive p (commandFrame i))).setSlot p (.ready (refuse .ok))) :=
  judges_of_firstRefusal (fun _ e => command_answers_refusal h (by simp) (hr.trans e))
    fun e => command_ok h (by simp) (hr.trans e)

/-- An abort that ends the operation at once answers on the port whose frame has asked for it. -/
theorem opAbortEffect_answers {p : Port} {f : List Byte} {s : State} (abort : s.engine.abortRequested = false)
    (grant : s.arbiter.grant ≠ some .engine) (owner : s.engine.owner = some p) :
    Accepts p (s.aborted p) ((opAbortEffect (s.receive p f)).setSlot p (.ready (refuse .ok))) := by
  rw [opAbortEffect_ends (by simpa using abort) (by simpa using grant) (by simpa using owner)]
  refine answers_setSlot ?_ ?_ ?_ ?_ <;> cases p <;> rfl

/-- Settles O46: the owner's tests, and the engine and the chunk request by the state that the command finds. -/
theorem operationsAreSuspendedResumedAndAborted : Obligations.OperationsAreSuspendedResumedAndAborted := by
  intro p s h
  refine ⟨⟨_, rfl, ?_⟩, ⟨_, rfl, ?_⟩, ⟨_, rfl, ?_⟩⟩
  · refine judges_ite (by simp) (fun awake => judges_ite (notOwner_iff _ p) fun _ =>
        judges_ite .rfl fun _ accepted => ?_)
      (command_judges_blind h (refusal := opSuspendRefusal p) (effect := opSuspendEffect)
        (fun x => show opSuspendRefusal p (s.setPort p x) = opSuspendRefusal p s by cases p <;> rfl)
        fun x => opSuspendEffect_setPort p x s)
    cases state : s.engine.state with
    | idle => exact absurd state awake
    | active =>
      rw [opSuspendEffect_active state] at accepted
      exact accepted
    | suspended =>
      rw [opSuspendEffect_suspended state] at accepted
      exact accepted
  · refine judges_ite (by simp) (fun awake => judges_ite (notOwner_iff _ p) fun _ =>
        judges_ite .rfl fun unasked accepted => ?_)
      (command_judges_blind h (refusal := opResumeRefusal p) (effect := opResumeEffect)
        (fun x => show opResumeRefusal p (s.setPort p x) = opResumeRefusal p s by cases p <;> rfl)
        fun x => opResumeEffect_setPort p x s)
    cases state : s.engine.state with
    | idle => exact absurd state awake
    | active =>
      rw [opResumeEffect_active state] at accepted
      exact accepted
    | suspended =>
      rw [Judges, opResumeEffect_suspended state] at accepted
      obtain ⟨engine, -, arbiter, only⟩ := launch_accepted accepted
      rw [engine] at only
      refine ⟨only, fun op hop more => ?_⟩
      rw [arbiter]
      exact launch_asked s rfl (by simpa using unasked) hop more
  · refine judges_ite (by simp) (fun _ => judges_ite (notOwner_iff _ p) fun owned taken => ?_)
      (command_judges_taken h (refusal := opAbortRefusal p) (effect := opAbortEffect)
        (show opAbortRefusal p (s.receive p _) = opAbortRefusal p s by cases p <;> rfl))
    have owner : s.engine.owner = some p := (s.engine.owner_iff p).mpr (not_not.mp owned)
    rw [Judges] at taken
    rw [taken]
    split
    · next abort =>
      rw [opAbortEffect_requested (by simpa using abort)]
      exact answers_received (State.receive_eq p _ s) rfl
    · next abort =>
      have abort : s.engine.abortRequested = false := by simpa using abort
      split
      · next grant =>
        rw [opAbortEffect_waits (by simpa using abort) (by simpa using grant)]
        exact answers_received (by cases p <;> rfl) (by cases p <;> rfl)
      · next grant => exact aborted_accepted (opAbortEffect_answers abort grant owner)

end Sys2Proof.Machine
end

section
/-! OP_STATUS: the operation record as it is read back. -/

namespace Sys2Proof.Machine

/-! ### The record's bytes (R154) -/

/-- The kind of the operation in the record with its owner and arguments, or the code of no kind. -/
def Engine.kindBytes (e : Engine) : List Byte :=
  match e.op with
  | some op => op.bytes
  | none => [Config.noKindCode]

/-- The total and the progress of the operation in the record. -/
def Engine.progressBytes (e : Engine) : List Byte :=
  match e.op with
  | some op => field3 op.total ++ field3 op.progress
  | none => []

/-- The computed check, when there is one. -/
def Engine.computedBytes (e : Engine) : List Byte :=
  match e.computed with
  | some c => field2 c.toNat
  | none => []

/-- What follows the kind and its arguments. -/
def State.recordTail (s : State) : List Byte :=
  (s.busyExtents.flatMap fun x => field3 x.first ++ field3 x.count) ++ s.engine.progressBytes ++
    field1 s.engine.result.code ++ s.engine.computedBytes

/-- The reply: two bytes, the kind, and what follows it. -/
theorem opStatusData_eq (s : State) : opStatusData s =
    (field1 s.engine.state.code ++ fieldFlag s.engine.abortRequested) ++ (s.engine.kindBytes ++ s.recordTail) := by
  simp only [opStatusData, State.recordTail, List.append_assoc]
  rfl

/-- R154: OP_STATUS has no test of its own, and changes nothing but its port. -/
theorem opStatus_answers {p : Port} {s : State} (h : s.accepts p) :
    Answers p .ok (opStatusData s) s
      (s.command p false (.opStatus p) (judged (fun _ => none) id opStatusData)) :=
  command_answers_ok h (by simp) rfl (State.receive_eq p _ s) rfl (by cases p <;> rfl)

/-- Settles O47: the first two bytes, and the rest by whether the record holds an operation. -/
theorem operationStatusIsReported : Obligations.OperationStatusIsReported := by
  intro p s h
  refine ⟨_, opStatusData s, rfl, opStatus_answers h, ?_⟩
  rw [opStatusData_eq]
  refine ⟨?_, s.engine.kindBytes, s.recordTail, List.drop_left' rfl, ?_, fun absent => ?_⟩
  · refine (List.take_left' (by simp [fieldFlag])).trans ?_
    cases s.engine.state <;> rfl
  · rintro op owner present rfl
    have kind : s.engine.kindBytes = op.bytes := by simp [Engine.kindBytes, present]
    have progress : s.engine.progressBytes = field3 op.total ++ field3 op.progress := by
      simp [Engine.progressBytes, present]
    rw [kind, State.recordTail, progress]
    constructor
    · cases op with
      | mk k owner total progress => cases k <;> rfl
    · rfl
  · have kind : s.engine.kindBytes = [Config.noKindCode] := by simp [Engine.kindBytes, absent]
    have progress : s.engine.progressBytes = [] := by simp [Engine.progressBytes, absent]
    rw [kind, State.recordTail, progress, List.append_nil]
    exact ⟨rfl, rfl⟩

end Sys2Proof.Machine
end

section
/-! The worked frames and tables of section 10.8, and the bits of the port-state byte. -/

namespace Sys2Proof.Machine

/-- The port-state byte: six flags, two of them clear, and the slot's code above them. -/
theorem getLsbD_portStateByte (x : PortState) (stop filling : Bool) {i : Nat} (h : i < 8) :
    (portStateByte x stop filling).getLsbD i =
      if i < 6 then [false, false, filling, stop, x.attention, x.discard].getD i false
      else x.slot.code.testBit (i - 6) := by
  have below := packFlags_lt [false, false, filling, stop, x.attention, x.discard]
  have split := Nat.testBit_two_pow_mul_add x.slot.code below i
  rw [packFlags_testBit] at split
  have order : 64 * x.slot.code + 4 * packFlags [filling, stop, x.attention, x.discard] =
      2 ^ 6 * x.slot.code + packFlags [false, false, filling, stop, x.attention, x.discard] := by
    simp only [packFlags, Bool.toNat_false]
    omega
  rw [portStateByte, BitVec.getLsbD_ofNat, order]
  simpa [h] using split

/-- R150: a cell is fed byte by byte, the register standing at `mid` between its high byte and its low one. -/
theorem checkCell_of_bytes {reg mid sum : Check} {c : Cell} {hi lo : Byte} (high : c.extractLsb' 8 8 = hi)
    (low : c.extractLsb' 0 8 = lo) (first : checkByte reg hi = mid) (second : checkByte mid lo = sum) :
    checkCell reg c = sum := by
  rw [checkCell, high, low, first, second]

/-- Settles O8: each frame, check and table is computed, and the port-state byte holds each flag in its bit. -/
theorem workedFrames : Obligations.WorkedFrames := by
  -- the lane frames (R164)
  refine ⟨rfl, rfl, rfl, rfl, rfl, rfl, ?_⟩
  -- the command frames (section 10.8)
  refine ⟨rfl, rfl, rfl, rfl, rfl, rfl, rfl, rfl, rfl, rfl, rfl, rfl, rfl, ?_⟩
  -- the checks (section 9.4)
  refine ⟨rfl, checkCell_of_bytes (mid := 0xE1F0#16) rfl rfl rfl rfl, rfl,
    checkCell_of_bytes (mid := 0x509B#16) rfl rfl rfl rfl, ?_⟩
  -- the tables (section 10.8)
  refine ⟨rfl, rfl, rfl, rfl, rfl, rfl, ?_⟩
  rintro x stop filling b rfl
  have bit (i : Nat) (hi : i < 8) := getLsbD_portStateByte x stop filling hi
  refine ⟨(bit 0 (by decide)).trans rfl, (bit 1 (by decide)).trans rfl, (bit 2 (by decide)).trans rfl,
    (bit 3 (by decide)).trans rfl, (bit 4 (by decide)).trans rfl, (bit 5 (by decide)).trans rfl, ?_, ?_⟩
  · rw [bit 6 (by decide)]
    cases x.slot <;> simp [Slot.code]
  · rw [bit 7 (by decide)]
    cases x.slot <;> simp [Slot.code, Nat.testBit_eq_decide_div_mod_eq]

end Sys2Proof.Machine
end


section
/-! What every port command does, said once: the port it is taken on, the reading it brings the timebase to, and what its
body leaves of the timebase and the ports. -/

namespace Sys2Proof.Machine

/-! ### Port commands -/

/-- The port whose frame gives a command; an event has none. -/
def commandPort : Instr → Option Port
  | .replyRead p | .unknownCommand p _ | .status p | .eventsRead p | .eventsClear p _ | .eventsEnable p _ | .shaftLatch p
  | .shaftRead p | .getConstants p | .setConstants p _ _ | .setSource p _ _ | .simSpeed p _ _ | .simGate p _ _
  | .readCells p _ _ | .writeCells p _ _ _ | .regionSet p _ _ _ | .regionClear p _ | .regionGet p _ | .lock p _
  | .unlock p _ | .lockDown p _ | .map p _ _ _ _ _ | .mapCancel p _ | .mapClear p _ | .mapGet p _ | .seqWrite p _ _ _ _
  | .seqForm p _ _ | .seqRepeat p _ _ | .seqGet p _ | .setClass p _ _ _ | .setBar p _ _ _ _ _ _ | .home p _
  | .placeBar p _ _ | .getBar p _ | .queueRead p _ _ | .arm p _ _ _ | .disarm p | .resume p | .restart p | .clearStop p
  | .continueRun p | .opFill p _ _ | .opCopy p _ _ _ | .opCheck p _ _ | .opSuspend p | .opResume p | .opAbort p
  | .opStatus p => some p
  | _ => none

/-- The timebase reading that a timed command carries (log entry 2). -/
def commandTime : Instr → Option Nat
  | .setConstants _ _ t | .setSource _ _ t | .simSpeed _ _ t | .simGate _ _ t => some t
  | _ => none

/-- A frame that reads as a command was taken on that command's port, at the reading that a timed command carries. -/
theorem port_time_of_readFrame {c : Instr} {p : Port} {time : Nat} (frame : readFrame p time (commandFrame c) = some c) :
    commandPort c = some p ∧ ∀ t, commandTime c = some t → t = time := by
  cases c with
  | powerUp | resetInput | encoderCount | encoderIndex | simulatedCount | stillTimerExpiry | buildBegin | builderFetch
  | append | orderFrameSent | taken | inPosition | fault | replyFrameIgnored | takeLimitExpiry | moveLimitExpiry | chunk
  | readCellsGrant | writeCellsGrant | transactionBegin | transactionEnd | resetRelease => cases frame
  | unknownCommand q code =>
    obtain rfl := readFrame_unknown frame
    exact ⟨rfl, nofun⟩
  | setConstants | setSource | simSpeed | simGate =>
    injection frame with read
    injection read with port _ time
    subst port time
    exact ⟨rfl, fun _ same => (Option.some.inj same).symm⟩
  | writeCells =>
    change readCellArguments p _ _ _ = _ at frame
    unfold readCellArguments at frame
    split at frame
    · injection frame with read
      injection read with port
      exact ⟨congrArg some port.symm, nofun⟩
    · cases frame
  | _ =>
    injection frame with read
    injection read with port
    exact ⟨congrArg some port.symm, nofun⟩

/-! ### What a body leaves -/

/-- From `s` to `t` command `c`'s body leaves the timebase and the transactions, and clears no event flag but those that an
EVENTS_CLEAR names (R161, R162). -/
structure CommandKeeps (c : Instr) (s t : State) : Prop where
  now : t.now = s.now
  transaction : ∀ p, (t.port p).transaction = (s.port p).transaction
  flags : ∀ p (e : Event), e.isIn (s.port p).events = true →
    e.isIn (t.port p).events = true ∨ ∃ mask, c = .eventsClear p mask ∧ e.isIn mask = true

section
variable {c : Instr}

/-- Of the ports no more than flags is raised. -/
theorem CommandKeeps.of_raised {s t : State} (now : t.now = s.now) (ports : ∀ p, Raised (s.port p) (t.port p)) :
    CommandKeeps c s t :=
  ⟨now, fun p => (ports p).transaction, fun p e set => .inl ((ports p).events e set)⟩

theorem RunSide.commandKeeps {s t : State} (h : RunSide s t) : CommandKeeps c s t := .of_raised h.now h.ports

theorem CommandKeeps.refl (s : State) : CommandKeeps c s s := (RunSide.refl s).commandKeeps

/-- Neither the timebase nor a port moves. -/
theorem CommandKeeps.of_same {s t : State} (now : t.now = s.now := by rfl) (portM : t.portM = s.portM := by rfl)
    (portD : t.portD = s.portD := by rfl) : CommandKeeps c s t := by
  refine .of_raised now fun p => ?_
  cases p with
  | m => exact (show t.port .m = s.port .m from portM) ▸ .refl _
  | d => exact (show t.port .d = s.port .d from portD) ▸ .refl _

theorem CommandKeeps.trans {s t u : State} (h : CommandKeeps c s t) (k : CommandKeeps c t u) : CommandKeeps c s u :=
  ⟨k.now.trans h.now, fun p => (k.transaction p).trans (h.transaction p),
    fun p e set => (h.flags p e set).elim (k.flags p e) .inr⟩

/-- A change of one port that leaves its transaction, and the flags that the command does not clear. -/
theorem CommandKeeps.setPort {p : Port} {x : PortState} {s : State} (transaction : x.transaction = (s.port p).transaction)
    (flags : ∀ e : Event, e.isIn (s.port p).events = true →
      e.isIn x.events = true ∨ ∃ mask, c = .eventsClear p mask ∧ e.isIn mask = true) :
    CommandKeeps c s (s.setPort p x) := by
  refine ⟨State.setPort_now p x s, fun q => ?_, fun q e set => ?_⟩
  · rcases port_cases p q with rfl | rfl
    · rwa [State.setPort_port]
    · rw [State.setPort_port_other]
  · rcases port_cases p q with rfl | rfl
    · rw [State.setPort_port]
      exact flags e set
    · rw [State.setPort_port_other]
      exact .inl set

/-- A judged command's body keeps what its effect keeps. -/
theorem judged_commandKeeps {refusal : State → Option Reply} {effect : State → State} {data : State → List Byte}
    (h : ∀ u, CommandKeeps c u (effect u)) (u : State) : CommandKeeps c u (judged refusal effect data u).1 := by
  rcases judged_cases refusal effect data u with ⟨_, -, e⟩ | ⟨-, e⟩ <;> rw [e]
  · exact .refl u
  · exact h u

/-- R162: EVENTS_CLEAR clears the flags that its mask names. -/
theorem eventsClearEffect_commandKeeps (p : Port) (mask : EventSet) (s : State) :
    CommandKeeps (.eventsClear p mask) s (eventsClearEffect p mask s) := by
  refine .setPort rfl fun e set => ?_
  have bit : e.bit < 16 := by cases e <;> decide
  cases named : e.isIn mask with
  | true => exact .inr ⟨mask, rfl, named⟩
  | false => exact .inl (by simp_all [Event.isIn])

theorem waitForGrant_commandKeeps (p : Port) (refusal : State → Option Reply) (x : Access) (s : State) :
    CommandKeeps c s (waitForGrant p refusal x s).1 := by
  unfold waitForGrant
  split <;> exact .of_same

theorem mapEffect_commandKeeps (g : Nat) (m : Mapping) (s : State) : CommandKeeps c s (mapEffect g m s) := by
  unfold mapEffect
  split <;> exact .of_same

theorem mapCancelEffect_commandKeeps (g : Nat) (s : State) : CommandKeeps c s (mapCancelEffect g s) := by
  unfold mapCancelEffect
  split <;> exact .of_same

theorem setConstantsEffect_commandKeeps (k : MachineConstants) (s : State) :
    CommandKeeps c s (setConstantsEffect k s) := by
  rw [setConstantsEffect_eq]
  exact .of_same

theorem setSourceEffect_commandKeeps (x : Nat) (s : State) : CommandKeeps c s (setSourceEffect x s) := by
  have changed (k : Tracker) : CommandKeeps c s { s with tracker := k } := .of_same
  unfold setSourceEffect
  split
  · exact .refl s
  · split
    · exact .refl s
    · exact (changed _).trans (loseEnabled_runSide _).commandKeeps

theorem simGateEffect_commandKeeps (x : Nat) (s : State) : CommandKeeps c s (simGateEffect x s) := by
  unfold simGateEffect
  split
  · exact .refl s
  · exact .of_same

theorem continueEffect_commandKeeps (s : State) : CommandKeeps c s (continueEffect s) := by
  rw [continueEffect_eq]
  exact .of_same

theorem launch_commandKeeps (e : Engine) (s : State) : CommandKeeps c s (s.launch e) := by
  rw [launch_eq]
  exact .of_same

theorem overwrite_commandKeeps (target : Extent) (kind : OpKind) (p : Port) (total : Nat) (extents : List Extent)
    (s : State) : CommandKeeps c s (s.overwrite target kind p total extents) :=
  CommandKeeps.trans (t := s.unverify target) .of_same (launch_commandKeeps _ _)

theorem opCheckEffect_commandKeeps (p : Port) (g w : Nat) (s : State) : CommandKeeps c s (opCheckEffect p g w s) := by
  unfold opCheckEffect
  split
  · exact .refl s
  · exact launch_commandKeeps _ s

theorem opSuspendEffect_commandKeeps (s : State) : CommandKeeps c s (opSuspendEffect s) := by
  unfold opSuspendEffect
  split
  · exact .of_same
  · exact .refl s

theorem opResumeEffect_commandKeeps (s : State) : CommandKeeps c s (opResumeEffect s) := by
  unfold opResumeEffect
  split
  · exact launch_commandKeeps _ s
  · exact .refl s

/-- R147: the end of an operation raises OP_DONE in its owner's port. -/
theorem endOp_raised (owner : Option Port) (r : OpResult) (s : State) (q : Port) :
    Raised (s.port q) ((s.endOp owner r).port q) := by
  cases owner with
  | none => cases q <;> exact .refl _
  | some p =>
    obtain ⟨own, other⟩ := endOp_port p r s
    rcases port_cases p q with rfl | rfl
    · rw [own]
      exact PortState.raise_raised _ _
    · rw [other]
      exact .refl _

theorem opAbortEffect_commandKeeps (s : State) : CommandKeeps c s (opAbortEffect s) := by
  unfold opAbortEffect
  split
  · exact .refl s
  · split
    · exact .of_same
    · refine CommandKeeps.trans (t := s.withdrawChunk) .of_same (.of_raised ?_ (endOp_raised _ _ _))
      rw [endOp_eq]

end

/-! ### How every command is executed -/

/-- A port command but the reply read: the timebase reaches the reading that a timed one carries, and the port takes the
frame, with a body that keeps the timebase, the transactions and the flags that it does not clear. -/
theorem exec_command {c : Instr} {p : Port} (port : commandPort c = some p) (read : c ≠ .replyRead p) (s : State) :
    ∃ (now : Nat) (first : Option Status) (body : Body),
      (now = s.now ∨ ∃ time, commandTime c = some time ∧ now = max s.now time) ∧
      exec c s = .next (State.take p (commandFrame c) first body { s with now := now }) ∧
      ∀ u, CommandKeeps c u (body u).1 := by
  cases c <;> cases port
  case replyRead => exact absurd rfl read
  case unknownCommand => exact ⟨_, _, _, .inl rfl, rfl, .refl⟩
  case eventsClear mask => exact ⟨_, _, _, .inl rfl, rfl, judged_commandKeeps (eventsClearEffect_commandKeeps p mask)⟩
  case eventsEnable => exact ⟨_, _, _, .inl rfl, rfl, judged_commandKeeps fun u => .setPort rfl fun _ => .inl⟩
  case setConstants k time =>
    exact ⟨_, _, _, .inr ⟨time, rfl, rfl⟩, rfl, judged_commandKeeps (setConstantsEffect_commandKeeps k)⟩
  case setSource x time =>
    exact ⟨_, _, _, .inr ⟨time, rfl, rfl⟩, rfl, judged_commandKeeps (setSourceEffect_commandKeeps x)⟩
  case simSpeed time => exact ⟨_, _, _, .inr ⟨time, rfl, rfl⟩, rfl, judged_commandKeeps fun u => .of_same⟩
  case simGate x time =>
    exact ⟨_, _, _, .inr ⟨time, rfl, rfl⟩, rfl, judged_commandKeeps (simGateEffect_commandKeeps x)⟩
  case readCells => exact ⟨_, _, _, .inl rfl, rfl, waitForGrant_commandKeeps p _ _⟩
  case writeCells => exact ⟨_, _, _, .inl rfl, rfl, waitForGrant_commandKeeps p _ _⟩
  case map g _ _ _ _ => exact ⟨_, _, _, .inl rfl, rfl, judged_commandKeeps (mapEffect_commandKeeps g _)⟩
  case mapCancel g => exact ⟨_, _, _, .inl rfl, rfl, judged_commandKeeps (mapCancelEffect_commandKeeps g)⟩
  case home b => exact ⟨_, _, _, .inl rfl, rfl, judged_commandKeeps fun u => (homeEffect_runSide b u).commandKeeps⟩
  case placeBar b x =>
    exact ⟨_, _, _, .inl rfl, rfl, judged_commandKeeps fun u => (orderTo_runSide b x none u).commandKeeps⟩
  case arm entry iteration course =>
    exact ⟨_, _, _, .inl rfl, rfl, judged_commandKeeps fun u =>
      CommandKeeps.trans (t := u.arming { entry, iteration, course }) .of_same (tryPlacement_runSide _).commandKeeps⟩
  case resume =>
    exact ⟨_, _, _, .inl rfl, rfl, judged_commandKeeps fun u =>
      CommandKeeps.trans (t := u.resuming) .of_same (tryPlacement_runSide _).commandKeeps⟩
  case restart =>
    exact ⟨_, _, _, .inl rfl, rfl, judged_commandKeeps fun u =>
      (purge_runSide u).commandKeeps.trans (u := u.purge.clearRun) .of_same⟩
  case continueRun => exact ⟨_, _, _, .inl rfl, rfl, judged_commandKeeps continueEffect_commandKeeps⟩
  case opFill | opCopy =>
    exact ⟨_, _, _, .inl rfl, rfl, judged_commandKeeps fun u => overwrite_commandKeeps _ _ _ _ _ u⟩
  case opCheck g w => exact ⟨_, _, _, .inl rfl, rfl, judged_commandKeeps (opCheckEffect_commandKeeps p g w)⟩
  case opSuspend => exact ⟨_, _, _, .inl rfl, rfl, judged_commandKeeps opSuspendEffect_commandKeeps⟩
  case opResume => exact ⟨_, _, _, .inl rfl, rfl, judged_commandKeeps opResumeEffect_commandKeeps⟩
  case opAbort => exact ⟨_, _, _, .inl rfl, rfl, judged_commandKeeps opAbortEffect_commandKeeps⟩
  -- The other effects move neither the timebase nor a port.
  all_goals exact ⟨_, _, _, .inl rfl, rfl, judged_commandKeeps fun u => .of_same⟩

end Sys2Proof.Machine
end


section
/-! O60: an event flag stays set through every command and event but the reset input, POWER_UP and an EVENTS_CLEAR of its
own port that names it (R161 to R163). -/

namespace Sys2Proof.Machine

/-! ### A flag that stays -/

/-- Where the flag of event `e` stands set in port `p` of `s`, it stands set in `t`. -/
def FlagStays (p : Port) (e : Event) (s t : State) : Prop :=
  e.isIn (s.port p).events = true → e.isIn (t.port p).events = true

section
variable {p : Port} {e : Event}

theorem FlagStays.refl (s : State) : FlagStays p e s s := id

theorem FlagStays.trans {s t u : State} (h : FlagStays p e s t) (k : FlagStays p e t u) : FlagStays p e s u := k ∘ h

/-- The port stands. -/
theorem FlagStays.of_port {s t : State} (port : t.port p = s.port p) : FlagStays p e s t := fun set => port ▸ set

/-- Flags are only raised. -/
theorem FlagStays.of_raised {s t : State} (ports : ∀ q, Raised (s.port q) (t.port q)) : FlagStays p e s t :=
  (ports p).events e

theorem FlagStays.ite (c : Prop) [Decidable c] {s t : State} (h : FlagStays p e s t) :
    FlagStays p e s (if c then t else s) := by
  split
  · exact h
  · exact .refl s

theorem setPort_flagStays (q : Port) (x : PortState) (s : State)
    (h : e.isIn (s.port q).events = true → e.isIn x.events = true := by exact id) : FlagStays p e s (s.setPort q x) := by
  intro set
  rcases port_cases q p with rfl | rfl
  · rw [State.setPort_port]
    exact h set
  · rwa [State.setPort_port_other]

theorem setSlot_flagStays (q : Port) (x : Slot) (s : State) : FlagStays p e s (s.setSlot q x) := setPort_flagStays q _ s

/-! ### How a command is taken (R156 to R159) -/

/-- A port command leaves the flag set, unless it is an EVENTS_CLEAR of its own port that names the event. -/
theorem command_flagStays {c : Instr} {q : Port} {s t : State} (port : commandPort c = some q)
    (unnamed : ∀ mask, c = .eventsClear p mask → e.isIn mask = false) (h : exec c s = .next t) :
    FlagStays p e s t := by
  by_cases read : c = .replyRead q
  · subst read
    obtain rfl := Host.Outcome.next.inj h
    exact .ite _ (setPort_flagStays q _ s)
  obtain ⟨now, first, body, -, taken, kept⟩ := exec_command port read s
  obtain rfl := Host.Outcome.next.inj (taken.symm.trans h)
  have ran (u : State) : FlagStays p e u (body u).1 := fun set =>
    ((kept u).flags p e set).resolve_right fun ⟨mask, clears, named⟩ => by simp [unnamed mask clears] at named
  have reached : FlagStays p e s { s with now := now } := .of_port (by cases p <;> rfl)
  have received := reached.trans (setPort_flagStays q _ _ : FlagStays p e _ (State.receive q (commandFrame c) _))
  rcases take_cases q (commandFrame c) first body { s with now := now } with
    ⟨-, a⟩ | ⟨-, -, a⟩ | ⟨-, -, _, -, a⟩ | ⟨-, -, -, a⟩ <;> rw [a]
  · exact reached
  · exact received.trans (setPort_flagStays q _ _)
  · exact received.trans (setSlot_flagStays q _ _)
  · exact (received.trans (ran _)).trans (setSlot_flagStays q _ _)

/-! ### How an event is taken -/

theorem elapse_flagStays (t : Nat) (s : State) : FlagStays p e s (s.elapse t) := .of_raised fun _ => .refl _

theorem unlessHeld_flagStays {f : State → State} (h : ∀ u, FlagStays p e u (f u)) (s : State) :
    FlagStays p e s (s.unlessHeld f) := by
  unfold State.unlessHeld
  split
  · exact .refl s
  · exact h s

theorem timed_flagStays {f : State → State} (h : ∀ u, FlagStays p e u (f u)) (t : Nat) (s : State) :
    FlagStays p e s ((s.elapse t).unlessHeld f) := (elapse_flagStays t s).trans (unlessHeld_flagStays h _)

/-- R157: the end of a transaction leaves the flags. -/
@[simp] theorem PortState.deselect_events (bits : Nat) (x : PortState) : (x.deselect bits).events = x.events := by
  unfold PortState.deselect
  split
  · rfl
  · dsimp only
    split <;> rfl

/-! ### The builder, the engine and the grants -/

theorem appendBuild_flagStays (b : Build) (s : State) : FlagStays p e s (s.appendBuild b) := by
  have appended : FlagStays p e s (s.appended b) := .of_port (by cases p <;> rfl)
  rw [appendBuild_eq]
  exact appended.trans (.of_raised ((appended_announced b s).trans (tryPlacement_runSide _)).ports)

theorem endOp_flagStays (owner : Option Port) (r : OpResult) (s : State) : FlagStays p e s (s.endOp owner r) :=
  .of_raised (endOp_raised owner r s)

theorem settleCheck_flagStays (g : Nat) (ok : Bool) (s : State) : FlagStays p e s (s.settleCheck g ok) := by
  unfold State.settleCheck
  split
  · exact .of_port (by cases p <;> rfl)
  · exact .refl s

theorem settleChunk_flagStays (op : Operation) (s : State) : FlagStays p e s (s.settleChunk op) := by
  have engine (x : Engine) (u : State) : FlagStays p e u { u with engine := x } := .of_port (by cases p <;> rfl)
  unfold State.settleChunk
  split
  · exact engine _ s
  · split
    · exact endOp_flagStays _ _ s
    · split
      · split
        · exact engine _ s
        · exact ((settleCheck_flagStays _ _ s).trans (engine _ _)).trans (endOp_flagStays _ _ _)
        · exact endOp_flagStays _ _ s
        · exact endOp_flagStays _ _ s
      · exact .refl s

theorem runChunk_flagStays (op : Operation) (s : State) : FlagStays p e s (s.runChunk op) := by
  have done : FlagStays p e s (s.chunkDone op) := .of_port (by cases p <;> rfl)
  exact (done.trans (settleChunk_flagStays op.advanced _)).trans (.of_port (runChunk_port op s p))

theorem endFetch_port (s : State) : s.endFetch.port p = s.port p := by
  unfold State.endFetch
  split <;> cases p <;> rfl

theorem writeInGrant_port (q : Port) (a : Nat) (cells : List Cell) (s : State) :
    (s.writeInGrant q a cells).1.port p = s.port p := by
  unfold State.writeInGrant
  split <;> cases p <;> rfl

/-- A grant of a port ends with the access's reply in its slot. -/
theorem endAccess_flagStays (q : Port) (r : Reply) (s : State) : FlagStays p e s (s.endAccess q r) :=
  (setSlot_flagStays q (.ready r) s).trans (.of_port (by cases p <;> rfl))

/-! ### Every command and event -/

/-- A flag stays set through every command and event but those that R161 names. -/
theorem exec_flagStays {c : Instr} {s t : State} (h : exec c s = .next t) (powered : c ≠ .powerUp)
    (reset : c ≠ .resetInput) (unnamed : ∀ mask, c = .eventsClear p mask → e.isIn mask = false) :
    FlagStays p e s t := by
  have next {u : State} (a : exec c s = .next u) (k : FlagStays p e s u) : FlagStays p e s t :=
    Host.Outcome.next.inj (a.symm.trans h) ▸ k
  have stands : FlagStays p e s s := .refl s
  cases c with
  | powerUp => exact absurd rfl powered
  | resetInput => exact absurd rfl reset
  | encoderCount edge time =>
    refine next rfl (timed_flagStays (fun u => .ite _ ?_) time s)
    cases edge with
    | forward | reverse => exact .of_raised (takeCount_shaftSide _ _ u).ports
    | together => exact .refl u
  | encoderIndex => exact next rfl (unlessHeld_flagStays (fun u => .ite _ (.of_raised (takeIndex_shaftSide u).ports)) s)
  | simulatedCount time =>
    refine next rfl (timed_flagStays (fun u => ?_) time s)
    split
    · exact .ite _ (.of_raised (simulate_shaftSide _ u).ports)
    · exact .refl u
  | stillTimerExpiry time =>
    refine next rfl (timed_flagStays (fun u => ?_) time s)
    split
    · exact .ite _ (.of_port (by cases p <;> rfl))
    · exact .refl u
  | buildBegin =>
    exact next rfl (unlessHeld_flagStays
      (fun u => .ite _ (.of_raised (watchCeiling_builderSide (beginBuild_builderSide u)).ports)) s)
  | builderFetch =>
    rcases builderFetch_cases h with rfl | rfl
    · exact stands
    · exact .of_port (endFetch_port s)
  | append =>
    refine next rfl (unlessHeld_flagStays (fun u => ?_) s)
    split
    · exact (appendBuild_flagStays _ u).trans (.of_raised (raiseIf_runSide _ _ _).ports)
    · exact .refl u
  | orderFrameSent lane time =>
    exact next rfl (timed_flagStays (fun u => .of_raised (frameSent_runSide lane u).ports) time s)
  | taken lane address time =>
    exact next rfl (timed_flagStays (fun u => .of_raised (driveReply_runSide lane address _ u).ports) time s)
  | inPosition lane address position =>
    refine next rfl ?_
    split
    · exact unlessHeld_flagStays (fun u => .of_raised (driveReply_runSide lane address _ u).ports) s
    · exact stands
  | fault lane address code =>
    refine next rfl ?_
    split
    · exact stands
    · exact unlessHeld_flagStays (fun u => .of_raised (driveReply_runSide lane address _ u).ports) s
  | replyFrameIgnored lane frame time =>
    refine next rfl ?_
    split
    · exact stands
    · exact timed_flagStays (fun u => .of_raised (driveReply_runSide lane _ _ u).ports) time s
  | takeLimitExpiry bar time =>
    exact next rfl (timed_flagStays (fun u => .of_raised (takeLimitReached_runSide bar u).ports) time s)
  | moveLimitExpiry bar time =>
    exact next rfl (timed_flagStays (fun u => .of_raised (moveLimitReached_runSide bar u).ports) time s)
  | chunk =>
    rcases chunk_cases h with rfl | ⟨op, -, -, -, rfl⟩
    · exact stands
    · exact runChunk_flagStays op s
  | readCellsGrant port =>
    rcases readCellsGrant_cases h with rfl | ⟨r, rfl⟩
    · exact stands
    · exact endAccess_flagStays port r s
  | writeCellsGrant port =>
    rcases writeCellsGrant_cases h with rfl | ⟨a, cells, r, -, rfl⟩
    · exact stands
    · exact FlagStays.trans (.of_port (writeInGrant_port port a cells s)) (endAccess_flagStays port r _)
  | transactionBegin port =>
    refine next rfl ?_
    split
    · exact setPort_flagStays port _ s
    · exact .ite _ (setPort_flagStays port _ s)
  | transactionEnd port bits =>
    exact next rfl (setPort_flagStays port _ s (by rw [PortState.deselect_events]; exact id))
  | resetRelease => exact next rfl (.of_port (by cases p <;> rfl))
  | _ => exact command_flagStays rfl unnamed h

end

/-- Settles O60: a flag that was set and is clear has been cleared by one of the three that clear flags. -/
theorem eventFlagsStayUntilCleared : Obligations.EventFlagsStayUntilCleared := by
  intro c p e s t h set clear
  by_contra other
  push Not at other
  obtain ⟨powered, reset, unnamed⟩ := other
  have stays := exec_flagStays h powered reset (fun mask clears => Bool.eq_false_iff.mpr (unnamed mask clears)) set
  rw [clear] at stays
  cases stays

end Sys2Proof.Machine
end


section
/-! The ports: the commands of port M on port D (O12), event flags and masks (O14), the transactions (O9) and the frames
that are discarded or not taken (O10). -/

namespace Sys2Proof.Machine

/-! ### The commands of port M alone (R159) -/

/-- R159: what port M alone may give is refused RIGHTS on port D by the first tests. -/
theorem command_rights {c : Instr} {body : Body} {s : State} (h : s.accepts .d) :
    Refuses .d .rights s (s.command .d true c body) := by
  obtain ⟨⟨listens, slot⟩, filled⟩ := h
  rw [command_first listens slot (status := .rights) (by simp [State.firstTests, filled])]
  exact answers_received (State.receive_eq .d _ s) rfl

/-- A reading that the timebase has reached does not move it. -/
theorem State.elapse_reached {time : Nat} {s : State} (h : time ≤ s.now) : s.elapse time = s := by
  simp [State.elapse, Nat.max_eq_left h]

theorem timedCommand_rights {c : Instr} {body : Body} {time : Nat} {s : State} (h : s.accepts .d) (reached : time ≤ s.now) :
    Refuses .d .rights s ((s.elapse time).command .d true c body) := by
  rw [State.elapse_reached reached]
  exact command_rights h

/-- Settles O12: each of the commands is one that its first tests refuse. -/
theorem portDHasNoMachineRights : Obligations.PortDHasNoMachineRights := by
  intro s h
  refine ⟨fun k time reached => ⟨_, rfl, timedCommand_rights h reached⟩, fun x time reached => ?_, fun a b c d e f => ?_,
    ?_⟩
  · exact ⟨⟨_, rfl, timedCommand_rights h reached⟩, ⟨_, rfl, timedCommand_rights h reached⟩,
      ⟨_, rfl, timedCommand_rights h reached⟩⟩
  · exact ⟨⟨_, rfl, command_rights h⟩, ⟨_, rfl, command_rights h⟩, ⟨_, rfl, command_rights h⟩, ⟨_, rfl, command_rights h⟩,
      ⟨_, rfl, command_rights h⟩, ⟨_, rfl, command_rights h⟩⟩
  · rintro c (rfl | rfl | rfl | rfl | rfl) <;> exact ⟨_, rfl, command_rights h⟩

/-! ### Event flags and masks (R162) -/

/-- Every bit of an event set is some event's flag (R161). -/
theorem exists_event_of_bit {i : Nat} (h : i < 16) : ∃ e : Event, e.bit = i := by
  interval_cases i
  exacts [⟨.placed, rfl⟩, ⟨.ceilingDrop, rfl⟩, ⟨.stopRequest, rfl⟩, ⟨.fault, rfl⟩, ⟨.ended, rfl⟩, ⟨.remapped, rfl⟩,
    ⟨.remapHeld, rfl⟩, ⟨.clamped, rfl⟩, ⟨.longShog, rfl⟩, ⟨.risk, rfl⟩, ⟨.late, rfl⟩, ⟨.backoff, rfl⟩, ⟨.overrun, rfl⟩,
    ⟨.barLost, rfl⟩, ⟨.slip, rfl⟩, ⟨.opDone, rfl⟩]

/-- An event set is not empty where it holds an event. -/
theorem eventSet_ne_zero_iff (x : EventSet) : x ≠ 0#16 ↔ ∃ e : Event, e.isIn x = true := by
  constructor
  · intro nonempty
    by_contra none
    push Not at none
    refine nonempty (BitVec.eq_of_getLsbD_eq fun i hi => ?_)
    obtain ⟨e, rfl⟩ := exists_event_of_bit hi
    simpa [Event.isIn] using none e
  · rintro ⟨e, holds⟩ rfl
    simp [Event.isIn] at holds

theorem attention_iff (x : PortState) :
    x.attention = true ↔ ∃ e : Event, e.isIn x.events = true ∧ e.isIn x.mask = true := by
  simp only [PortState.attention, bne_iff_ne, eventSet_ne_zero_iff, Event.isIn, BitVec.getLsbD_and, Bool.and_eq_true]

/-- A command that changes its own port alone is accepted from what its effect makes of that port. -/
theorem accepts_setPort {p : Port} {c : Instr} {effect : State → State} {s : State} {x : PortState} (h : s.accepts p)
    (only : effect (s.receive p (commandFrame c)) =
      (s.setPort p x).setPort p ((effect (s.receive p (commandFrame c))).port p))
    (discard : ((effect (s.receive p (commandFrame c))).port p).discard = false)
    (events : ((effect (s.receive p (commandFrame c))).port p).events = x.events)
    (mask : ((effect (s.receive p (commandFrame c))).port p).mask = x.mask) :
    Accepts p (s.setPort p x) (s.command p false c (judged (fun _ => none) effect fun _ => [])) := by
  rw [command_ok h (by simp) rfl]
  refine answers_setSlot only discard ?_ ?_
  · rw [events, State.setPort_port]
  · rw [mask, State.setPort_port]

/-- Settles O14: the attention output by the events it shows, and the three commands once the fill has ended. -/
theorem eventFlagsAndMasks : Obligations.EventFlagsAndMasks := by
  intro p mask s takes
  refine ⟨attention_iff, ⟨_, rfl, starting_or takes fun h => ?_⟩, ⟨_, rfl, starting_or takes fun h => ?_⟩,
    ⟨_, rfl, starting_or takes fun h => ?_⟩⟩
  · refine command_answers_ok h (by simp) rfl (State.receive_eq p _ s) rfl ?_
    simp [eventsReadData, setField]
  · refine accepts_setPort h ?_ ?_ ?_ ?_ <;> cases p <;> rfl
  · refine accepts_setPort h ?_ ?_ ?_ ?_ <;> cases p <;> rfl

/-! ### What a port listens to (R156, R163) -/

/-- A port listens to a transaction that has not had its command, or to the bytes of one that was not abandoned. -/
theorem listens_iff (p : Port) (s : State) : s.listens p = true ↔ s.resetHeld = false ∧
    (∀ x, (s.port p).transaction = some x → x.taken = false ∧ x.reading = none) ∧
    ((s.port p).transaction = none → (s.port p).deaf = false) := by
  unfold State.listens
  cases (s.port p).transaction <;> simp

theorem setPort_keepsCells (p : Port) (x : PortState) (s : State) : KeepsCells s (s.setPort p x) := fun a => by
  rw [State.setPort_memory]

/-! ### The transaction (R156, R157, R158) -/

/-- R158: a reply is read in one byte of status, two of length and its data. -/
@[simp] theorem Reply.bytes_length (r : Reply) : r.bytes.length = 3 + r.data.length := by
  simp only [Reply.bytes, List.length_append, field1_length, field2_length]

/-- R156: the fall of the chip select begins a transaction where none is in progress. -/
theorem exec_transactionBegin {p : Port} {s : State} (released : s.resetHeld = false) :
    exec (.transactionBegin p) s = .next (if (s.port p).transaction.isNone then s.selectFalls p else s) := by
  change execTransactionBegin p s = _
  simp [execTransactionBegin, released]

/-- R158: a reply read on a port that listens to its transaction. -/
theorem readReply_port {p : Port} {s : State} {x : Transaction} (h : (s.port p).transaction = some x) :
    (s.readReply p).port p =
      { s.port p with discard := false, transaction := some (replyTransaction (s.port p).slot x.shifted) } := by
  unfold State.readReply
  rw [State.setPort_port, h]

/-- R156, R157, R158: the reply read. -/
theorem replyRead_shifts {p : Port} {s : State} (released : s.resetHeld = false) :
    ∃ t, exec (.replyRead p) s = .next t ∧ t = s.setPort p (t.port p) ∧ KeepsCells s t ∧
      (t.port p).slot = (s.port p).slot ∧ (t.port p).events = (s.port p).events ∧ (t.port p).mask = (s.port p).mask ∧
      ∀ x, (s.port p).transaction = some x → x.taken = false → x.reading = none →
        (t.port p).discard = false ∧ (t.port p).transaction = some (replyTransaction (s.port p).slot x.shifted) := by
  refine ⟨_, rfl, ?_⟩
  split
  · refine ⟨by simp [State.readReply], setPort_keepsCells p _ s, by simp [State.readReply], by simp [State.readReply],
      by simp [State.readReply], fun x h _ _ => ?_⟩
    rw [readReply_port h]
    exact ⟨rfl, rfl⟩
  · next unheard =>
    refine ⟨(State.setPort_same p s).symm, fun _ => rfl, rfl, rfl, rfl, fun x h taken reading => ?_⟩
    refine absurd ((listens_iff p s).mpr ⟨released, fun y hy => ?_, fun none => ?_⟩) unheard
    · obtain rfl := Option.some.inj (h.symm.trans hy)
      exact ⟨taken, reading⟩
    · rw [h] at none
      cases none

/-- The end of a transaction leaves none in progress, no byte unread, and the mask as it stands. -/
theorem deselect_leaves (bits : Nat) (x : PortState) :
    (x.deselect bits).transaction = none ∧ (x.deselect bits).mask = x.mask ∧ (x.deselect bits).deaf = false := by
  unfold PortState.deselect
  split
  · next none => exact ⟨none, rfl, rfl⟩
  · dsimp only
    split <;> exact ⟨rfl, rfl, rfl⟩

/-- R157, R158: what the rise of the chip select records, and what it does to the slot and to DISCARD. -/
theorem deselect_transaction {bits : Nat} {x : PortState} {t : Transaction} (h : x.transaction = some t) :
    (x.deselect bits).shiftedOut = t.out (max bits t.bits) ∧
    (∀ n, t.reading = some n → (x.deselect bits).discard = x.discard ∧
      (x.deselect bits).slot = if 8 * n ≤ bits then .empty else x.slot) ∧
    (t.reading = none → (x.deselect bits).slot = x.slot ∧ (x.deselect bits).discard = (x.discard || !t.taken)) := by
  unfold PortState.deselect
  rw [h]
  dsimp only
  split
  · next n reading => exact ⟨rfl, fun m same => Option.some.inj (reading.symm.trans same) ▸ ⟨rfl, rfl⟩, by simp [reading]⟩
  · next reading => exact ⟨rfl, by simp [reading], fun _ => ⟨rfl, rfl⟩⟩

/-- R156: an unknown code is answered with its status, whatever else holds (log entry 18). -/
theorem unknownCommand_refuses {p : Port} {s : State} (code : Byte) (h : s.takes p) :
    ∃ t, exec (.unknownCommand p code) s = .next t ∧ Refuses p .unknownCommand s t := by
  obtain ⟨listens, slot⟩ := h
  refine ⟨_, rfl, ?_⟩
  simp only [State.take, listens, State.receive_slot, slot, if_true, if_false]
  exact answers_received (State.receive_eq p _ s) rfl

/-- Settles O9: the four rows by what each does to the port. -/
theorem transactionsOfAPort : Obligations.TransactionsOfAPort := by
  intro p bits s released
  refine ⟨⟨_, exec_transactionBegin released, ?_⟩, ?_, ⟨_, rfl, ?_⟩, fun code => unknownCommand_refuses code⟩
  · split
    · exact ⟨by simp [State.selectFalls], setPort_keepsCells p _ s, fun _ => by simp [State.selectFalls, State.portStateByte]⟩
    · next busy => exact ⟨(State.setPort_same p s).symm, fun _ => rfl, fun none => absurd none (by simpa using busy)⟩
  · obtain ⟨t, executed, only, cells, slot, events, mask, read⟩ := replyRead_shifts (p := p) released
    refine ⟨t, executed, only, cells, slot, events, mask, fun x r h taken reading ready => ?_,
      fun x h taken reading unready => ?_⟩
    · obtain ⟨discard, transaction⟩ := read x h taken reading
      rw [ready] at transaction
      refine ⟨discard, _, transaction, rfl, congrArg some ?_⟩
      rw [Reply.bytes_length]
      omega
    · obtain ⟨discard, transaction⟩ := read x h taken reading
      refine ⟨discard, _, transaction, ?_⟩
      rcases unready with slot | slot <;> rw [slot] <;> exact ⟨rfl, rfl, rfl⟩
  · rw [State.setPort_port]
    obtain ⟨transaction, mask, deaf⟩ := deselect_leaves bits (s.port p)
    refine ⟨rfl, setPort_keepsCells p _ s, transaction, PortState.deselect_events bits _, mask, deaf, fun x h => ?_⟩
    obtain ⟨shiftedOut, whole, other⟩ := deselect_transaction (bits := bits) h
    rw [shiftedOut]
    exact ⟨Transaction.out_length _ x, fun k inside => Transaction.out_getD x 0 inside, whole, other⟩

/-! ### Frames that are discarded or not taken (R156, R157, R163) -/

section
variable {p : Port} {frame : List Byte} {first : Option Status} {body : Body} {s : State}

/-- R156, R163: a port that does not listen takes nothing. -/
theorem take_unheard (h : s.listens p = false) : s.take p frame first body = s := by
  simp [State.take, h]

/-- R157: with the slot PENDING a frame is received, and discarded whole. -/
theorem take_pending (listens : s.listens p = true) (pending : (s.port p).slot = .pending) :
    s.take p frame first body = s.setPort p { (s.receive p frame).port p with discard := true } := by
  rw [State.take, if_pos listens, if_pos ((State.receive_slot p frame s).trans pending), State.receive]
  exact State.setPort_setPort p _ _ s

end

/-- R156: the transaction of a port whose slot is set after a body has run is the one that has received the frame. -/
theorem take_transaction {c : Instr} {p : Port} {first : Option Status} {body : Body} {s : State}
    (kept : ∀ u, CommandKeeps c u (body u).1) (listens : s.listens p = true) :
    ((s.take p (commandFrame c) first body).port p).transaction =
      (s.port p).transaction.map (Transaction.receive (commandFrame c)) := by
  rcases take_cases p (commandFrame c) first body s with ⟨deaf, -⟩ | ⟨-, -, e⟩ | ⟨-, -, _, -, e⟩ | ⟨-, -, -, e⟩
  · rw [listens] at deaf
    cases deaf
  · simp [e]
  · simp [e]
  · simp [e, (kept _).transaction p]

theorem take_now {c : Instr} {p : Port} {first : Option Status} {body : Body} (kept : ∀ u, CommandKeeps c u (body u).1)
    (s : State) : (s.take p (commandFrame c) first body).now = s.now := by
  rcases take_cases p (commandFrame c) first body s with ⟨-, e⟩ | ⟨-, -, e⟩ | ⟨-, -, _, -, e⟩ | ⟨-, -, -, e⟩ <;> rw [e]
  · simp
  · simp
  · simp [(kept _).now]

/-- Settles O10: what a port that does not listen, and one whose slot is PENDING, does with a frame. -/
theorem pendingSlotDiscardsFrames : Obligations.PendingSlotDiscardsFrames := by
  intro c p time s t frame h
  obtain ⟨port, timed⟩ := port_time_of_readFrame frame
  by_cases read : c = .replyRead p
  · subst read
    obtain rfl := Host.Outcome.next.inj h
    refine ⟨.inl ?_, listens_iff p s, fun unheard => ?_, fun _ other => absurd rfl other, fun _ _ other => absurd rfl other⟩
    · split
      · exact State.setPort_now p _ s
      · rfl
    · simp [unheard]
  obtain ⟨now, first, body, reached, taken, kept⟩ := exec_command port read s
  obtain rfl := Host.Outcome.next.inj (taken.symm.trans h)
  have same : (State.port { s with now := now } p) = s.port p := by cases p <;> rfl
  have hears : State.listens p { s with now := now } = s.listens p := by cases p <;> rfl
  rw [take_now kept]
  refine ⟨?_, listens_iff p s, fun unheard => ?_, fun listens _ => ?_, fun listens pending _ => ?_⟩
  · rcases reached with same | ⟨t, carried, reached⟩
    · exact .inl same
    · obtain rfl := timed t carried
      exact .inr reached
  · exact take_unheard (hears.trans unheard)
  · rw [take_transaction kept (hears.trans listens), same]
    rfl
  · rw [take_pending (hears.trans listens) ((congrArg PortState.slot same).trans pending), State.setPort_port]
    refine ⟨?_, ?_, rfl, ?_, ?_, setPort_keepsCells p _ { s with now := now }⟩
    · cases p <;> rfl
    · simpa [same] using pending
    · simp [same]
    · simp [same]

end Sys2Proof.Machine
end


section
/-! O7: the frame of each well-formed port command reads back as that command (R156, section 10.8). -/

namespace Sys2Proof.Machine

/-! ### Fields -/

/-- A number that fits one byte reads back from it. -/
theorem reads1 {n : Nat} (h : fits 1 n = true) : fieldValue (field1 n) = n := fieldValue_field1 (by simpa [fits] using h)

/-- A number that fits two bytes reads back from them. -/
theorem reads2 {n : Nat} (h : fits 2 n = true) : fieldValue (field2 n) = n := fieldValue_field2 (by simpa [fits] using h)

/-- A number that fits three bytes reads back from them. -/
theorem reads3 {n : Nat} (h : fits 3 n = true) : fieldValue (field3 n) = n := fieldValue_field3 (by simpa [fits] using h)

/-- A word of 16 bits reads back from its two bytes. -/
theorem readsWord (x : BitVec 16) : BitVec.ofNat 16 (fieldValue (field2 x.toNat)) = x := by
  rw [fieldValue_field2 x.isLt, BitVec.ofNat_toNat, BitVec.setWidth_eq]

/-! ### Frames that are not of fields alone -/

/-- The machine constants read back field by field. -/
theorem readFrame_setConstants {k : MachineConstants} (p : Port) (time : Nat) (h : k.fitsFields = true) :
    readFrame p time (commandFrame (.setConstants p k time)) = some (.setConstants p k time) := by
  obtain ⟨counts, overlapStart, overlapEnd, underlapStart, underlapEnd, stagger, maxRpm, crawlRpm, lookAhead, slack⟩ := k
  simp only [MachineConstants.fitsFields, Bool.and_eq_true] at h
  obtain ⟨⟨⟨⟨⟨⟨⟨⟨⟨h1, h2⟩, h3⟩, h4⟩, h5⟩, h6⟩, h7⟩, h8⟩, h9⟩, h10⟩ := h
  conv_rhs =>
    rw [← reads2 h1, ← reads2 h2, ← reads2 h3, ← reads2 h4, ← reads2 h5, ← reads1 h6, ← reads2 h7, ← reads2 h8,
      ← reads1 h9, ← reads2 h10]
  rfl

/-- A write carries as many cells as its count byte makes the port read (R156). -/
theorem readFrame_writeCells {p : Port} {time a n : Nat} {cells : List Cell} (address : fits 3 a = true)
    (count : fits 1 n = true) (carried : cells.length = cellsCarried n) :
    readFrame p time (commandFrame (.writeCells p a n cells)) = some (.writeCells p a n cells) := by
  have read : readFrame p time (commandFrame (.writeCells p a n cells)) =
      readCellArguments p (fieldValue (field3 a)) (fieldValue (field1 n)) (cellBytes cells) := rfl
  rw [read, reads3 address, reads1 count, readCellArguments, cellBytes_length, carried, if_pos rfl,
    cellsOfBytes_cellBytes]

/-- A code byte that is none of section 10.8's reads as an unknown command (R156): so it is for each of the 256 codes. -/
theorem readFrame_unknown_code {c : Byte} (p : Port) (time : Nat) (h : knownCodes.contains c.toNat = false) :
    readFrame p time [c] = some (.unknownCommand p c) := by
  obtain ⟨n, hn, rfl⟩ : ∃ n, n < 256 ∧ c = BitVec.ofNat 8 n := ⟨c.toNat, c.isLt, by simp⟩
  interval_cases n
  all_goals (cases h <;> rfl)

/-! ### Every port command -/

/-- Settles O7: by the fields of each command's frame. -/
theorem commandFramesReadBack : Obligations.CommandFramesReadBack := by
  intro i p time fit own
  cases i with
  | powerUp | resetInput | encoderCount | encoderIndex | simulatedCount | stillTimerExpiry | buildBegin | builderFetch
  | append | orderFrameSent | taken | inPosition | fault | replyFrameIgnored | takeLimitExpiry | moveLimitExpiry | chunk
  | readCellsGrant | writeCellsGrant | transactionBegin | transactionEnd | resetRelease => exact own.elim
  | replyRead q | status q | eventsRead q | shaftLatch q | shaftRead q | getConstants q | disarm q | resume q | restart q
  | clearStop q | continueRun q | opSuspend q | opResume q | opAbort q | opStatus q =>
    obtain rfl := own
    rfl
  | unknownCommand q code =>
    obtain rfl := own
    exact readFrame_unknown_code q time (by simpa [Instr.wellFormed] using fit)
  | eventsClear q x | eventsEnable q x =>
    obtain rfl := own
    conv_rhs => rw [← readsWord x]
    rfl
  | setConstants q k t =>
    obtain ⟨rfl, rfl⟩ := own
    exact readFrame_setConstants q t fit
  | setSource q a t | simGate q a t =>
    obtain ⟨rfl, rfl⟩ := own
    conv_rhs => rw [← reads1 fit]
    rfl
  | simSpeed q a t =>
    obtain ⟨rfl, rfl⟩ := own
    conv_rhs => rw [← reads2 fit]
    rfl
  | regionClear q a | regionGet q a | lock q a | unlock q a | lockDown q a | mapCancel q a | mapClear q a | mapGet q a
  | seqGet q a | home q a | getBar q a =>
    obtain rfl := own
    conv_rhs => rw [← reads1 fit]
    rfl
  | seqForm q a b | placeBar q a b | queueRead q a b | opCheck q a b =>
    obtain rfl := own
    obtain ⟨ha, hb⟩ := (Bool.and_eq_true _ _).mp fit
    conv_rhs => rw [← reads1 ha, ← reads1 hb]
    rfl
  | seqRepeat q a b =>
    obtain rfl := own
    obtain ⟨ha, hb⟩ := (Bool.and_eq_true _ _).mp fit
    conv_rhs => rw [← reads1 ha, ← reads2 hb]
    rfl
  | readCells q a n =>
    obtain rfl := own
    obtain ⟨ha, hn⟩ := (Bool.and_eq_true _ _).mp fit
    conv_rhs => rw [← reads3 ha, ← reads1 hn]
    rfl
  | opFill q a x =>
    obtain rfl := own
    conv_rhs => rw [← reads1 fit, ← readsWord x]
    rfl
  | writeCells q a n cells =>
    obtain rfl := own
    simp only [Instr.wellFormed, Bool.and_eq_true, beq_iff_eq] at fit
    obtain ⟨⟨address, count⟩, carried⟩ := fit
    exact readFrame_writeCells address count carried
  | regionSet q a b c =>
    obtain rfl := own
    simp only [Instr.wellFormed, Bool.and_eq_true] at fit
    obtain ⟨⟨ha, hb⟩, hc⟩ := fit
    conv_rhs => rw [← reads1 ha, ← reads3 hb, ← reads3 hc]
    rfl
  | opCopy q a b c =>
    obtain rfl := own
    simp only [Instr.wellFormed, Bool.and_eq_true] at fit
    obtain ⟨⟨ha, hb⟩, hc⟩ := fit
    conv_rhs => rw [← reads3 ha, ← reads3 hb, ← reads3 hc]
    rfl
  | setClass q a b c | arm q a b c =>
    obtain rfl := own
    simp only [Instr.wellFormed, Bool.and_eq_true] at fit
    obtain ⟨⟨ha, hb⟩, hc⟩ := fit
    conv_rhs => rw [← reads1 ha, ← reads2 hb, ← reads2 hc]
    rfl
  | map q a b c d x =>
    obtain rfl := own
    simp only [Instr.wellFormed, Bool.and_eq_true] at fit
    obtain ⟨⟨⟨ha, hb⟩, hc⟩, hd⟩ := fit
    conv_rhs => rw [← reads1 ha, ← reads3 hb, ← reads2 hc, ← reads1 hd, ← readsWord x]
    rfl
  | seqWrite q a b c d =>
    obtain rfl := own
    simp only [Instr.wellFormed, Bool.and_eq_true] at fit
    obtain ⟨⟨⟨ha, hb⟩, hc⟩, hd⟩ := fit
    conv_rhs => rw [← reads1 ha, ← reads1 hb, ← reads2 hc, ← reads1 hd]
    rfl
  | setBar q a b c d e f =>
    obtain rfl := own
    simp only [Instr.wellFormed, Bool.and_eq_true] at fit
    obtain ⟨⟨⟨⟨⟨ha, hb⟩, hc⟩, hd⟩, he⟩, hf⟩ := fit
    conv_rhs => rw [← reads1 ha, ← reads1 hb, ← reads1 hc, ← reads1 hd, ← reads1 he, ← reads1 hf]
    rfl

end Sys2Proof.Machine
end


section
/-! O1 and O2: what a step runs, and the queue of waiting commands, which no command changes. -/

namespace Sys2Proof.Machine

/-! ### What a step runs -/

/-- The command at the front of the queue is run on the state with the rest waiting. -/
theorem step_of_pending_cons {c : Instr} {rest : List Instr} {s : State} (h : s.pending = c :: rest) :
    step s = exec c { s with pending := rest } := by rw [step, h]

/-- With no command waiting the timebase ticks. -/
theorem step_of_pending_nil {s : State} (h : s.pending = []) : step s = .next s.tick := by rw [step, h]

/-- Settles O1, by whether a command waits. -/
theorem stepRunsTheFrontCommand : Obligations.StepRunsTheFrontCommand :=
  ⟨fun _ _ _ => step_of_pending_cons, fun _ => step_of_pending_nil⟩

/-! ### The queue of waiting commands stands -/

/-- From `s` to `t` the queue of waiting commands stands as it was. -/
abbrev WaitingKept (s t : State) : Prop := t.pending = s.pending

theorem waitingKept_blind : PortBlind WaitingKept := ⟨fun _ => rfl, fun h k => k.trans h, State.setPort_pending⟩

/-- A timed event moves the timebase first. -/
theorem timed_waitingKept {f : State → State} (h : ∀ u, WaitingKept u (f u)) (t : Nat) (s : State) :
    WaitingKept s ((s.elapse t).unlessHeld f) := waitingKept_blind.unlessHeld h (s.elapse t)

/-- A judged command keeps the queue where its effect does. -/
theorem command_waitingKept {refusal : State → Option Reply} {effect : State → State} {data : State → List Byte}
    (h : ∀ u, WaitingKept u (effect u)) (p : Port) (onlyM : Bool) (i : Instr) (s : State) :
    WaitingKept s (s.command p onlyM i (judged refusal effect data)) :=
  waitingKept_blind.command (fun u _ => h u) p onlyM i s

theorem timedCommand_waitingKept {refusal : State → Option Reply} {effect : State → State} {data : State → List Byte}
    (h : ∀ u, WaitingKept u (effect u)) (p : Port) (onlyM : Bool) (i : Instr) (t : Nat) (s : State) :
    WaitingKept s ((s.elapse t).command p onlyM i (judged refusal effect data)) :=
  command_waitingKept h p onlyM i (s.elapse t)

/-! ### The builder, the grants and the engine -/

theorem BuilderSide.waitingKept {s t : State} (h : BuilderSide s t) : WaitingKept s t := by rw [h.frame]

theorem endFetch_waitingKept (s : State) : WaitingKept s s.endFetch := by
  unfold State.endFetch
  split <;> rfl

theorem appendBuild_waitingKept (b : Build) (s : State) : WaitingKept s (s.appendBuild b) :=
  ((appended_announced b s).trans (tryPlacement_runSide _)).pending

theorem runChunk_waitingKept (op : Operation) (s : State) : WaitingKept s (s.runChunk op) := by
  rw [runChunk_eq]

theorem endAccess_waitingKept (p : Port) (r : Reply) (s : State) : WaitingKept s (s.endAccess p r) :=
  State.setSlot_pending p (.ready r) s

theorem writeInGrant_waitingKept (p : Port) (a : Nat) (cells : List Cell) (s : State) :
    WaitingKept s (s.writeInGrant p a cells).1 := by
  unfold State.writeInGrant
  split <;> rfl

theorem completeAccess_waitingKept (s : State) : WaitingKept s s.completeAccess := by
  rcases completeAccess_cases s with e | ⟨p, a, cells, -, e⟩ <;> rw [e]
  exact writeInGrant_waitingKept p a cells s

theorem launch_waitingKept (e : Engine) (s : State) : WaitingKept s (s.launch e) := by
  rw [launch_eq]

theorem overwrite_waitingKept (target : Extent) (kind : OpKind) (p : Port) (total : Nat) (extents : List Extent)
    (s : State) : WaitingKept s (s.overwrite target kind p total extents) := launch_waitingKept _ (s.unverify target)

/-! ### The commands' effects -/

theorem waitForGrant_waitingKept (p : Port) (refusal : State → Option Reply) (x : Access) (s : State) :
    WaitingKept s (waitForGrant p refusal x s).1 := by
  unfold waitForGrant
  split <;> rfl

theorem mapEffect_waitingKept (g : Nat) (m : Mapping) (s : State) : WaitingKept s (mapEffect g m s) := by
  unfold mapEffect
  split <;> rfl

theorem mapCancelEffect_waitingKept (g : Nat) (s : State) : WaitingKept s (mapCancelEffect g s) := by
  unfold mapCancelEffect
  split <;> rfl

theorem setConstantsEffect_waitingKept (k : MachineConstants) (s : State) : WaitingKept s (setConstantsEffect k s) := by
  rw [setConstantsEffect_eq]

theorem setSourceEffect_waitingKept (x : Nat) (s : State) : WaitingKept s (setSourceEffect x s) := by
  unfold setSourceEffect
  split
  · rfl
  · split
    · rfl
    · exact (loseEnabled_runSide _).pending

theorem simGateEffect_waitingKept (x : Nat) (s : State) : WaitingKept s (simGateEffect x s) := by
  unfold simGateEffect
  split <;> rfl

theorem armEffect_waitingKept (e r c : Nat) (s : State) : WaitingKept s (armEffect e r c s) :=
  (tryPlacement_runSide (s.arming _)).pending

theorem resumeEffect_waitingKept (s : State) : WaitingKept s (resumeEffect s) :=
  (tryPlacement_runSide s.resuming).pending

theorem restartEffect_waitingKept (s : State) : WaitingKept s (restartEffect s) := (purge_runSide s).pending

theorem continueEffect_waitingKept (s : State) : WaitingKept s (continueEffect s) := by
  rw [continueEffect_eq]
  rfl

theorem opCheckEffect_waitingKept (p : Port) (g w : Nat) (s : State) : WaitingKept s (opCheckEffect p g w s) := by
  unfold opCheckEffect
  split
  · rfl
  · exact launch_waitingKept _ s

theorem opSuspendEffect_waitingKept (s : State) : WaitingKept s (opSuspendEffect s) := by
  unfold opSuspendEffect
  split <;> rfl

theorem opResumeEffect_waitingKept (s : State) : WaitingKept s (opResumeEffect s) := by
  unfold opResumeEffect
  split
  · exact launch_waitingKept _ s
  · rfl

theorem opAbortEffect_waitingKept (s : State) : WaitingKept s (opAbortEffect s) := by
  unfold opAbortEffect
  split
  · rfl
  · split
    · rfl
    · rw [endOp_eq]
      rfl

/-! ### Every command and event -/

theorem exec_waitingKept {c : Instr} {s t : State} (h : exec c s = .next t) : WaitingKept s t := by
  have next {u : State} (e : exec c s = .next u) (k : WaitingKept s u) : WaitingKept s t :=
    Host.Outcome.next.inj (e.symm.trans h) ▸ k
  cases c with
  | powerUp | resetRelease => exact next rfl rfl
  | resetInput => exact next rfl (completeAccess_waitingKept s)
  | encoderCount e time =>
    refine next rfl (timed_waitingKept (fun u => ?_) time s)
    split
    · cases e with
      | forward | reverse => exact (takeCount_shaftSide _ _ u).pending
      | together => rfl
    · rfl
  | encoderIndex =>
    refine next rfl (waitingKept_blind.unlessHeld (fun u => ?_) s)
    split
    · exact (takeIndex_shaftSide u).pending
    · rfl
  | simulatedCount time =>
    refine next rfl (timed_waitingKept (fun u => ?_) time s)
    split
    · split
      · exact (simulate_shaftSide _ u).pending
      · rfl
    · rfl
  | stillTimerExpiry time =>
    refine next rfl (timed_waitingKept (fun u => ?_) time s)
    split
    · split <;> rfl
    · rfl
  | buildBegin =>
    refine next rfl (waitingKept_blind.unlessHeld (fun u => ?_) s)
    split
    · exact (watchCeiling_builderSide (beginBuild_builderSide u)).waitingKept
    · rfl
  | builderFetch =>
    rcases builderFetch_cases h with rfl | rfl
    · rfl
    · exact endFetch_waitingKept s
  | append =>
    refine next rfl (waitingKept_blind.unlessHeld (fun u => ?_) s)
    split
    · exact (raiseIf_runSide _ _ _).pending.trans (appendBuild_waitingKept _ u)
    · rfl
  | orderFrameSent lane time => exact next rfl (timed_waitingKept (fun u => (frameSent_runSide lane u).pending) time s)
  | taken lane address time =>
    exact next rfl (timed_waitingKept (fun u => (driveReply_runSide lane address _ u).pending) time s)
  | inPosition lane address position =>
    refine next rfl ?_
    split
    · exact waitingKept_blind.unlessHeld (fun u => (driveReply_runSide lane address _ u).pending) s
    · rfl
  | fault lane address code =>
    refine next rfl ?_
    split
    · rfl
    · exact waitingKept_blind.unlessHeld (fun u => (driveReply_runSide lane address _ u).pending) s
  | replyFrameIgnored lane frame time =>
    refine next rfl ?_
    split
    · rfl
    · exact timed_waitingKept (fun u => (driveReply_runSide lane _ _ u).pending) time s
  | takeLimitExpiry bar time =>
    exact next rfl (timed_waitingKept (fun u => (takeLimitReached_runSide bar u).pending) time s)
  | moveLimitExpiry bar time =>
    exact next rfl (timed_waitingKept (fun u => (moveLimitReached_runSide bar u).pending) time s)
  | chunk =>
    rcases chunk_cases h with rfl | ⟨op, -, -, -, rfl⟩
    · rfl
    · exact runChunk_waitingKept op s
  | readCellsGrant port =>
    rcases readCellsGrant_cases h with rfl | ⟨r, rfl⟩
    · rfl
    · exact endAccess_waitingKept port r s
  | writeCellsGrant port =>
    rcases writeCellsGrant_cases h with rfl | ⟨a, cells, r, -, rfl⟩
    · rfl
    · exact (endAccess_waitingKept port r _).trans (writeInGrant_waitingKept port a cells s)
  | transactionBegin port =>
    refine next rfl ?_
    split
    · exact State.setPort_pending port _ s
    · split
      · exact State.setPort_pending port _ s
      · rfl
  | transactionEnd port bits => exact next rfl (State.setPort_pending port _ s)
  | replyRead port =>
    refine next rfl ?_
    split
    · exact State.setPort_pending port _ s
    · rfl
  | unknownCommand port code => exact next rfl (waitingKept_blind.take (fun _ => rfl) port _ _ s)
  | status port =>
    exact next rfl
      (waitingKept_blind.take (body := judged (fun _ => none) id (statusData port)) (fun _ => rfl) port _ _ s)
  | eventsClear port | eventsEnable port =>
    exact next rfl (command_waitingKept (fun u => State.setPort_pending port _ u) port _ _ s)
  | setConstants port k time =>
    exact next rfl (timedCommand_waitingKept (setConstantsEffect_waitingKept k) port _ _ time s)
  | setSource port x time =>
    exact next rfl (timedCommand_waitingKept (setSourceEffect_waitingKept x) port _ _ time s)
  | simSpeed port x time =>
    refine next rfl (timedCommand_waitingKept (fun _ => ?_) port _ _ time s)
    rfl
  | simGate port x time =>
    exact next rfl (timedCommand_waitingKept (simGateEffect_waitingKept x) port _ _ time s)
  | readCells port | writeCells port =>
    exact next rfl (waitingKept_blind.take (waitForGrant_waitingKept port _ _) port _ _ s)
  | map port g => exact next rfl (command_waitingKept (mapEffect_waitingKept g _) port _ _ s)
  | mapCancel port g => exact next rfl (command_waitingKept (mapCancelEffect_waitingKept g) port _ _ s)
  | home port bar => exact next rfl (command_waitingKept (fun u => (homeEffect_runSide bar u).pending) port _ _ s)
  | placeBar port bar x =>
    exact next rfl (command_waitingKept (fun u => (orderTo_runSide bar x none u).pending) port _ _ s)
  | arm port e r c => exact next rfl (command_waitingKept (armEffect_waitingKept e r c) port _ _ s)
  | resume port => exact next rfl (command_waitingKept resumeEffect_waitingKept port _ _ s)
  | restart port => exact next rfl (command_waitingKept restartEffect_waitingKept port _ _ s)
  | continueRun port => exact next rfl (command_waitingKept continueEffect_waitingKept port _ _ s)
  | opFill port | opCopy port =>
    exact next rfl (command_waitingKept (fun u => overwrite_waitingKept _ _ _ _ _ u) port _ _ s)
  | opCheck port g w => exact next rfl (command_waitingKept (opCheckEffect_waitingKept port g w) port _ _ s)
  | opSuspend port => exact next rfl (command_waitingKept opSuspendEffect_waitingKept port _ _ s)
  | opResume port => exact next rfl (command_waitingKept opResumeEffect_waitingKept port _ _ s)
  | opAbort port => exact next rfl (command_waitingKept opAbortEffect_waitingKept port _ _ s)
  | eventsRead port | shaftLatch port | shaftRead port | getConstants port | regionSet port | regionClear port
  | regionGet port | lock port | unlock port | lockDown port | mapClear port | mapGet port | seqWrite port
  | seqForm port | seqRepeat port | seqGet port | setClass port | setBar port | getBar port | queueRead port
  | disarm port | clearStop port | opStatus port =>
    refine next rfl (command_waitingKept (fun _ => ?_) port _ _ s)
    rfl

/-- Settles O2: every command and event leaves the queue of waiting commands as it stands. -/
theorem commandsKeepTheWaitingQueue : Obligations.CommandsKeepTheWaitingQueue := fun _ _ _ => exec_waitingKept

end Sys2Proof.Machine
end


section
/-! O3: the model stops only where a grant would reach a cell that does not exist (R19; log entry 31). -/

namespace Sys2Proof.Machine

/-! ### The grants -/

/-- An answer that is a next state, or a stop at a cell that does not exist. -/
def StopsOnlyOutside (r : Result) : Prop :=
  (∃ t, r = .next t) ∨ ∃ a, r = .fault (.noSuchCell a) ∧ memorySize ≤ a

theorem stopsOnlyOutside_next (t : State) : StopsOnlyOutside (.next t) := .inl ⟨t, rfl⟩

/-- A grant of the cells before `n` stops only where its last cell lies outside the memory. -/
theorem stopsOnlyOutside_reaching (n : Nat) (t : State) :
    StopsOnlyOutside (if memorySize < n then .fault (.noSuchCell (n - 1)) else .next t) := by
  split
  · next beyond => exact .inr ⟨n - 1, rfl, Nat.le_sub_one_of_lt beyond⟩
  · exact stopsOnlyOutside_next t

theorem execBuilderFetch_stopsOnlyOutside (s : State) : StopsOnlyOutside (execBuilderFetch s) := by
  unfold execBuilderFetch
  split
  · split
    · exact stopsOnlyOutside_reaching _ _
    · exact stopsOnlyOutside_next _
  · exact stopsOnlyOutside_next s

theorem execChunk_stopsOnlyOutside (s : State) : StopsOnlyOutside (execChunk s) := by
  unfold execChunk
  split
  · exact stopsOnlyOutside_reaching _ _
  · exact stopsOnlyOutside_next s

theorem execReadCellsGrant_stopsOnlyOutside (p : Port) (s : State) : StopsOnlyOutside (execReadCellsGrant p s) := by
  unfold execReadCellsGrant
  split
  · split
    · exact stopsOnlyOutside_reaching _ _
    · exact stopsOnlyOutside_next s
  · exact stopsOnlyOutside_next s

theorem execWriteCellsGrant_stopsOnlyOutside (p : Port) (s : State) : StopsOnlyOutside (execWriteCellsGrant p s) := by
  unfold execWriteCellsGrant
  split
  · split
    · exact stopsOnlyOutside_reaching _ _
    · exact stopsOnlyOutside_next s
  · exact stopsOnlyOutside_next s

/-! ### Every row -/

/-- The four rows of a grant. -/
def GrantRow (c : Instr) : Prop := c = .builderFetch ∨ c = .chunk ∨ ∃ p, c = .readCellsGrant p ∨ c = .writeCellsGrant p

theorem exec_stopsOnlyOutside {c : Instr} (h : GrantRow c) (s : State) : StopsOnlyOutside (exec c s) := by
  rcases h with rfl | rfl | ⟨p, rfl | rfl⟩
  · exact execBuilderFetch_stopsOnlyOutside s
  · exact execChunk_stopsOnlyOutside s
  · exact execReadCellsGrant_stopsOnlyOutside p s
  · exact execWriteCellsGrant_stopsOnlyOutside p s

/-- Every other row has a next state in every state. -/
theorem exec_next_of_not_grantRow {c : Instr} (h : ¬ GrantRow c) (s : State) : ∃ t, exec c s = .next t := by
  cases c with
  | builderFetch => exact absurd (.inl rfl) h
  | chunk => exact absurd (.inr (.inl rfl)) h
  | readCellsGrant p => exact absurd (.inr (.inr ⟨p, .inl rfl⟩)) h
  | writeCellsGrant p => exact absurd (.inr (.inr ⟨p, .inr rfl⟩)) h
  | _ => exact ⟨_, rfl⟩

/-- Settles O3: a row of a grant stops only outside the memory, and every other row completes. -/
theorem onlyMissingCellsStopTheModel : Obligations.OnlyMissingCellsStopTheModel := by
  intro c s
  by_cases row : GrantRow c
  · rcases exec_stopsOnlyOutside row s with completes | ⟨a, stops, outside⟩
    · exact .inl completes
    · exact .inr ⟨a, stops, outside, row⟩
  · exact .inl (exec_next_of_not_grantRow row s)

end Sys2Proof.Machine
end
